-- ==== Sys2Proof/Word.lean ====
section
/-!
DEFINITION. The word types of the machine: what the spec treats as bits.
-/
namespace Sys2Proof

/-- A 64-bit word: a general register, a channel word, a control register (R14). -/
abbrev W64 := BitVec 64
/-- A 32-bit word: an address register, a code address, a slot of 32 bits (R14). -/
abbrev W32 := BitVec 32
/-- A 16-bit word: a code word (R49). -/
abbrev W16 := BitVec 16
/-- One byte of memory. -/
abbrev Byte := BitVec 8
/-- One row of an accumulator tile: 4,096 bits, lane 0 lowest (R156). -/
abbrev Row := BitVec 4096

end Sys2Proof
end

