-- ==== Sys2Proof/Config.lean ====
section
/-!
DEFINITION. What the manual leaves open: constants without a body, so that no proof can see their values.
-/
namespace Sys2Proof.Config

/-- The module's number in the plane (R366, R405); the manual does not say how a module learns it. -/
opaque moduleNumber : Fin 256

/-- The module's serial number (R456). -/
opaque moduleSerial : W64

/-- A free 64-bit value for each count of the machine's own free-value counter. -/
opaque freeWord : Nat → W64

/-- The plot key of R371, byte by byte, from the plot number and the plot generation. The device secret and the derivation of the
key are not in the manual. -/
opaque plotKey : Nat → Nat → Nat → Byte

/-- One step of a verification signature (R355): the running value and the words taken in. The manual names CRC-32C and
does not fix how a value is laid out in bytes. -/
opaque sigStep : W32 → List W64 → W32

/-- The 84 bytes that a report's digests take: the boot chain's, and the level's policy and grants (R456). -/
opaque bootDigest : List Byte
opaque levelDigest : Nat → List W64 → List Byte

/-- The signature of a report over its bytes (R456), byte by byte. -/
opaque reportSignature : Nat → List Byte → Nat → Byte

/-- Whether the store for registered code has room (R333), by the bytes that it holds and those that come; its size is not given. -/
opaque storeTakes : Nat → Nat → Bool

/-- DEVCERT (R438): the byte at an offset of the certificate chain. -/
opaque devCert : Nat → Byte

/-- Whether a step of a start completes (R462, R464), by the count of starts and the step. -/
opaque startStepOk : Nat → Nat → Bool

/-- Whether a warm start may skip training (R463), by the count of starts. -/
opaque trainingKept : Nat → Bool

end Sys2Proof.Config
end

