-- ==== Sys2Proof/Machine/Bits.lean ====
section
/-!
DEFINITION. Bit fields, sign extension, byte order and lanes: the helpers that every operation shares.
-/
namespace Sys2Proof.Machine

/-- Bits [lo + n − 1 : lo] of a number. -/
def bits (v lo n : Nat) : Nat := v / 2 ^ lo % 2 ^ n

/-- One bit of a number. -/
def bitAt (v n : Nat) : Bool := v / 2 ^ n % 2 == 1

/-- A number of n bits read as two's complement (R130). -/
def toS (n v : Nat) : Int := if v % 2 ^ n < 2 ^ (n - 1) then (v % 2 ^ n : Nat) else (v % 2 ^ n : Nat) - (2 ^ n : Nat)

/-- An integer modulo 2^n (R131). -/
def wrap (n : Nat) (x : Int) : Nat := (x % (2 ^ n : Nat)).toNat

/-- clamp(x, lo, hi) (R131). -/
def clampInt (x lo hi : Int) : Int := if x < lo then lo else if hi < x then hi else x

/-- The signed range of n bits. -/
def smin (n : Nat) : Int := -(2 ^ (n - 1) : Nat)
def smax (n : Nat) : Int := (2 ^ (n - 1) : Nat) - 1

/-- sext of a field of n bits to m bits. -/
def sext (n m v : Nat) : Nat := wrap m (toS n v)

/-- Replace bits [lo + n − 1 : lo] of v. -/
def setBits (v lo n x : Nat) : Nat :=
  v / 2 ^ (lo + n) * 2 ^ (lo + n) + x % 2 ^ n * 2 ^ lo + v % 2 ^ lo

/-- Replace one bit of a 64-bit word (R24). -/
def setBit (r : W64) (n : Nat) (b : Bool) : W64 := BitVec.ofNat 64 (setBits r.toNat n 1 b.toNat)

/-- The number with its low n bits in reverse order. -/
def revBits : Nat → Nat → Nat
  | 0, _ => 0
  | n + 1, v => v % 2 * 2 ^ n + revBits n (v / 2)

/-- The number of ones among the low n bits. -/
def popc : Nat → Nat → Nat
  | 0, _ => 0
  | n + 1, v => v % 2 + popc n (v / 2)

/-- Zeros above the highest one of n bits; n for 0. -/
def clz (n v : Nat) : Nat := if v % 2 ^ n = 0 then n else n - 1 - (v % 2 ^ n).log2

/-- Zeros below the lowest one of n bits; n for 0. -/
def ctz : Nat → Nat → Nat
  | 0, _ => 0
  | n + 1, v => if v % 2 = 1 then 0 else 1 + ctz n (v / 2)

/-- n bits of v rotated left by c. -/
def rotl (n v c : Nat) : Nat := (v * 2 ^ (c % n) + v / 2 ^ (n - c % n)) % 2 ^ n

/-- Bitwise complement of n bits. -/
def compl (n v : Nat) : Nat := 2 ^ n - 1 - v % 2 ^ n

/-- A number as n bytes, the lowest first (R3). -/
def toBytes : Nat → Nat → List Byte
  | 0, _ => []
  | n + 1, v => BitVec.ofNat 8 v :: toBytes n (v / 256)

/-- The number that bytes hold, the lowest first (R3). -/
def ofBytes : List Byte → Nat
  | [] => 0
  | b :: bs => b.toNat + 256 * ofBytes bs

/-- The lanes of a row at width w, lane 0 first (R156). -/
def lanes (w : Nat) (r : Row) : List Nat :=
  (List.range (4096 / w)).map fun i => bits r.toNat (w * i) w

/-- Lane i of a row at width w. -/
def lane (w : Nat) (r : Row) (i : Nat) : Nat := bits r.toNat (w * i) w

/-- The row whose lanes at width w are these, the first lane lowest. -/
def ofLanes (w : Nat) (l : List Nat) : Row :=
  BitVec.ofNat 4096 (l.foldr (fun x acc => acc * 2 ^ w + x % 2 ^ w) 0)

/-- Every lane the same (R65, R160). -/
def splat (w v : Nat) : Row := ofLanes w (List.replicate (4096 / w) v)

/-- A lane of all ones or of zero (R164). -/
def maskLane (w : Nat) (b : Bool) : Nat := if b then 2 ^ w - 1 else 0

/-- Element i of a list, or a default. -/
def nth {α : Type} (l : List α) (i : Nat) (d : α) : α := l.getD i d

/-- Replace element i of a list. -/
def upd {α : Type} (l : List α) (i : Nat) (x : α) : List α := l.set i x

/-! ### Tables: sorted lists of key and value -/

/-- A table from numbers to data, keys strictly rising. -/
abbrev Tab (α : Type) := List (Nat × α)

/-- The entry of a key. -/
def Tab.find {α : Type} : Tab α → Nat → Option α
  | [], _ => none
  | (k, v) :: t, n => if n = k then some v else Tab.find t n

/-- The entry of a key, or what an unlisted key holds. -/
def Tab.get {α : Type} (t : Tab α) (n : Nat) (d : α) : α := (Tab.find t n).getD d

/-- Set a key's entry, keeping the order. -/
def Tab.set {α : Type} : Tab α → Nat → α → Tab α
  | [], n, x => [(n, x)]
  | (k, v) :: t, n, x =>
    if n < k then (n, x) :: (k, v) :: t
    else if n = k then (n, x) :: t
    else (k, v) :: Tab.set t n x

/-- Remove a key. -/
def Tab.erase {α : Type} (t : Tab α) (n : Nat) : Tab α := t.filter fun e => e.1 != n

/-- Change every entry. -/
def Tab.mapVals {α : Type} (t : Tab α) (f : Nat → α → α) : Tab α := List.map (fun e => (e.1, f e.1 e.2)) t

end Sys2Proof.Machine
end

