-- ==== Sys2Proof/Machine/Crypto.lean ====
section
/-!
DEFINITION. The two standard functions that the manual names: HMAC-SHA-512 of a continuation object's seal (R371), and AES-256-XTS of an
encrypted page (R450). Their tables are computed from the definitions of the standards, FIPS 180-4, FIPS 198-1, FIPS 197 and IEEE 1619,
which the manual does not repeat (PRESUMED, log entry 173).
-/
namespace Sys2Proof.Machine

/-! ### SHA-512 -/

/-- The first n primes, by trial division from a number on. -/
def primesFrom : Nat → Nat → List Nat → List Nat
  | 0, _, acc => acc
  | f + 1, n, acc => primesFrom f (n + 1) (if acc.all fun p => n % p != 0 then acc ++ [n] else acc)

def firstPrimes (n : Nat) : List Nat := (primesFrom 410 2 []).take n

/-- The greatest number below 2^b whose k-th power is at most x, bit by bit from the highest. -/
def rootBits (k x : Nat) : Nat → Nat → Nat
  | 0, acc => acc
  | b + 1, acc => rootBits k x b (if (acc + 2 ^ b) ^ k ≤ x then acc + 2 ^ b else acc)

/-- The first 64 bits of the fractional part of a prime's square root or cube root. -/
def fracRoot (k p : Nat) : W64 := BitVec.ofNat 64 (rootBits k (p * 2 ^ (64 * k)) 70 0)

def shaRound : List W64 := (firstPrimes 80).map (fracRoot 3)
def shaStart : List W64 := (firstPrimes 8).map (fracRoot 2)

/-- The message schedule, the latest word first. -/
def shaExtend : Nat → List W64 → List W64
  | 0, w => w
  | n + 1, w =>
    let x := w.getD 1 0
    let y := w.getD 14 0
    let s1 := x.rotateRight 19 ^^^ x.rotateRight 61 ^^^ x >>> 6
    let s0 := y.rotateRight 1 ^^^ y.rotateRight 8 ^^^ y >>> 7
    shaExtend n ((s1 + w.getD 6 0 + s0 + w.getD 15 0) :: w)

/-- One round on the working variables a to h. -/
def shaStep (v : List W64) (kw : W64 × W64) : List W64 :=
  let a := v.getD 0 0
  let e := v.getD 4 0
  let t1 := v.getD 7 0 + (e.rotateRight 14 ^^^ e.rotateRight 18 ^^^ e.rotateRight 41) +
    ((e &&& v.getD 5 0) ^^^ (~~~e &&& v.getD 6 0)) + kw.1 + kw.2
  let t2 := (a.rotateRight 28 ^^^ a.rotateRight 34 ^^^ a.rotateRight 39) +
    ((a &&& v.getD 1 0) ^^^ (a &&& v.getD 2 0) ^^^ (v.getD 1 0 &&& v.getD 2 0))
  [t1 + t2, a, v.getD 1 0, v.getD 2 0, v.getD 3 0 + t1, e, v.getD 5 0, v.getD 6 0]

/-- A big-endian number. -/
def ofBytesBe (l : List Byte) : Nat := l.foldl (fun n b => n * 256 + b.toNat) 0

/-- One block of 128 bytes. -/
def shaBlock (h : List W64) (b : List Byte) : List W64 :=
  let w := (List.range 16).map fun i => BitVec.ofNat 64 (ofBytesBe ((b.drop (8 * i)).take 8))
  let v := (shaRound.zip (shaExtend 64 w.reverse).reverse).foldl shaStep h
  List.zipWith (· + ·) h v

/-- The blocks of a padded message. -/
def shaBlocks : Nat → List W64 → List Byte → List W64
  | 0, h, _ => h
  | n + 1, h, m => shaBlocks n (shaBlock h (m.take 128)) (m.drop 128)

def sha512 (m : List Byte) : List Byte :=
  let n := (m.length + 17 + 127) / 128
  let pad := m ++ [0x80] ++ List.replicate (128 * n - m.length - 17) 0 ++ (toBytes 16 (8 * m.length)).reverse
  (shaBlocks n shaStart pad).flatMap fun w => (toBytes 8 w.toNat).reverse

/-- HMAC-SHA-512 under a key of at most 128 bytes. -/
def hmacSha512 (key m : List Byte) : List Byte :=
  let k := key ++ List.replicate (128 - key.length) 0
  sha512 (k.map (· ^^^ 0x5C) ++ sha512 (k.map (· ^^^ 0x36) ++ m))

/-! ### AES-256 -/

/-- Multiplication by x modulo x⁸ + x⁴ + x³ + x + 1. -/
def xtime (b : Byte) : Byte := if b.getLsbD 7 then b <<< 1 ^^^ 0x1B else b <<< 1

/-- The product of two bytes in that field. -/
def gfMul : Nat → Byte → Byte → Byte
  | 0, _, _ => 0
  | n + 1, a, b => (if b.getLsbD 0 then a else 0) ^^^ gfMul n (xtime a) (b >>> 1)

/-- b^254: the inverse, and 0 of 0. -/
def gfInv (b : Byte) : Byte := (List.range 253).foldl (fun x _ => gfMul 8 x b) b

def subByte (b : Byte) : Byte :=
  let i := gfInv b
  i ^^^ i.rotateLeft 1 ^^^ i.rotateLeft 2 ^^^ i.rotateLeft 3 ^^^ i.rotateLeft 4 ^^^ 0x63
def invSubByte (b : Byte) : Byte := gfInv (b.rotateLeft 1 ^^^ b.rotateLeft 3 ^^^ b.rotateLeft 6 ^^^ 0x05)

def xorBytes (a b : List Byte) : List Byte := List.zipWith (· ^^^ ·) a b

/-- The key schedule, 60 words of four bytes, the latest first. -/
def aesExpand : Nat → Nat → Byte → List (List Byte) → List (List Byte)
  | 0, _, _, w => w
  | n + 1, i, rc, w =>
    let t := w.headD []
    let u := if i % 8 = 0 then xorBytes ((t.drop 1 ++ t.take 1).map subByte) [rc, 0, 0, 0]
      else if i % 8 = 4 then t.map subByte else t
    aesExpand n (i + 1) (if i % 8 = 0 then xtime rc else rc) (xorBytes (w.getD 7 []) u :: w)

/-- The fifteen round keys of a 32-byte key. -/
def aesKeys (key : List Byte) : List (List Byte) :=
  let w := (aesExpand 52 8 1 ((List.range 8).map fun i => (key.drop (4 * i)).take 4).reverse).reverse
  (List.range 15).map fun r => ((w.drop (4 * r)).take 4).flatten

/-- The state's bytes with row r moved by r columns. -/
def shiftRows (inv : Bool) (s : List Byte) : List Byte :=
  (List.range 16).map fun i => s.getD ((i % 4) + 4 * ((i / 4 + (if inv then 4 - i % 4 else i % 4)) % 4)) 0

/-- Each column multiplied by the circulant of four bytes. -/
def mixColumns (c : List Byte) (s : List Byte) : List Byte :=
  (List.range 16).map fun i => (List.range 4).foldl (fun x j => x ^^^ gfMul 8 (s.getD (i / 4 * 4 + j) 0) (c.getD ((j + 4 - i % 4) % 4) 0)) 0

def aesEncrypt (keys : List (List Byte)) (b : List Byte) : List Byte :=
  let mid := (keys.drop 1).take 13
  let s := mid.foldl (fun s k => xorBytes (mixColumns [2, 3, 1, 1] (shiftRows false (s.map subByte))) k) (xorBytes b (keys.headD []))
  xorBytes (shiftRows false (s.map subByte)) (keys.getD 14 [])

def aesDecrypt (keys : List (List Byte)) (b : List Byte) : List Byte :=
  let mid := ((keys.drop 1).take 13).reverse
  let s := mid.foldl (fun s k => mixColumns [14, 11, 13, 9] (xorBytes ((shiftRows true s).map invSubByte) k)) (xorBytes b (keys.getD 14 []))
  xorBytes ((shiftRows true s).map invSubByte) (keys.headD [])

/-! ### XTS (R450) -/

/-- The tweak of the next block. -/
def xtsNext (t : List Byte) : List Byte :=
  let n := ofBytes t
  toBytes 16 (if 2 ^ 127 ≤ n then (BitVec.ofNat 128 (2 * n) ^^^ 0x87).toNat else 2 * n)

/-- Blocks of 16 bytes under a tweak. -/
def xtsBlocks (f : List Byte → List Byte) : Nat → List Byte → List Byte → List Byte
  | 0, _, _ => []
  | n + 1, t, d => xorBytes (f (xorBytes (d.take 16) t)) t ++ xtsBlocks f n (xtsNext t) (d.drop 16)

/-- A 128-byte line under a slot's two keys; the tweak is the line's number (R450). -/
def xtsLine (enc : Bool) (key : List W64) (line : Nat) (d : List Byte) : List Byte :=
  let kb := key.flatMap fun w => toBytes 8 w.toNat
  let k1 := aesKeys (kb.take 32)
  let t := aesEncrypt (aesKeys (kb.drop 32)) (toBytes 16 line)
  xtsBlocks (if enc then aesEncrypt k1 else aesDecrypt k1) 8 t d

end Sys2Proof.Machine
end

