-- ==== Sys2Proof/Machine/Float.lean ====
section
/-!
DEFINITION. Number formats and rounding (R130 to R155, R181): exact values, the five rounding modes, the flags, the
float operations on single elements, NQ4 and block float.
-/
namespace Sys2Proof.Machine

/-- Exception flags, bit by bit as R144 numbers them. -/
abbrev Flags := BitVec 6
def flNV : Flags := 1
def flDZ : Flags := 2
def flOF : Flags := 4
def flUF : Flags := 8
def flNX : Flags := 16
def flSA : Flags := 32

/-- A floating-point format (R132). -/
structure Fmt where
  ebits : Nat
  mbits : Nat
  bias : Nat
  /-- whether the all-ones exponent holds infinities and NaNs (not so for E4M3, R133) -/
  ieee : Bool
deriving DecidableEq, Repr

def fp32 : Fmt := ⟨8, 23, 127, true⟩
def bf16 : Fmt := ⟨8, 7, 127, true⟩
def fp16 : Fmt := ⟨5, 10, 15, true⟩
def e5m2 : Fmt := ⟨5, 2, 15, true⟩
def e4m3 : Fmt := ⟨4, 3, 7, false⟩

def Fmt.width (f : Fmt) : Nat := 1 + f.ebits + f.mbits
/-- The positive canonical NaN (R132). -/
def Fmt.nan (f : Fmt) : Nat :=
  if f.ieee then (2 ^ f.ebits - 1) * 2 ^ f.mbits + 2 ^ (f.mbits - 1) else 2 ^ (f.width - 1) - 1
/-- The bits of the largest finite value (R132). -/
def Fmt.maxBits (f : Fmt) : Nat :=
  if f.ieee then (2 ^ f.ebits - 1) * 2 ^ f.mbits - 1 else 2 ^ (f.width - 1) - 2
/-- The bits of +∞. -/
def Fmt.infBits (f : Fmt) : Nat := (2 ^ f.ebits - 1) * 2 ^ f.mbits
def Fmt.sign (f : Fmt) (neg : Bool) (b : Nat) : Nat := if neg then 2 ^ (f.width - 1) + b else b
/-- The exponent of the lowest subnormal. -/
def Fmt.umin (f : Fmt) : Int := 1 - (f.bias : Int) - (f.mbits : Int)

/-- What an encoding stands for (R133, R134): a number is m · 2^e with m ≠ 0. -/
inductive FV where
  | nan (signalling : Bool)
  | inf (neg : Bool)
  | zero (neg : Bool)
  | num (m : Int) (e : Int)
deriving DecidableEq, Repr

/-- Read an encoding (R133). -/
def Fmt.read (f : Fmt) (v : Nat) : FV :=
  let neg := bitAt v (f.width - 1)
  let ex := bits v f.mbits f.ebits
  let fr := v % 2 ^ f.mbits
  let sg : Int := if neg then -1 else 1
  if ex = 0 then
    if fr = 0 then .zero neg else .num (sg * fr) f.umin
  else if ex = 2 ^ f.ebits - 1 ∧ f.ieee then
    if fr = 0 then .inf neg else .nan (fr < 2 ^ (f.mbits - 1))
  else if ex = 2 ^ f.ebits - 1 ∧ fr = 2 ^ f.mbits - 1 then .nan false
  else .num (sg * (2 ^ f.mbits + fr : Nat)) (f.umin + (ex - 1 : Nat))

/-- The rounding modes (R137). -/
inductive RMode where
  | rne | rtz | rdn | rup | sr
deriving DecidableEq, Repr

/-- A rounding mode with the random bits H[63:32] that the stochastic mode uses (R137, R141). -/
structure Rc where
  mode : RMode
  h : Nat
deriving DecidableEq, Repr

def Rc.rne : Rc := ⟨.rne, 0⟩

/-- Whether the neighbour away from zero is chosen, from the remainder rem of s bits and what lies below it (R137). -/
def roundAway (rc : Rc) (neg : Bool) (lo rem s : Nat) (sticky : Bool) : Bool :=
  match rc.mode with
  | .rne => 2 ^ s < 2 * rem || (2 * rem == 2 ^ s && (sticky || lo % 2 == 1))
  | .rtz => false
  | .rdn => neg
  | .rup => !neg
  | .sr => rc.h < rem * 2 ^ 32 / 2 ^ s

/-- The result of an overflow (R138). -/
def overflowBits (f : Fmt) (rc : Rc) (neg : Bool) : Nat :=
  if !f.ieee then f.maxBits
  else match rc.mode with
  | .rne | .sr => f.infBits
  | .rtz => f.maxBits
  | .rdn => if neg then f.infBits else f.maxBits
  | .rup => if neg then f.maxBits else f.infBits

/-- Round the nonzero value ±(q + δ)·2^e, where 0 < δ < 1 when `sticky` and δ = 0 otherwise (R137 to R139). Where
sticky is set, q must reach at least 33 bits below the grid, which every caller sees to. -/
def roundTo (f : Fmt) (rc : Rc) (neg : Bool) (q : Nat) (e : Int) (sticky : Bool) : Nat × Flags :=
  let ex : Int := q.log2 + e
  let u : Int := max (ex - f.mbits) f.umin
  let s : Nat := (u - e).toNat
  let lo : Nat := if u ≤ e then q * 2 ^ (e - u).toNat else q / 2 ^ s
  let rem : Nat := if u ≤ e then 0 else q % 2 ^ s
  let exact := rem == 0 && !sticky
  let r := if !exact && roundAway rc neg lo rem s sticky then lo + 1 else lo
  let b := (u - f.umin).toNat * 2 ^ f.mbits + r
  if f.maxBits < b then (f.sign neg (overflowBits f rc neg), flOF ||| flNX)
  else
    let tiny := decide (ex < 1 - (f.bias : Int))
    (f.sign neg b, if exact then 0 else if tiny then flUF ||| flNX else flNX)

/-- Round m·2^e; an exact zero takes the sign given (R137, R139). -/
def roundNum (f : Fmt) (rc : Rc) (zneg : Bool) (m e : Int) : Nat × Flags :=
  if m = 0 then (f.sign zneg 0, 0) else roundTo f rc (m < 0) m.natAbs e false

/-- Write a value without choosing among neighbours it does not need (R137). -/
def Fmt.write (f : Fmt) (rc : Rc) : FV → Nat × Flags
  | .nan s => (f.nan, if s then flNV else 0)
  | .inf n => (f.sign n (if f.ieee then f.infBits else f.maxBits), if f.ieee then 0 else flNV)
  | .zero n => (f.sign n 0, 0)
  | .num m e => roundNum f rc false m e

/-- The sum of two dyadic numbers over their lower exponent. -/
def dyAdd (m1 e1 m2 e2 : Int) : Int × Int :=
  let e := min e1 e2
  (m1 * (2 ^ (e1 - e).toNat : Nat) + m2 * (2 ^ (e2 - e).toNat : Nat), e)

/-- The sign of an exact zero that operands of opposite sign, or equal operands subtracted, leave (R139). -/
def cancelNeg (rc : Rc) : Bool := rc.mode == .rdn

def FV.isNan : FV → Bool
  | .nan _ => true
  | _ => false
def FV.isSnan : FV → Bool
  | .nan s => s
  | _ => false
def FV.neg : FV → FV
  | .nan s => .nan s
  | .inf n => .inf !n
  | .zero n => .zero !n
  | .num m e => .num (-m) e

/-- x + y, exact, as a value to be rounded; an invalid sum is a signalling NaN (R102, R176). -/
def fvAdd (rc : Rc) (x y : FV) : FV :=
  match x, y with
  | .nan a, .nan b => .nan (a || b)
  | .nan a, _ => .nan a
  | _, .nan b => .nan b
  | .inf a, .inf b => if a = b then .inf a else .nan true
  | .inf a, _ => .inf a
  | _, .inf b => .inf b
  | .zero a, .zero b => .zero (if a = b then a else cancelNeg rc)
  | .zero _, .num m e => .num m e
  | .num m e, .zero _ => .num m e
  | .num m1 e1, .num m2 e2 =>
    let (m, e) := dyAdd m1 e1 m2 e2
    if m = 0 then .zero (cancelNeg rc) else .num m e

/-- x · y, exact. -/
def fvMul (x y : FV) : FV :=
  let sg : FV → Bool := fun
    | .nan _ => false | .inf n => n | .zero n => n | .num m _ => m < 0
  match x, y with
  | .nan a, .nan b => .nan (a || b)
  | .nan a, _ => .nan a
  | _, .nan b => .nan b
  | .inf _, .zero _ => .nan true
  | .zero _, .inf _ => .nan true
  | .inf _, _ => .inf (sg x != sg y)
  | _, .inf _ => .inf (sg x != sg y)
  | .zero _, _ => .zero (sg x != sg y)
  | _, .zero _ => .zero (sg x != sg y)
  | .num m1 e1, .num m2 e2 => .num (m1 * m2) (e1 + e2)

/-- Any signalling NaN among the inputs makes the result a NaN with NV (R102). -/
def snanIn (l : List FV) (r : FV) : FV := if l.any FV.isSnan then .nan true else r

def fAdd (f : Fmt) (rc : Rc) (x y : Nat) : Nat × Flags := f.write rc (fvAdd rc (f.read x) (f.read y))
def fSub (f : Fmt) (rc : Rc) (x y : Nat) : Nat × Flags := f.write rc (fvAdd rc (f.read x) (f.read y).neg)
def fMul (f : Fmt) (rc : Rc) (x y : Nat) : Nat × Flags := f.write rc (fvMul (f.read x) (f.read y))
/-- ±x·y ± d with one rounding (R101, R176). -/
def fvFma (f : Fmt) (rc : Rc) (negP negD : Bool) (x y d : FV) : Nat × Flags :=
  let p := fvMul x y
  let p := if negP then p.neg else p
  let d' := if negD then d.neg else d
  f.write rc (snanIn [x, y, d] (fvAdd rc p d'))
def fFma (f : Fmt) (rc : Rc) (negP negD : Bool) (x y d : Nat) : Nat × Flags :=
  fvFma f rc negP negD (f.read x) (f.read y) (f.read d)

/-- Order on numbers and infinities: −∞ below every number below +∞, both zeros equal. -/
def FV.key : FV → Option (Int × Int)
  | .num m e => some (m, e)
  | .zero _ => some (0, 0)
  | _ => none

def fvLt (x y : FV) : Bool :=
  match x, y with
  | .nan _, _ => false
  | _, .nan _ => false
  | .inf a, .inf b => a && !b
  | .inf a, _ => a
  | _, .inf b => !b
  | .zero _, .zero _ => false
  | .zero _, .num m _ => decide (0 < m)
  | .num m _, .zero _ => decide (m < 0)
  | .num m1 e1, .num m2 e2 => decide ((dyAdd m1 e1 (-m2) e2).1 < 0)

def fvEq (x y : FV) : Bool := !x.isNan && !y.isNan && !fvLt x y && !fvLt y x

/-- The compares of R103. -/
inductive FCmp where
  | eq | lt | le | un
deriving DecidableEq, Repr

def fCmp (f : Fmt) (c : FCmp) (x y : Nat) : Bool × Flags :=
  let a := f.read x
  let b := f.read y
  let nan := a.isNan || b.isNan
  let snan := a.isSnan || b.isSnan
  match c with
  | .eq => (fvEq a b, if snan then flNV else 0)
  | .lt => (fvLt a b, if nan then flNV else 0)
  | .le => (fvLt a b || fvEq a b, if nan then flNV else 0)
  | .un => (nan, if snan then flNV else 0)

/-- Minimum (`mx` false) and maximum, NaN-propagating or number-preferring (R102, R177). -/
def fMinMax (f : Fmt) (mx num : Bool) (x y : Nat) : Nat × Flags :=
  let a := f.read x
  let b := f.read y
  if a.isSnan || b.isSnan then (f.nan, flNV)
  else if a.isNan && b.isNan then (f.nan, 0)
  else if a.isNan then (if num then y % 2 ^ f.width else f.nan, 0)
  else if b.isNan then (if num then x % 2 ^ f.width else f.nan, 0)
  else match a, b with
  | .zero s, .zero t => (f.sign (if mx then s && t else s || t) 0, 0)
  | _, _ => ((if (if mx then fvLt a b else fvLt b a) then y else x) % 2 ^ f.width, 0)

/-- The one-hot class of R105. -/
def fClass (f : Fmt) (x : Nat) : Nat :=
  match f.read x with
  | .nan s => if s then 2 ^ 8 else 2 ^ 9
  | .inf n => if n then 1 else 2 ^ 7
  | .zero n => if n then 2 ^ 3 else 2 ^ 4
  | .num m _ =>
    let sub := bits x f.mbits f.ebits == 0
    if m < 0 then (if sub then 2 ^ 2 else 2 ^ 1) else (if sub then 2 ^ 5 else 2 ^ 6)

/-- Conversion between formats (R104, R142, R143): exact when widening, else rounded. -/
def fCvt (src dst : Fmt) (rc : Rc) (x : Nat) : Nat × Flags := dst.write rc (src.read x)

/-- A nonzero dyadic number rounded to an integer, with whether it was inexact. -/
def roundInt (rc : Rc) (m e : Int) : Int × Bool :=
  if 0 ≤ e then (m * (2 ^ e.toNat : Nat), false)
  else
    let s := (-e).toNat
    let q := m.natAbs / 2 ^ s
    let rem := m.natAbs % 2 ^ s
    let r := if rem ≠ 0 ∧ roundAway rc (m < 0) q rem s false then q + 1 else q
    (if m < 0 then -(r : Int) else r, rem != 0)

/-- Float to an integer of n bits (R104, R178). -/
def fToInt (f : Fmt) (rc : Rc) (n : Nat) (uns : Bool) (x : Nat) : Nat × Flags :=
  let lo : Int := if uns then 0 else smin n
  let hi : Int := if uns then (2 ^ n : Nat) - 1 else smax n
  match f.read x with
  | .nan _ => (0, flNV)
  | .inf neg => (wrap n (if neg then lo else hi), flNV)
  | .zero _ => (0, 0)
  | .num m e =>
    let (r, inexact) := roundInt rc m e
    if r < lo then (wrap n lo, flNV) else if hi < r then (wrap n hi, flNV)
    else (wrap n r, if inexact then flNX else 0)

/-- An integer to a float (R104, R178). -/
def intToF (f : Fmt) (rc : Rc) (x : Int) : Nat × Flags := roundNum f rc false x 0

/-- Round to an integral value: zero keeps the sign of x, NX is never raised (R176). -/
def fRnd (f : Fmt) (rc : Rc) (x : Nat) : Nat × Flags :=
  match f.read x with
  | .nan s => (f.nan, if s then flNV else 0)
  | .inf n => (f.sign n f.infBits, 0)
  | .zero n => (f.sign n 0, 0)
  | .num m e =>
    let (r, _) := roundInt rc m e
    if r = 0 then (f.sign (m < 0) 0, 0) else ((roundNum f .rne false r 0).1, 0)

/-- Magnitude of x with a given sign; a NaN gives the canonical NaN, and NV when it signals (R176). -/
def fSetSign (f : Fmt) (neg : Bool) (x : Nat) : Nat × Flags :=
  match f.read x with
  | .nan s => (f.nan, if s then flNV else 0)
  | _ => (f.sign neg (x % 2 ^ (f.width - 1)), 0)

/-- Magnitude of x with the sign bit of y; a signalling NaN in either operand raises NV (R176). -/
def fCopySign (f : Fmt) (x y : Nat) : Nat × Flags :=
  let (v, fl) := fSetSign f (bitAt y (f.width - 1)) x
  (v, fl ||| (if (f.read y).isSnan then flNV else 0))

/-- x·2^k, rounded (R176). The exponent is held to what already decides the result, so that no number grows with k. -/
def fScale (f : Fmt) (rc : Rc) (k : Int) (x : Nat) : Nat × Flags :=
  match f.read x with
  | .num m e => roundNum f rc false m (e + clampInt k (-600) 600)
  | v => f.write rc v

/-- x clamped to [−|y|, |y|] (R176). -/
def fClamp (f : Fmt) (x y : Nat) : Nat × Flags :=
  let a := f.read x
  let b := f.read y
  if a.isNan || b.isNan then (f.nan, if a.isSnan || b.isSnan then flNV else 0)
  else
    let hi := y % 2 ^ (f.width - 1)
    let lo := f.sign true hi
    if fvLt (f.read hi) a then (hi, 0) else if fvLt a (f.read lo) then (lo, 0) else (x % 2 ^ f.width, 0)

/-! ### Special functions (R181) -/

/-- floor of the square root, by bits from the top. -/
def isqrtGo : Nat → Nat → Nat → Nat
  | 0, _, r => r
  | k + 1, n, r => let t := r + 2 ^ k; isqrtGo k n (if t * t ≤ n then t else r)

/-- floor of the square root. -/
def isqrt (n : Nat) : Nat := isqrtGo (n.log2 / 2 + 1) n 0

def fRcp (f : Fmt) (rc : Rc) (x : Nat) : Nat × Flags :=
  match f.read x with
  | .nan s => (f.nan, if s then flNV else 0)
  | .inf n => (f.sign n 0, 0)
  | .zero n => (f.sign n f.infBits, flDZ)
  | .num m e =>
    let k := m.natAbs.log2 + 400
    roundTo f rc (m < 0) (2 ^ k / m.natAbs) (-e - k) (2 ^ k % m.natAbs != 0)

def fRsqrt (f : Fmt) (rc : Rc) (x : Nat) : Nat × Flags :=
  match f.read x with
  | .nan s => (f.nan, if s then flNV else 0)
  | .inf n => if n then (f.nan, flNV) else (0, 0)
  | .zero n => (f.sign n f.infBits, flDZ)
  | .num m e =>
    if m < 0 then (f.nan, flNV)
    else
      let mm := if e % 2 = 0 then m.natAbs else 2 * m.natAbs
      let ee := if e % 2 = 0 then e else e - 1
      let k := mm.log2 + 200
      let q := isqrt (2 ^ (2 * k) / mm)
      roundTo f rc false q (-(ee / 2) - k) (q * q * mm != 2 ^ (2 * k))

/-- The fraction bits that exp2 and log2 are worked out to: 24 result bits, 32 bits of the stochastic threshold and a
wide margin (log entry 2). -/
def sfPrec : Nat := 320

/-- Sum of z^(2k+1)/(2k+1), z a fraction of 2^sfPrec: atanh z. -/
def atanhGo : Nat → Nat → Nat → Nat → Nat
  | 0, _, _, _ => 0
  | n + 1, z2, t, k => t / k + atanhGo n z2 (t * z2 / 2 ^ sfPrec) (k + 2)

/-- ln((1 + z)/(1 − z)) for a fraction z below 1/3 or equal to it. -/
def ln2z (z : Nat) : Nat := 2 * atanhGo 110 (z * z / 2 ^ sfPrec) z 1

/-- ln 2. -/
def ln2 : Nat := ln2z (2 ^ sfPrec / 3)

/-- Sum of t^k/k!. -/
def expGo : Nat → Nat → Nat → Nat → Nat
  | 0, _, _, _ => 0
  | n + 1, t, a, k => a + expGo n t (a * t / 2 ^ sfPrec / k) (k + 1)

/-- 2^x for x = n + fr/2^sfPrec, as a fraction of 2^sfPrec in [1, 2). -/
def exp2Frac (fr : Nat) : Nat := expGo 80 (fr * ln2 / 2 ^ sfPrec) (2 ^ sfPrec) 1

def fExp2 (f : Fmt) (rc : Rc) (x : Nat) : Nat × Flags :=
  match f.read x with
  | .nan s => (f.nan, if s then flNV else 0)
  | .inf n => if n then (0, 0) else (f.infBits, 0)
  | .zero _ => roundNum f rc false 1 0
  | .num m e =>
    -- beyond 2^12 in magnitude every format has overflowed or underflowed to the same result
    let big := decide (0 ≤ e ∧ 4096 ≤ m.natAbs) || decide (0 ≤ (m.natAbs.log2 : Int) + e - 12)
    if big then
      if m < 0 then roundNum f rc false 1 (-4096) else roundNum f rc false 1 4096
    else if 0 ≤ e then roundNum f rc false 1 (m * (2 ^ e.toNat : Nat))
    else
      let s := (-e).toNat
      let n : Int := m / (2 ^ s : Nat)
      let fr := (m % (2 ^ s : Nat)).toNat
      if fr = 0 then roundNum f rc false 1 n
      else roundTo f rc false (exp2Frac (fr * 2 ^ (sfPrec - s))) (n - sfPrec) true

def fLog2 (f : Fmt) (rc : Rc) (x : Nat) : Nat × Flags :=
  match f.read x with
  | .nan s => (f.nan, if s then flNV else 0)
  | .inf n => if n then (f.nan, flNV) else (f.infBits, 0)
  | .zero _ => (f.sign true f.infBits, flDZ)
  | .num m e =>
    if m < 0 then (f.nan, flNV)
    else
      let k := m.natAbs.log2
      let ex : Int := k + e
      if m.natAbs = 2 ^ k then roundNum f rc false ex 0
      else
        let mant := m.natAbs * 2 ^ (sfPrec - k)
        let z := (mant - 2 ^ sfPrec) * 2 ^ sfPrec / (mant + 2 ^ sfPrec)
        let v : Int := ex * (2 ^ sfPrec : Nat) + (ln2z z * 2 ^ sfPrec / ln2 : Nat)
        roundTo f rc (v < 0) v.natAbs (-(sfPrec : Int)) true

/-! ### Stochastic rounding (R141) -/

def mix (z : W64) : W64 :=
  let z := (z ^^^ (z >>> 31)) * 0x8F3A61C5D2490B17#64
  let z := (z ^^^ (z >>> 29)) * 0xB5E10C7D93A64F2B#64
  z ^^^ (z >>> 32)

/-- H of R141. -/
def srHash (seed taskid : W64) (caddr slot lane : Nat) (iter : W64) : W64 :=
  mix (mix (mix (seed ^^^ taskid) ^^^ BitVec.ofNat 64 (caddr * 2 ^ 16 + slot * 2 ^ 8 + lane)) ^^^ iter)

/-! ### NQ4 (R149, R150, R179) -/

/-- The offset o of a type (R150). -/
def nq4Off (ty : Nat) : Int := if ty = 1 then -1 else 0

/-- The magnitudes by index (R150). -/
def nq4Mags : Nat → List Nat
  | 1 => [0, 1, 2, 3, 4, 6, 8, 12]
  | 2 => [0, 1, 2, 4, 8, 16, 32, 64]
  | 3 => [0, 1, 2, 3, 4, 8, 16, 32]
  | _ => [0, 1, 2, 3, 4, 5, 6, 7]

/-- The integer q of a code (R150). -/
def nq4Q (ty c : Nat) : Int :=
  if ty = 0 then toS 4 c
  else
    let m : Int := nth (nq4Mags ty) (c % 8) 0
    if bitAt c 3 then -m else m

/-- qmax of a type (R179). -/
def nq4Max (ty : Nat) : Nat := if ty = 0 then 7 else nth (nq4Mags ty) 7 0

/-- The code of a grid value with sign, from its index (R150, R179). -/
def nq4Code (ty : Nat) (neg : Bool) (i : Nat) : Nat :=
  if i = 0 then 0 else if ty = 0 then (if neg then 16 - i else i) else (if neg then 8 + i else i)

/-! ### Block float (R152 to R155) -/

/-- The unbiased exponent of a nonzero number, the smallest normal one for a subnormal (R153). -/
def fEx (f : Fmt) (x : Nat) : Int := max ((bits x f.mbits f.ebits : Nat) : Int) 1 - f.bias

/-- rne(|x|·2^k) of a finite number. -/
def rneScaled (m : Nat) (e : Int) : Nat := (roundInt .rne m e).1.toNat

/-- One pass of R153: the magnitudes for a given E. -/
def bfMags (f : Fmt) (p : Nat) (ee : Int) (xs : List Nat) : List Nat :=
  xs.map fun x => match f.read x with
    | .num m e => rneScaled m.natAbs (e + p - 1 - ee)
    | _ => 0

/-- A converted block (R153, R154). -/
structure BfBlock where
  mags : List Nat
  signs : List Bool
  xw : Int
  inexact : Bool
deriving DecidableEq, Repr

def bfBlock (f : Fmt) (p : Nat) (xs : List Nat) : BfBlock :=
  let fin := xs.filter fun x => match f.read x with | .num .. => true | _ => false
  let e0 : Int := if fin.isEmpty then p - 1 else (fin.map (fEx f)).foldl max (fEx f (nth fin 0 0))
  let m0 := bfMags f p e0 xs
  let e1 := if (m0.foldl max 0) ≤ 2 ^ p - 1 then e0 else e0 + 1
  let ms := bfMags f p e1 xs
  let xw := e1 - p + 1
  { mags := ms
    signs := (xs.zip ms).map fun (x, m) => m != 0 && bitAt x (f.width - 1)
    xw := xw
    inexact := (xs.zip ms).any fun (x, m) => match f.read x with
      | .num mm e => (dyAdd mm.natAbs e (-(m : Int)) xw).1 != 0
      | _ => false }

end Sys2Proof.Machine
end

