-- ==== Sys2Proof/Syntax.lean ====
section
/-!
DEFINITION. The instructions of the HZB-640: operand kinds, then one constructor for each row of the opcode table.
-/
namespace Sys2Proof

/-- General register g0–g63 (R14). -/
abbrev GReg := Fin 64
/-- Address register a0–a15 (R14). -/
abbrev AReg := Fin 16
/-- Modifier register m0–m15 (R14). -/
abbrev MReg := Fin 16
/-- Stream register s0–s15 (R14). -/
abbrev SReg := Fin 16
/-- Channel register k0–k7 (R14). -/
abbrev KReg := Fin 8
/-- Vector register v0–v127: a row of T0 or T1 (R156). -/
abbrev VReg := Fin 128
/-- A bit position of a 64-bit register. -/
abbrev BitNo := Fin 64
/-- A signed offset in code words (R66). -/
abbrev Off15 := BitVec 15
/-- An immediate trip count (R66). -/
abbrev Trip := BitVec 12
/-- The initiation interval less one (R66). -/
abbrev Ii := BitVec 8
/-- The stage count less one (R66). -/
abbrev Sc := Fin 8
/-- A 16-bit immediate (R67). -/
abbrev Imm16 := BitVec 16
/-- A 21-bit signed immediate (R67). -/
abbrev Imm21 := BitVec 21
/-- A small literal field whose range the instruction narrows. -/
abbrev Code4 := Fin 16
/-- Field C of format SC: the carry register is g(48 + C) (R68). -/
abbrev CarryReg := Fin 16
/-- A control and status register number (R16). -/
abbrev CsrNo := BitVec 12
/-- T0 or T1 (R156). -/
abbrev TileNo := Fin 2
/-- A broadcast weight of MPUSH or MACC (R73). -/
abbrev Wt := Fin 8
/-- A row of the array or of T0 (R73). -/
abbrev Row64 := Fin 64
/-- Field of eight registers g(8n) to g(8n + 7), named by n (R80). -/
abbrev Oct := Fin 8
/-- Pair of registers g(2n), g(2n + 1), named by n (R80). -/
abbrev EvenReg := Fin 32
/-- A tile-table entry (R80). -/
abbrev TEntry := Fin 32

/-- A guard: bit `bit` of `reg` must equal `sense` (R30). -/
structure Guard where
  reg : GReg
  bit : BitNo
  sense : Bool
deriving DecidableEq, Repr

/-- The all-zero guard, which always passes (R30). -/
def Guard.always : Guard := ⟨0, 0, false⟩

/-- A scalar or address source operand (R61). -/
inductive Src where
  | g (r : GReg)
  | b (n : Fin 16)
  | s (n : SReg)
  | k (n : KReg)
  | pool
deriving DecidableEq, Repr

/-- Whether a source is the immediate pool, which only a second source may be (R61). -/
def Src.isPool : Src → Bool
  | .pool => true
  | _ => false

/-- A scalar or address destination with its write-back bit: a named register, with W = 1, or a latch of the slot's
bank alone, with W = 0 (R62). -/
inductive Dst where
  | g (r : GReg)
  | s (n : SReg)
  | k (n : KReg)
  | latch (n : Fin 4)
deriving DecidableEq, Repr

/-- Whether a destination is one that CNTRD and KSTAT may name: a general register or a latch (R80). -/
def Dst.isTransfer : Dst → Bool
  | .g _ => true
  | .latch _ => true
  | _ => false

/-- A memory operand's form in the address slot: fields PM and OFF (R71, R91). -/
inductive AMode where
  | off (n : BitVec 8)
  | post (n : BitVec 8)
  | postM (m : MReg)
  | preM (m : MReg)
deriving DecidableEq, Repr

/-- A vector source operand (R64). -/
inductive VSrc where
  | v (r : VReg)
  | vb (n : Fin 16)
  | s (n : SReg)
  | k (n : KReg)
  | bc (r : GReg)
  | vck (t : TileNo)
  | pool
deriving DecidableEq, Repr

/-- Whether a vector source is the immediate pool, which only a second source may be (R64). -/
def VSrc.isPool : VSrc → Bool
  | .pool => true
  | _ => false

/-- A vector destination with its write-back bit (R64, R162). -/
inductive VDst where
  | v (r : VReg)
  | s (n : SReg)
  | k (n : KReg)
  | latch (n : Fin 8)
deriving DecidableEq, Repr

/-- Whether a vector destination is a row of T0 or T1 with W = 1. -/
def VDst.isV : VDst → Bool
  | .v _ => true
  | _ => false

/-- Whether a vector destination is a row or a latch. -/
def VDst.isRow : VDst → Bool
  | .v _ => true
  | .latch _ => true
  | _ => false

/-- A rounding code (R69). -/
inductive Rnd where
  | dyn | rne | rtz | rdn | rup | sr
deriving DecidableEq, Repr

/-- The element types of a tile (R157). -/
inductive TileType where
  | i32 | f32 | f32a | i16 | bf16 | fp16 | i64
deriving DecidableEq, Repr

/-- A scope (R74). -/
inductive Scope where
  | strand | group | die | module | tenant | system
deriving DecidableEq, Repr

/-- An order (R74). -/
inductive Ord4 where
  | rlx | acq | rel | ar
deriving DecidableEq, Repr

/-- An optional general register for a count (R170). -/
abbrev OptG := Option GReg

/-- A core of the module: 160 of each die (R17), numbered die·160 + cluster·16 + core. -/
abbrev CoreId := Fin 640
/-- A context of the module: core·8 + context. -/
abbrev CtxId := Fin 5120
/-- A cluster of the module: die·10 + cluster. -/
abbrev ClusterId := Fin 40
/-- A compute die. -/
abbrev DieId := Fin 4
/-- A plot number; 0 is the owner's own plot where a rule lets it stand. -/
abbrev PlotNo := Fin 256
/-- The width of a register access from the host (R439). -/
inductive RegWidth where
  | w32 | w64
deriving DecidableEq, Repr
/-- The value of a write, or none for a read. -/
abbrev OptW64 := Option W64

/-- A register page of the device (R437): the owner's, an estate's (1 to 16) or a plot's (1 to 255). -/
inductive Page where
  | owner
  | estate (n : Fin 17)
  | plot (n : PlotNo)
deriving DecidableEq, Repr

/-- What a fabric packet carries (R406, R413, R414, R416, R448): a message, a remote operation, the reply to one, or a
reply of the class of refusals. -/
inductive PacketKind where
  | message | remote | reply | accepted | refused | discarded (arg : Nat) | ack | failed (arg offset : Nat)
deriving DecidableEq, Repr

/-- A packet of the fabric (R237, R405, R409): a remote operation's number at its sender, its source, its target and its words. Between
contexts of one module the source module is the module itself and no pairing half is used. -/
structure Packet where
  kind : PacketKind
  num : Nat
  srcModule : Fin 256
  srcPlot : PlotNo
  srcGen : BitVec 16
  tgtGen : BitVec 16
  src : CtxId
  srcChan : KReg
  tgtModule : Fin 256
  tgt : CtxId
  tgtChan : KReg
  vc : Fin 16
  gang : BitVec 16
  words : List W64
deriving DecidableEq, Repr

/-- One constructor for each row of the opcode table: the slot instructions of R75 to R80, then the machine steps that
no instruction encodes. -/
inductive Instr where
  /- the branch slot (R75, R116 to R126) -/
  | bnop
  | b (cr : GReg) (cb : BitNo) (cs : Bool) (off : Off15)
  | bA (cr : GReg) (cb : BitNo) (cs : Bool) (off : Off15)
  | br (cr : GReg) (cb : BitNo) (cs : Bool) (tr : GReg)
  | brA (cr : GReg) (cb : BitNo) (cs : Bool) (tr : GReg)
  | call (lr : GReg) (off : Off15)
  | callr (lr : GReg) (tr : GReg)
  | bvu (vr : VReg) (cs : Bool) (off : Off15)
  | bvuA (vr : VReg) (cs : Bool) (off : Off15)
  | loop (tg : GReg) (off : Off15)
  | loopi (trip : Trip) (off : Off15)
  | loopm (tg : GReg) (ii : Ii) (sc : Sc)
  | loopmi (trip : Trip) (ii : Ii) (sc : Sc)
  | lexit (cr : GReg) (cb : BitNo) (cs : Bool)
  | exit
  | trap (code : Imm16)
  /- the scalar slot (R76, R92 to R105) -/
  | snop
  | add (g : Guard) (d : Dst) (a : Src) (b : Src)
  | sub (g : Guard) (d : Dst) (a : Src) (b : Src)
  | adds (g : Guard) (d : Dst) (a : Src) (b : Src)
  | subs (g : Guard) (d : Dst) (a : Src) (b : Src)
  | addus (g : Guard) (d : Dst) (a : Src) (b : Src)
  | subus (g : Guard) (d : Dst) (a : Src) (b : Src)
  | adc (g : Guard) (d : GReg) (a : GReg) (b : GReg) (cy : CarryReg) (p : BitNo) (z : Bool)
  | sbc (g : Guard) (d : GReg) (a : GReg) (b : GReg) (cy : CarryReg) (p : BitNo) (z : Bool)
  | mul (g : Guard) (d : Dst) (a : Src) (b : Src)
  | mulh (g : Guard) (d : Dst) (a : Src) (b : Src)
  | mulhu (g : Guard) (d : Dst) (a : Src) (b : Src)
  | madc (g : Guard) (d : GReg) (a : GReg) (b : GReg) (cy : CarryReg) (p : BitNo) (z : Bool)
  | div (g : Guard) (d : Dst) (a : Src) (b : Src)
  | divu (g : Guard) (d : Dst) (a : Src) (b : Src)
  | rem (g : Guard) (d : Dst) (a : Src) (b : Src)
  | remu (g : Guard) (d : Dst) (a : Src) (b : Src)
  | and (g : Guard) (d : Dst) (a : Src) (b : Src)
  | or (g : Guard) (d : Dst) (a : Src) (b : Src)
  | xor (g : Guard) (d : Dst) (a : Src) (b : Src)
  | andn (g : Guard) (d : Dst) (a : Src) (b : Src)
  | orn (g : Guard) (d : Dst) (a : Src) (b : Src)
  | shl (g : Guard) (d : Dst) (a : Src) (b : Src)
  | shr (g : Guard) (d : Dst) (a : Src) (b : Src)
  | sra (g : Guard) (d : Dst) (a : Src) (b : Src)
  | rol (g : Guard) (d : Dst) (a : Src) (b : Src)
  | clz (g : Guard) (d : Dst) (a : Src)
  | ctz (g : Guard) (d : Dst) (a : Src)
  | popc (g : Guard) (d : Dst) (a : Src)
  | bext (g : Guard) (d : Dst) (a : Src) (b : Src) (f : BitNo)
  | bins (g : Guard) (d : GReg) (a : Src) (b : Src) (f : BitNo)
  | sext (g : Guard) (d : Dst) (a : Src) (f : BitNo)
  | zext (g : Guard) (d : Dst) (a : Src) (f : BitNo)
  | cmpeq (g : Guard) (d : GReg) (n : BitNo) (a : Src) (b : Src)
  | cmpne (g : Guard) (d : GReg) (n : BitNo) (a : Src) (b : Src)
  | cmplt (g : Guard) (d : GReg) (n : BitNo) (a : Src) (b : Src)
  | cmple (g : Guard) (d : GReg) (n : BitNo) (a : Src) (b : Src)
  | cmpltu (g : Guard) (d : GReg) (n : BitNo) (a : Src) (b : Src)
  | cmpleu (g : Guard) (d : GReg) (n : BitNo) (a : Src) (b : Src)
  | min (g : Guard) (d : Dst) (a : Src) (b : Src)
  | max (g : Guard) (d : Dst) (a : Src) (b : Src)
  | minu (g : Guard) (d : Dst) (a : Src) (b : Src)
  | maxu (g : Guard) (d : Dst) (a : Src) (b : Src)
  | movi (g : Guard) (d : Dst) (imm : Imm21)
  | movk (g : Guard) (d : GReg) (hw : Code4) (imm : Imm16)
  | mfs (g : Guard) (d : Dst) (csr : CsrNo)
  | mts (g : Guard) (a : Src) (csr : CsrNo)
  | movb (g : Guard) (d : GReg) (n : BitNo) (inv : Bool) (a : Src) (bit : BitNo)
  | fadd (g : Guard) (d : Dst) (a : Src) (b : Src) (r : Rnd)
  | fsub (g : Guard) (d : Dst) (a : Src) (b : Src) (r : Rnd)
  | fmul (g : Guard) (d : Dst) (a : Src) (b : Src) (r : Rnd)
  | fma (g : Guard) (d : GReg) (a : Src) (b : Src) (r : Rnd)
  | fmin (g : Guard) (d : Dst) (a : Src) (b : Src) (r : Rnd)
  | fmax (g : Guard) (d : Dst) (a : Src) (b : Src) (r : Rnd)
  | fminnum (g : Guard) (d : Dst) (a : Src) (b : Src) (r : Rnd)
  | fmaxnum (g : Guard) (d : Dst) (a : Src) (b : Src) (r : Rnd)
  | fcmpeq (g : Guard) (d : GReg) (n : BitNo) (a : Src) (b : Src)
  | fcmplt (g : Guard) (d : GReg) (n : BitNo) (a : Src) (b : Src)
  | fcmple (g : Guard) (d : GReg) (n : BitNo) (a : Src) (b : Src)
  | fcmpun (g : Guard) (d : GReg) (n : BitNo) (a : Src) (b : Src)
  | fcvtif (g : Guard) (d : Dst) (a : Src) (r : Rnd)
  | fcvtfi (g : Guard) (d : Dst) (a : Src) (r : Rnd)
  | fcvtf (g : Guard) (d : Dst) (a : Src) (k : Code4) (r : Rnd)
  | fclass (g : Guard) (d : Dst) (a : Src)
  /- the address slot (R77, R106 to R115) -/
  | anop
  | lds (g : Guard) (d : Dst) (a : AReg) (m : AMode)
  | ldw (g : Guard) (d : Dst) (a : AReg) (m : AMode)
  | ldwu (g : Guard) (d : Dst) (a : AReg) (m : AMode)
  | ldh (g : Guard) (d : Dst) (a : AReg) (m : AMode)
  | ldhu (g : Guard) (d : Dst) (a : AReg) (m : AMode)
  | ldb (g : Guard) (d : Dst) (a : AReg) (m : AMode)
  | ldbu (g : Guard) (d : Dst) (a : AReg) (m : AMode)
  | sts (g : Guard) (x : Src) (a : AReg) (m : AMode)
  | stw (g : Guard) (x : Src) (a : AReg) (m : AMode)
  | sth (g : Guard) (x : Src) (a : AReg) (m : AMode)
  | stb (g : Guard) (x : Src) (a : AReg) (m : AMode)
  | ldv (g : Guard) (v : VReg) (a : AReg) (m : AMode)
  | stv (g : Guard) (v : VReg) (a : AReg) (m : AMode)
  | wlds (g : Guard) (d : Dst) (a : AReg) (m : AMode)
  | wldv (g : Guard) (v : VReg) (a : AReg) (m : AMode)
  | aadd (g : Guard) (a : AReg) (x : Src)
  | amov (g : Guard) (a : AReg) (x : Src)
  | aget (g : Guard) (d : Dst) (a : AReg)
  | mset (g : Guard) (m : MReg) (x : Src)
  | mget (g : Guard) (d : Dst) (m : MReg)
  | lea (g : Guard) (d : Dst) (a : AReg) (m : AMode)
  | acmplt (g : Guard) (d : GReg) (n : BitNo) (a : AReg)
  | clrv (g : Guard) (a : AReg) (m : AMode)
  /- the vector slot (R78, R156 to R190) -/
  | vnop
  | vmov (g : Guard) (d : VDst) (a : VSrc)
  | vadd (g : Guard) (d : VDst) (a : VSrc) (b : VSrc)
  | vsub (g : Guard) (d : VDst) (a : VSrc) (b : VSrc)
  | vadds (g : Guard) (d : VDst) (a : VSrc) (b : VSrc)
  | vsubs (g : Guard) (d : VDst) (a : VSrc) (b : VSrc)
  | vaddus (g : Guard) (d : VDst) (a : VSrc) (b : VSrc)
  | vsubus (g : Guard) (d : VDst) (a : VSrc) (b : VSrc)
  | vmul (g : Guard) (d : VDst) (a : VSrc) (b : VSrc) (sat : Bool)
  | vmulh (g : Guard) (d : VDst) (a : VSrc) (b : VSrc)
  | vmulhu (g : Guard) (d : VDst) (a : VSrc) (b : VSrc)
  | vmulw (g : Guard) (d : VDst) (a : VSrc) (b : VSrc) (h : Bool) (u : Bool)
  | vmacw (g : Guard) (d : VReg) (a : VSrc) (b : VSrc) (h : Bool) (u : Bool) (sat : Bool)
  | vdot4 (g : Guard) (d : VReg) (a : VSrc) (b : VSrc) (h : Bool) (u : Bool) (sat : Bool)
  | vmadc (g : Guard) (d : VReg) (a : VSrc) (b : VSrc) (cy : VReg) (z : Bool)
  | vadc (g : Guard) (d : VDst) (a : VSrc) (b : VSrc) (cy : VReg) (z : Bool)
  | vsbc (g : Guard) (d : VDst) (a : VSrc) (b : VSrc) (cy : VReg) (z : Bool)
  | vabs (g : Guard) (d : VDst) (a : VSrc) (sat : Bool)
  | vneg (g : Guard) (d : VDst) (a : VSrc) (sat : Bool)
  | vmini (g : Guard) (d : VDst) (a : VSrc) (b : VSrc)
  | vmaxi (g : Guard) (d : VDst) (a : VSrc) (b : VSrc)
  | vminu (g : Guard) (d : VDst) (a : VSrc) (b : VSrc)
  | vmaxu (g : Guard) (d : VDst) (a : VSrc) (b : VSrc)
  | vclamp (g : Guard) (d : VDst) (a : VSrc) (b : VSrc)
  | vavg (g : Guard) (d : VDst) (a : VSrc) (b : VSrc)
  | vavgu (g : Guard) (d : VDst) (a : VSrc) (b : VSrc)
  | vabd (g : Guard) (d : VDst) (a : VSrc) (b : VSrc)
  | vabdu (g : Guard) (d : VDst) (a : VSrc) (b : VSrc)
  | vand (g : Guard) (d : VDst) (a : VSrc) (b : VSrc)
  | vor (g : Guard) (d : VDst) (a : VSrc) (b : VSrc)
  | vxor (g : Guard) (d : VDst) (a : VSrc) (b : VSrc)
  | vandn (g : Guard) (d : VDst) (a : VSrc) (b : VSrc)
  | vbitsel (g : Guard) (d : VReg) (a : VSrc) (b : VSrc)
  | vshl (g : Guard) (d : VDst) (a : VSrc) (b : VSrc) (sat : Bool)
  | vshr (g : Guard) (d : VDst) (a : VSrc) (b : VSrc)
  | vsra (g : Guard) (d : VDst) (a : VSrc) (b : VSrc)
  | vrol (g : Guard) (d : VDst) (a : VSrc) (b : VSrc)
  | vclz (g : Guard) (d : VDst) (a : VSrc)
  | vpopc (g : Guard) (d : VDst) (a : VSrc)
  | vbext (g : Guard) (d : VDst) (a : VSrc) (b : VSrc) (f : BitNo)
  | vbins (g : Guard) (d : VReg) (a : VSrc) (b : VSrc) (f : BitNo)
  | vsext (g : Guard) (d : VDst) (a : VSrc) (f : BitNo)
  | vzext (g : Guard) (d : VDst) (a : VSrc) (f : BitNo)
  | vrev (g : Guard) (d : VDst) (a : VSrc)
  | vbswap (g : Guard) (d : VDst) (a : VSrc)
  | vcmpeq (g : Guard) (d : VDst) (a : VSrc) (b : VSrc)
  | vcmpne (g : Guard) (d : VDst) (a : VSrc) (b : VSrc)
  | vcmplt (g : Guard) (d : VDst) (a : VSrc) (b : VSrc)
  | vcmple (g : Guard) (d : VDst) (a : VSrc) (b : VSrc)
  | vcmpltu (g : Guard) (d : VDst) (a : VSrc) (b : VSrc)
  | vcmpleu (g : Guard) (d : VDst) (a : VSrc) (b : VSrc)
  | vsel (g : Guard) (d : VReg) (a : VSrc) (b : VSrc)
  | vfadd (g : Guard) (d : VDst) (a : VSrc) (b : VSrc) (r : Rnd)
  | vfsub (g : Guard) (d : VDst) (a : VSrc) (b : VSrc) (r : Rnd)
  | vfmul (g : Guard) (d : VDst) (a : VSrc) (b : VSrc) (r : Rnd)
  | vfma (g : Guard) (d : VReg) (a : VSrc) (b : VSrc) (r : Rnd)
  | vfms (g : Guard) (d : VReg) (a : VSrc) (b : VSrc) (r : Rnd)
  | vfnma (g : Guard) (d : VReg) (a : VSrc) (b : VSrc) (r : Rnd)
  | vfmaw (g : Guard) (d : VReg) (a : VSrc) (b : VSrc) (h : Bool) (f : Bool) (r : Rnd)
  | vfabs (g : Guard) (d : VDst) (a : VSrc)
  | vfneg (g : Guard) (d : VDst) (a : VSrc)
  | vmin (g : Guard) (d : VDst) (a : VSrc) (b : VSrc)
  | vmax (g : Guard) (d : VDst) (a : VSrc) (b : VSrc)
  | vminnum (g : Guard) (d : VDst) (a : VSrc) (b : VSrc)
  | vmaxnum (g : Guard) (d : VDst) (a : VSrc) (b : VSrc)
  | vfclamp (g : Guard) (d : VDst) (a : VSrc) (b : VSrc)
  | vfrnd (g : Guard) (d : VDst) (a : VSrc) (r : Rnd)
  | vfclass (g : Guard) (d : VDst) (a : VSrc)
  | vfcopys (g : Guard) (d : VDst) (a : VSrc) (b : VSrc)
  | vfscale (g : Guard) (d : VDst) (a : VSrc) (b : VSrc) (r : Rnd)
  | vfcmpeq (g : Guard) (d : VDst) (a : VSrc) (b : VSrc)
  | vfcmplt (g : Guard) (d : VDst) (a : VSrc) (b : VSrc)
  | vfcmple (g : Guard) (d : VDst) (a : VSrc) (b : VSrc)
  | vfcmpun (g : Guard) (d : VDst) (a : VSrc) (b : VSrc)
  | vcvtfi (g : Guard) (d : VDst) (a : VSrc) (f : Bool) (u : Bool) (r : Rnd)
  | vcvtif (g : Guard) (d : VDst) (a : VSrc) (f : Bool) (u : Bool) (r : Rnd)
  | vcvtff (g : Guard) (d : VDst) (a : VSrc) (k : Code4) (h : Bool) (r : Rnd)
  | vcvtii (g : Guard) (d : VDst) (a : VSrc) (k : Code4) (h : Bool) (u : Bool) (sat : Bool)
  | vpack (g : Guard) (d : VReg) (a : VSrc) (q : Code4) (u : Bool) (sat : Bool)
  | vunpack (g : Guard) (d : VDst) (a : VSrc) (q : Code4) (u : Bool)
  | vqnq4 (g : Guard) (d : VDst) (a : VSrc) (ty : Code4) (r : Rnd)
  | vdqnq4 (g : Guard) (d : VDst) (a : VSrc)
  | vrcp (g : Guard) (d : VDst) (a : VSrc) (r : Rnd)
  | vrsqrt (g : Guard) (d : VDst) (a : VSrc) (r : Rnd)
  | vexp2 (g : Guard) (d : VDst) (a : VSrc) (r : Rnd)
  | vlog2 (g : Guard) (d : VDst) (a : VSrc) (r : Rnd)
  | vscacc (g : Guard) (d : VReg) (a : VReg) (b : VSrc) (ga : GReg)
  | vcsum (g : Guard) (t : TileNo)
  | vcsumRow (g : Guard) (d : VDst) (t : TileNo) (sel : Code4)
  | vcchk (g : Guard) (t : TileNo)
  | vredadd (g : Guard) (d : VDst) (a : VSrc)
  | vredaddw (g : Guard) (d : VDst) (a : VSrc) (u : Bool)
  | vredfadd (g : Guard) (d : VDst) (a : VSrc) (r : Rnd)
  | vredmin (g : Guard) (d : VDst) (a : VSrc) (u : Bool)
  | vredmax (g : Guard) (d : VDst) (a : VSrc) (u : Bool)
  | vredfmin (g : Guard) (d : VDst) (a : VSrc)
  | vredfmax (g : Guard) (d : VDst) (a : VSrc)
  | vredand (g : Guard) (d : VDst) (a : VSrc)
  | vredor (g : Guard) (d : VDst) (a : VSrc)
  | vbcast (g : Guard) (d : VDst) (a : VSrc) (b : VSrc)
  | vperm (g : Guard) (d : VDst) (a : VSrc) (b : VSrc)
  | vshuf (g : Guard) (d : VReg) (a : VSrc) (b : VSrc)
  | vrotl (g : Guard) (d : VDst) (a : VSrc) (b : VSrc)
  | vslide (g : Guard) (d : VDst) (a : VSrc) (b : VSrc)
  | vzip (g : Guard) (d : VDst) (a : VSrc) (b : VSrc) (h : Bool)
  | vunzip (g : Guard) (d : VDst) (a : VSrc) (b : VSrc) (h : Bool)
  | vrevl (g : Guard) (d : VDst) (a : VSrc)
  | vcompress (g : Guard) (d : VDst) (a : VSrc) (b : VSrc) (n : OptG)
  | vexpand (g : Guard) (d : VDst) (a : VSrc) (b : VSrc) (n : OptG)
  | vtopk (g : Guard) (d : VDst) (a : VSrc) (b : VSrc) (h : Bool)
  | viota (g : Guard) (d : VDst) (a : VSrc) (u : Bool)
  | vany (g : Guard) (gn : GReg) (b : BitNo) (a : VSrc)
  | vall (g : Guard) (gn : GReg) (b : BitNo) (a : VSrc)
  | vmcount (g : Guard) (gn : GReg) (a : VSrc)
  | vmskg (g : Guard) (gn : GReg) (a : VSrc) (q : Code4)
  | vgmsk (g : Guard) (d : VReg) (gs : GReg) (q : Code4)
  | vins (g : Guard) (d : VReg) (gs : GReg) (t : VSrc)
  | vext (g : Guard) (gn : GReg) (a : VSrc) (t : VSrc)
  | tcfg (g : Guard) (t : TileNo) (ty : TileType)
  | vcvt8 (g : Guard) (d : VReg) (a : VSrc) (q : Code4) (e : Bool) (r : Rnd)
  | vcvt8w (g : Guard) (d : VDst) (a : VSrc) (q : Code4) (u : Bool)
  /- the matrix slot (R79, R194 to R203) -/
  | mnop
  | mclr (set : Bool)
  | mpush (w : Wt) (sa : SReg) (sb : SReg)
  | macc (w : Wt) (sa : SReg) (sb : SReg)
  | mshift (sa : SReg) (sb : SReg)
  | mdrain (arow : Row64) (t : Row64)
  | mswap
  | mcfg (pa : Code4) (pb : Code4)
  /- the transfer slot (R80) -/
  | xnop
  | ldg (g : Guard) (d : GReg) (s : GReg) (size : Code4) (acq : Bool) (scope : Scope)
  | ldgu (g : Guard) (d : GReg) (s : GReg) (size : Code4) (acq : Bool) (scope : Scope)
  | ldgnc (g : Guard) (d : GReg) (s : GReg) (size : Code4) (acq : Bool) (scope : Scope)
  | stg (g : Guard) (d : GReg) (s : GReg) (size : Code4) (rel : Bool) (scope : Scope)
  | ldgv (g : Guard) (v : VReg) (s : GReg) (acq : Bool) (scope : Scope)
  | stgv (g : Guard) (v : VReg) (s : GReg) (rel : Bool) (scope : Scope)
  | prefg (g : Guard) (s : GReg)
  | atadd (g : Guard) (d : GReg) (s : GReg) (wide : Bool) (ord : Ord4) (scope : Scope)
  | atmin (g : Guard) (d : GReg) (s : GReg) (wide : Bool) (ord : Ord4) (scope : Scope)
  | atmax (g : Guard) (d : GReg) (s : GReg) (wide : Bool) (ord : Ord4) (scope : Scope)
  | atminu (g : Guard) (d : GReg) (s : GReg) (wide : Bool) (ord : Ord4) (scope : Scope)
  | atmaxu (g : Guard) (d : GReg) (s : GReg) (wide : Bool) (ord : Ord4) (scope : Scope)
  | atand (g : Guard) (d : GReg) (s : GReg) (wide : Bool) (ord : Ord4) (scope : Scope)
  | ator (g : Guard) (d : GReg) (s : GReg) (wide : Bool) (ord : Ord4) (scope : Scope)
  | atxor (g : Guard) (d : GReg) (s : GReg) (wide : Bool) (ord : Ord4) (scope : Scope)
  | atxchg (g : Guard) (d : GReg) (s : GReg) (wide : Bool) (ord : Ord4) (scope : Scope)
  | atcas (g : Guard) (d : GReg) (s : GReg) (wide : Bool) (ord : Ord4) (scope : Scope)
  | atfadd (g : Guard) (d : GReg) (s : GReg) (ord : Ord4) (scope : Scope)
  | atfmax (g : Guard) (d : GReg) (s : GReg) (ord : Ord4) (scope : Scope)
  | fence (g : Guard) (ord : Ord4) (scope : Scope)
  | ldfe (g : Guard) (p : GReg) (q : GReg) (size : Code4) (clear : Bool)
  | stfe (g : Guard) (p : GReg) (q : GReg) (size : Code4)
  | feset (g : Guard) (p : GReg) (q : GReg) (v : Bool)
  | fetest (g : Guard) (p : GReg) (b : BitNo) (q : GReg)
  | gbar (g : Guard)
  | sbind (g : Guard) (n : SReg) (q : Oct)
  | sunbind (g : Guard) (n : SReg)
  | treg (g : Guard) (e : TEntry) (q : Oct)
  | tunreg (g : Guard) (e : TEntry)
  | ecopy (g : Guard) (p : Oct) (q : GReg)
  | emcast (g : Guard) (p : Oct) (q : GReg)
  | egather (g : Guard) (p : Oct) (q : GReg)
  | escatter (g : Guard) (p : Oct) (q : GReg)
  | eplane (g : Guard) (p : Oct) (q : GReg)
  | efeed (g : Guard) (p : Oct) (q : GReg)
  | ewait (g : Guard) (q : GReg)
  | etest (g : Guard) (p : GReg) (b : BitNo) (q : GReg)
  | qpush (g : Guard) (p : Oct) (q : GReg)
  | qpop (g : Guard) (p : Oct) (q : GReg)
  | qlen (g : Guard) (p : GReg) (q : GReg)
  | cntadd (g : Guard) (q : GReg)
  | cntrd (g : Guard) (d : Dst)
  | kbind (g : Guard) (n : KReg) (q : EvenReg)
  | kunbind (g : Guard) (n : KReg)
  | kstat (g : Guard) (d : Dst) (n : KReg)
  | susp (g : Guard) (q : GReg)
  | cres (g : Guard) (q : GReg)
  | cresT (g : Guard) (p : GReg) (q : GReg)
  | ccopy (g : Guard) (p : GReg) (q : GReg)
  | cdrop (g : Guard) (q : GReg)
  | cinfo (g : Guard) (p : Oct) (q : GReg)
  | kslotld (g : Guard) (p : Oct) (q : GReg)
  | kslotz (g : Guard) (q : GReg)
  | glean (g : Guard) (p : Oct)
  | notify (g : Guard) (q : GReg)
  /- the machine steps without an encoding; where a step can take a part of something ahead of the rest (R252, R286), a pair names it with
  the part's number plus one, or with 0 for all of it -/
  | issueBundle (c : CoreId)
  | fixedLatencyLanding (c : CoreId)
  | loadValueLanding (x : CtxId) (n : Nat × Nat)
  | checkpointCommit (c : CoreId)
  | commitQueuePerform (x : CtxId) (n : Nat × Nat)
  | yield (c : CoreId)
  | idleCoreChoice (c : CoreId)
  | spinlimPark (c : CoreId)
  | parkEnd (x : CtxId)
  | qpushRetry (x : CtxId)
  | takeRecord (cl : ClusterId) (plot : PlotNo) (n : Nat) (c : CoreId)
  | loadingComplete (x : CtxId)
  | groupPlacement (cl : ClusterId) (plot : PlotNo) (n : Nat)
  | releaseAsRecord (x : CtxId)
  | drainingEnd (x : CtxId)
  | dataErrorVerification (x : CtxId)
  | streamFetch (x : CtxId) (sr : SReg × Nat)
  | refreshWindowAdvance (d : DieId)
  | patrolScrub (da : Nat)
  | hbmCalibration (stack : Nat)
  | linkCalibration (port : Nat)
  | translationWalk (d : DieId) (plot : PlotNo) (page : Nat)
  | homeStackPerform (d : DieId) (n : Nat)
  | dieUpdateApply (d : DieId) (n : Nat)
  | copyEngineTransfer (op : Nat)
  | planeBuildSlice (op : Nat)
  | feedLoaderItem (op : Nat)
  | feedStorerItem (op : Nat)
  | weightLoadOperation (op : Nat)
  | completionObjectLanding (op : Nat)
  | queueAccept (x : CtxId)
  | queueHeadRemove (x : CtxId)
  | heathRefill (plot : PlotNo) (q : Nat)
  | queueMappingTick (bd : Nat)
  | gangEnd (plot : PlotNo) (gang : Nat)
  | gangIdFree (plot : PlotNo) (gang : Nat)
  | launch (plot : PlotNo) (word : W64)
  | graphNodeStart (launch : Nat) (node : Nat)
  | graphNodeComplete (launch : Nat) (node : Nat)
  | sliceDeadline (group : Nat)
  | ckwaitExpiry (group : Nat)
  | groupSave (group : Nat)
  | restorePlacement (cl : ClusterId)
  | groupRestore (cl : ClusterId) (n : Nat)
  | packetSend (x : CtxId) (k : KReg)
  | packetArrival (p : Packet)
  | refusedResend (x : CtxId) (k : KReg)
  | landingEntryMove (x : CtxId) (k : KReg)
  | remoteOperationPerform (d : DieId) (n : Nat)
  | remoteAckArrival (x : CtxId) (n : Nat)
  | remoteFailure (x : CtxId) (arg : Nat) (offset : Nat)
  | revokeArrival (module : Nat) (plot : PlotNo) (gen : Nat)
  | purseDecay
  | shareWindowStart (c : CoreId)
  | shareExhausted (c : CoreId) (plot : PlotNo) (gang : Nat)
  | gleanBlockWrite
  | estateCreate (p : Page)
  | estateDestroy (p : Page)
  | plotCreate (p : Page)
  | plotDestroy (p : Page)
  | policyWrite (p : Page)
  | policyRead (p : Page)
  | grant (p : Page)
  | ungrant (p : Page)
  | root (p : Page)
  | inval (p : Page)
  | handle (p : Page)
  | unhandle (p : Page)
  | rights (p : Page)
  | preempt (p : Page)
  | pair (p : Page)
  | qcreate (p : Page)
  | attest (p : Page)
  | timeset (p : Page)
  | kreg (p : Page)
  | kunreg (p : Page)
  | greg (p : Page)
  | gunreg (p : Page)
  | mcmdUnknownOp (p : Page)
  | frelResume (estate : Nat)
  | frelRefuse (estate : Nat)
  | flogConsWrite (p : Page) (value : W64)
  | floglostClear (p : Page) (value : W64)
  | patrolueClear (value : W64)
  | registerWrite (fn : PlotNo) (bar : Nat) (off : Nat) (width : RegWidth) (value : OptW64)
  | hostWindowAccess (off : Nat) (width : RegWidth) (wr : OptW64)
  | vfEnableClear
  | vfEnableSet
  | functionLevelReset (plot : PlotNo)
  | powerOn
  | startWarmRequest
  | startColdRequest
  | fundamentalReset
  | clockLowering (d : DieId)
  | landingFullReplyArrival (x : CtxId) (k : KReg)
  | wearManagementMigration (x : CtxId)
  | msixVectorUnmask (fn : PlotNo) (vec : Nat)
  | clockRestore (d : DieId)
deriving DecidableEq, Repr

end Sys2Proof
end

