-- ==== Sys2Proof/Machine/State.lean ====
section
/-!
DEFINITION. The state of one module: everything the manual gives it, as plain data, and the state after reset.
-/
namespace Sys2Proof.Machine

/-- Why the model stops: never, since the manual turns every failure of the machine into a trap, a record, a STATUS or a discard. -/
inductive Fault where
  /-- Raised by no instruction and no step: it is there so that a claim can say so. Safe. -/
  | noStep
deriving DecidableEq, Repr

/-- Why the model gives no meaning. -/
inductive Refusal where
  /-- An instruction whose meaning is not written. Raised by exec's own arms only. Safe: nothing is claimed of it. -/
  | notModelled (mnemonic : String)
deriving DecidableEq, Repr

/-- The outcome of a step of this machine. -/
abbrev St (σ : Type) := Host.Outcome σ Fault Refusal

/-! ### Memory -/

/-- Bytes by device address (R260): addresses strictly rising, no entry 0, and an unlisted address reads 0, as a cold
start leaves HBM, weight stores and scratchpads (R462). -/
abbrev Memory := List Host.Cell

/-- The canonical form. -/
abbrev Memory.wf (m : Memory) : Prop :=
  (m.map Prod.fst).Pairwise (· < ·) ∧ ∀ c ∈ m, c.2 ≠ 0

/-! ### The strand (R14) -/

/-- A loop level (R38 to R42): trip count, iteration, first and last body addresses; a modulo level holds its II − 1 and
its SC − 1. -/
structure Level where
  trip : W32
  iter : Nat
  start : W32
  stop : W32
  modulo : Option (Ii × Sc)
deriving DecidableEq, Repr

/-- An entry of the program-counter queue (R33, R34, R339): code address, idle index, annul bit; `viaReg` marks a target
that BR, BR.A or CALLR placed, whose unit R88 tests when it reaches pc. -/
structure PcEntry where
  addr : W32
  idle : BitVec 16
  annul : Bool
  viaReg : Bool
deriving DecidableEq, Repr

/-- An accumulator tile (R156, R157, R204, R207): type, rows, the stored checksum row, column sums of its rows, corner,
and the MARK bits, one word for each row. -/
structure Tile where
  ty : TileType
  rows : Vector Row 64
  colsum : Row
  rowsum : Vector W32 64
  corner : W32
  mark : Vector (BitVec 128) 64
deriving DecidableEq, Repr

/-- One set of the array's accumulators with its records (R194): 65 rows of 129 cells, a parity bit for each cell. -/
structure ArraySet where
  acc : Vector (Vector W32 129) 65
  parity : Vector (BitVec 129) 65
  rowsp : BitVec 64
  colsp : BitVec 128
  dmask : BitVec 64
  dcol : Vector W32 129
deriving DecidableEq, Repr

/-- An entry of the tile table (R213), as TREG reads it. -/
structure TileEntry where
  base : Nat
  rows : Nat
  cols : Nat
  pitch : Nat
  ty : TileType
  area : Nat
deriving DecidableEq, Repr

/-- Where the parity bits stored with a register disagree with its content (R354): a bit for each 32-bit word, word k of gr
at 2·r + k, of mr at 2·r + k, of row r of v in its own vector. Nothing but a soft error sets one. -/
structure ParityErr where
  g : BitVec 128
  a : BitVec 16
  m : BitVec 32
  v : Vector (BitVec 128) 128
deriving DecidableEq, Repr

/-- The state that the checkpoint shadow holds a copy of (R338). -/
structure Arch where
  g : Vector W64 64
  a : Vector W32 16
  m : Vector W64 16
  /-- active loop levels, the outermost first (R38) -/
  levels : List Level
  /-- LSTRIDE 16·l + n (R17) -/
  lstride : Vector W32 96
  /-- stage predicates, bit s for sp(s) (R42) -/
  sp : BitVec 8
  pc : PcEntry
  npc : PcEntry
  nnpc : PcEntry
  rmode : BitVec 3
  seed : W64
  tole : BitVec 8
  t0 : Tile
  t1 : Tile
  /-- the working and the draining set (R194) -/
  work : ArraySet
  drain : ArraySet
  /-- declared precisions (R199), coded as in R73 -/
  pa : Fin 4
  pb : Fin 4
  /-- the context's tile-table entries, by index (R213, R216) -/
  tt : Tab TileEntry
  /-- entries whose TUNREG awaits the commit (R216) -/
  tun : List Nat
  /-- stream positions: elements taken or given since the start of the binding's ring or pattern (R248) -/
  spos : Vector Nat 16
  /-- the work count (R317) -/
  wc : W32
  parity : ParityErr
deriving DecidableEq, Repr

/-- What a stream's fetcher has read of an element: its bytes, and the address of a word with an uncorrectable error (R252, R356). -/
structure Element where
  bytes : List Byte
  bad : Option Nat
deriving DecidableEq, Repr

/-- A stream register's binding (R248, R249): the eight descriptor words, the queue control word as read when bound, the
plane tile's SPECIAL and PLANES once its header has been read (R252), the elements fetched ahead, and the granules read of the next. -/
structure Binding where
  desc : List W64
  qcw : W64
  header : Option (Nat × Nat)
  buf : List Element
  part : Tab Element
deriving DecidableEq, Repr

/-- A packet in a send buffer (R413): plot, generation and group of the strand that pushed it, its context's number for a remote operation,
the route it was formed under, its words, whether it is on its way, and its refusals so far (R411, R420). -/
structure SendPacket where
  num : Nat
  plot : PlotNo
  gen : BitVec 16
  group : Nat
  route : W64 × W64
  words : List W64
  inFlight : Bool
  refused : Nat
  /-- the base tick from which the head may be sent again (R420) -/
  notBefore : Nat
deriving DecidableEq, Repr

/-- A channel register (R408 to R413): binding, send buffer, its words of operations not yet complete by the route under which they were
pushed, receive queue. -/
structure Channel where
  route : Option (W64 × W64)
  send : List SendPacket
  part : List ((W64 × W64) × List W64)
  recv : List W64
deriving DecidableEq, Repr

/-- A slot's exception record (R145, R146): the six flags and their first addresses. -/
structure FlagRec where
  bits : Flags
  first : Vector W32 6
deriving DecidableEq, Repr

/-- What a fixed-latency result writes when it lands. -/
inductive Wr where
  | g (r : GReg) (v : W64)
  | gbit (r : GReg) (n : BitNo) (b : Bool)
  | a (r : AReg) (v : W32)
  | m (r : MReg) (v : W64)
  | latch (n : Fin 16) (v : W64)
  | vlatch (n : Fin 16) (v : Row)
  /-- the bits of a row under a mask (R178: a merge leaves the other lanes as they are) -/
  | v (r : VReg) (mask x : Row)
  /-- VSCACC: the terms p·2^e of the lanes written with a number, for a tile of type F32A (R187) -/
  | vscacc (r : VReg) (x : Row) (terms : List (Option (Int × Int)))
  /-- MDRAIN: the row's lanes and marks (R203) -/
  | drained (r : Row64) (x : Row) (marks : BitVec 128)
  /-- the comparison of VCCHK, or of TCFG with the new type (R189, R190), with TOLE as at its issue -/
  | check (t : TileNo) (tole : BitVec 8) (ty : Option TileType)
  | csr (n : CsrNo) (v : W64)
  | flags (fl : Flags)
  /-- an uncorrectable error that falls due with the result (R46, R356): space as R349 numbers it, and address -/
  | memErr (space addr : Nat)
deriving DecidableEq, Repr

/-- A fixed-latency result in flight (R21): issues still to pass, slot in the order of R24, code address of the unit,
whether a checkpoint has covered it (R25), whether a YIELD marked its registers pending (R227). -/
structure Fly where
  left : Nat
  slot : Nat
  caddr : W32
  covered : Bool
  marked : Bool
  ws : List Wr
deriving DecidableEq, Repr

/-- The kinds of atomic (R274), numbered as opcode 0x08 + k. -/
inductive AtKind where
  | add | min | max | minu | maxu | and | or | xor | xchg | cas | fadd | fmax
deriving DecidableEq, Repr

/-- Where a pending value comes from. -/
inductive LoadKind where
  /-- a global load of `size` bytes: sign extension, and whether it may allocate in the near cache -/
  | mem (signed : Bool) (alloc : Bool)
  /-- LDFE: the value was taken at issue (R280) -/
  | ldfe
  | atomic
  | qpop (queue : W64)
  | qlen (queue : W64)
  | cinfo
  | status
  /-- a remote reply is awaited, from a module, on a channel: nothing lands in a register -/
  | remote (channel : KReg) (module : Nat)
deriving DecidableEq, Repr

/-- A cause raised in place of an issue (R345, R349): code, ARG, FAULTADDR, and slot and code address where they are not
those of the slot and bundle at pc (R284). -/
structure Cause where
  code : Nat
  arg : Nat
  addr : Nat
  at? : Option (W32 × Nat)
deriving DecidableEq, Repr

/-- A pending destination's operation (R23, R271, R275, R321): destinations still live with the index of the word that
each receives, and those live at the last checkpoint that covered it (R285); the address, its translated pieces once covered
(R284), the bytes of the context's own earlier stores as at the issue and those already read, and what has arrived. -/
structure Load where
  id : Nat
  kind : LoadKind
  gd : List (Nat × GReg)
  vd : Option VReg
  shGd : List (Nat × GReg)
  shVd : Option VReg
  addr : Nat
  size : Nat
  dev : List (Nat × Nat)
  own : List (Option Byte)
  acq : Bool
  scope : Scope
  caddr : W32
  slot : Nat
  covered : Bool
  /-- issues that must pass before it may land (LDFE, R280) -/
  due : Nat
  got : Option (List W64)
  /-- what it has failed with, to be raised under R284 (R391) -/
  fail : Option Cause
deriving DecidableEq, Repr

/-- An atomic on its way to memory (R274, R276). -/
structure AtReq where
  kind : AtKind
  wide : Bool
  a : W64
  b : W64
  load : Nat
deriving DecidableEq, Repr

/-- Where a store goes. -/
inductive Space where
  | spad | hbm
deriving DecidableEq, Repr

/-- An entry of the withheld-store buffer or of the commit queue (R340, R341): bytes at an address, the tile entries
valid at its issue (R218), a full-empty change (first granule, count, value), the pushing stream, an atomic; the loads
issued before it, and those of them that its commit found acquiring (R289, R290), as bounds on their numbers; its own number
among the context's stores, the lanes of four bytes already performed (R286), and the remote operations sent before it (R407). -/
structure Store where
  space : Space
  addr : Nat
  bytes : List Byte
  /-- device pieces of a committed global entry -/
  dev : List (Nat × Nat)
  ents : List TileEntry
  fe : Option (Nat × Nat × Bool)
  stream : Option SReg
  at? : Option AtReq
  rel : Bool
  acq : Bool
  scope : Scope
  caddr : W32
  slot : Nat
  after : Nat
  acqAfter : Nat
  num : Nat
  lanes : List Nat
  sent : Nat
deriving DecidableEq, Repr

/-- An effect of a transfer-slot instruction on what lies outside its context, held until its bundle's commit in the
same cycle. -/
inductive Post where
  /-- SBIND and SUNBIND take effect after the bundle's commit (R248, R256) -/
  | bind (n : SReg) (b : Option Binding)
  /-- opcode, descriptor, completion address, queue control word read at the issue, TOLE (R297, R310, R212) -/
  | engine (op : Nat) (desc : List W64) (cpl : Nat) (qcw : W64) (tole : BitVec 8)
  | glean (start len : Nat) (cpl : Nat)
  | qpush (queue : W64) (rec : List W64)
  | gbar
  | susp (obj : Nat)
  | cres (obj : Nat)
  | ccopy (dst src : Nat)
  | cdrop (obj : Nat)
  | kslotld (slot : Nat) (key : List W64)
  | kslotz (slot : Nat)
  | notify (vec : Nat)
  /-- a value of TIME that the strand has read (R449) -/
  | timeRead (t : Nat)
deriving DecidableEq, Repr

/-- What the branch slot of the bundle being issued does to the queue and the sequencer (R33 to R42, R116 to R126). -/
inductive BrAct where
  | none
  | taken (target : W32) (viaReg : Bool)
  | notTaken (annul : Bool)
  | loop (trip : W32) (stop : W32) (modulo : Option (Ii × Sc))
  | lexit
  | exit
deriving DecidableEq, Repr

/-- The reasons of R44. -/
inductive Reason where
  | pending | stream | channel | fullEmpty | bank | refresh | checkpoint
deriving DecidableEq, Repr

/-- What a parked context waits for (R47, R255, R320), or the walks that a checkpoint bundle waits for (R284). -/
inductive ParkOn where
  | walk (addr len : Nat)
  | stream (n : SReg)
  | channel (n : KReg) (recvNeed sendNeed : Nat)
  | granule (addr : Nat) (full : Bool)
  | queue (q : W64)
deriving DecidableEq, Repr

/-- The state of a context (R219). -/
inductive CtxState where
  | free | loading | ready | running
  | frozen (why : Reason)
  | parked (on : ParkOn)
  | barrier
  | draining
  /-- stopped for a save (R376) -/
  | stopped
deriving DecidableEq, Repr

/-- A verification of an interval (R355): the error that started it, the run in progress, its signatures and issue count,
those of run A, and the owner's code once run B has been compared and only its commit is to come. -/
structure Verification where
  code : Nat
  check : Nat
  faddr : W32
  slot : Nat
  runB : Bool
  sigIn : W32
  sigOut : W32
  issues : Nat
  a : Option (W32 × W32 × Nat)
  decided : Option Nat
deriving DecidableEq, Repr

/-- A context (R14, R219, R338). -/
structure Context where
  st : CtxState
  /-- working state and shadow -/
  w : Arch
  sh : Arch
  /-- an uncorrectable error stands in the shadow (R360) -/
  shadowErr : Bool
  latch : Vector W64 16
  vlatch : Vector Row 16
  taskid : W64
  kslot : BitVec 16
  plot : PlotNo
  gen : BitVec 16
  cycle : W64
  frzcyc : W64
  cstat : BitVec 3
  flags : Vector FlagRec 8
  fixcnt : Vector W32 8
  /-- LIVE of the last checkpoint (R59) -/
  live : Fin 64
  fly : List Fly
  loads : List Load
  buf : List Store
  cq : List Store
  bind : Vector (Option Binding) 16
  chan : Vector Channel 8
  /-- strides that the sequencer adds in this cycle, after every landing, and whether a commit has covered them (R39) -/
  strides : Option (Vector W32 16 × Bool)
  br : BrAct
  post : List Post
  /-- a data error found by a comparison, raised at the next issue (R210) -/
  raised : Option Cause
  /-- cycles that the present freeze has lasted (R47), and what it waits for -/
  frozenFor : Nat
  parkOn : Option ParkOn
  /-- the core cycle in which it last became ready (R220) -/
  readyAt : Nat
  /-- no bundle has issued since the start from a record (R54) -/
  fresh : Bool
  /-- the group it belongs to, by the model's own index, and its MEMBER -/
  group : Nat
  /-- remote operations sent, the number from which they are those of the present strand, and the numbers of those not acknowledged (R407);
  the highest update number of its die's writes that its own releases wait for (R402) -/
  sent : Nat
  firstSent : Nat
  unacked : List Nat
  wseq : Nat
  /-- stores numbered so far -/
  nextStore : Nat
  /-- the interval's stores have been handed over by the FENCE or QPUSH at pc, whose commit has begun (R278, R320) -/
  handed : Bool
  /-- the CCOPY at pc has set BUSY in its source: the source, its version, and whether the destination is marked as being written
  (R378, R389) -/
  copying : Option (Nat × Nat × Bool)
  /-- the numbered updates (line, number) that an acquiring FENCE found when it first reached pc (R403) -/
  fenceWaits : Option (List (Nat × Nat))
  /-- a trap met in this cycle, delivered once every member's cycle is over (R361, R393) -/
  trapped : Option (Cause × Nat × W32)
  /-- purse-free bookkeeping: base tick when it entered the core (R424) -/
  since : Nat
  /-- the firmware asks that it move at its next releasable yield (R229) -/
  migrate : Bool
  /-- a record was written back by release and waits only for its results (R230) -/
  releasing : Bool
  /-- a fatal remote failure that has reached it: ARG and offset (R417) -/
  failure : Option (Nat × Nat)
  ver : Option Verification
  nextLoad : Nat
deriving DecidableEq, Repr

/-! ### Cores, groups, gangs -/

/-- The share account of a core (R424): the cycle of the window, the share of each gang counted at its start, the cycles charged, the gangs
that have spent theirs, keyed by plot·65536 + gang; and those that had some left when the window before ended (R364). -/
structure Share where
  pos : Nat
  share : Tab Nat
  charged : Tab Nat
  spent : List Nat
  left : List Nat
deriving DecidableEq, Repr

/-- A core: the context that holds it, its cycle count, whether it is offline (R357), the dictionaries in its store with
the last use of each (R55), its share account, whether the matrix array serves `running`. -/
structure Core where
  running : Option (Fin 8)
  cycle : Nat
  offline : Bool
  dicts : List (Nat × Nat × Nat)
  share : Share
deriving DecidableEq, Repr

/-- Why a group stops (R376, R381). -/
inductive StopKind where
  | susp (issuer : Nat) (reuse : Bool) (objid version : Nat)
  | preempt
  | trap
deriving DecidableEq, Repr

/-- A stop in progress: its kind, the object's address, the region units taken, the base tick of the request, whether members
may run on to a checkpoint (R376), the level at which the saved group will wait (R382), whether the object's W2 says that it is being
written, and the members whose tile error has been raised in place of the stop (R378). -/
structure Stop where
  kind : StopKind
  obj : Nat
  units : List Nat
  asked : Nat
  atCheckpoint : Bool
  level : Nat
  begun : Bool
  failed : List Nat
deriving DecidableEq, Repr

/-- A group (R231 to R235): plot, GANG, GROUP, its members' contexts by MEMBER, those still live, the barrier's arrivals
and generation, the deadline (R379), a stop in progress. -/
structure Group where
  plot : PlotNo
  gang : BitVec 16
  index : BitVec 16
  members : List Nat
  live : List Bool
  arrived : List Bool
  gen : W32
  deadline : Nat
  slice : Nat
  /-- the check of its passed deadline has been made (R380) -/
  checked : Bool
  stop : Option Stop
deriving DecidableEq, Repr

/-- A saved group in a restore list (R382): object, plot, level at entry, base tick of entry, whether a CRES placed it
(with the version that g1 receives, R388), and the contexts that it has been given. -/
structure Saved where
  obj : Nat
  plot : PlotNo
  gang : BitVec 16
  strands : Nat
  level : Nat
  since : Nat
  cres : Option W32
  issuer : Nat
  origin : Nat
  /-- the region units of a pre-empted object (R374) -/
  units : List Nat
  /-- the contexts taken for it, by member, once it has been placed -/
  place : List Nat
deriving DecidableEq, Repr

/-- What a base die's record says of a continuation object that a start finds at work (R466), or of one that waits in a restore list. -/
inductive ObjWork where
  /-- placed by a CRES -/
  | resume
  /-- pre-empted: waiting, or being restored -/
  | saved
  /-- the source of a CCOPY -/
  | copy
  /-- being written by a stop -/
  | write
deriving DecidableEq, Repr

/-- A record of the base dies: the work, a die, the object's plot and address, and its region units (R466). -/
structure ObjRecord where
  work : ObjWork
  die : Nat
  plot : PlotNo
  obj : Nat
  units : List Nat
deriving DecidableEq, Repr

/-- A record waiting in a run queue, with the base tick of its entry (R231, R382). -/
structure RunRec where
  words : List W64
  since : Nat
deriving DecidableEq, Repr

/-- A gang (R236, R315): its work sum REM, the launch and node that started it, and the base tick when it stopped being
live. -/
structure Gang where
  rem : Int
  launch : Option (Nat × Nat)
  ended : Option Nat
deriving DecidableEq, Repr

/-! ### Dies, memory system -/

/-- A write on its way from a die to its home stack (R399): the die's own number, address, bytes. -/
structure OutWrite where
  seq : Nat
  clock : List Nat
  addr : Nat
  bytes : List Byte
deriving DecidableEq, Repr

/-- An update on its way from a home stack to a die (R400, R401): source die, clock, number in the line's sequence. -/
structure Update where
  src : Nat
  clock : List Nat
  number : Nat
  addr : Nat
  bytes : List Byte
deriving DecidableEq, Repr

/-- A numbered write of a die's own (R401): address, length, number. -/
structure OwnWrite where
  addr : Nat
  len : Nat
  number : Nat
deriving DecidableEq, Repr

/-- A compute die: what its near cache shows of HBM (R261, R399), its vector clock (R400), writes not yet numbered, updates
not yet applied, its numbered writes, its clock in MHz with the phase within a base tick (R471), its object serial (R366), requests that arrived for its fabric agent (R415). -/
structure Die where
  view : Memory
  clock : List Nat
  out : List OutWrite
  updates : List Update
  own : List OwnWrite
  mhz : Nat
  phase : Nat
  refreshNs : Nat
  serial : Nat
  agent : List Packet
deriving DecidableEq, Repr

/-- A cached translation (R265): die, plot, generation, 64 KiB page; the answer is a device page with its estate address and
the permissions of each stage, or the stage that failed with the address reported, to which the offset in the page is
added when `final`. -/
inductive Walk where
  | page (base ea : Nat) (r1 w1 r2 w2 pin : Bool) (key : Option Nat)
  | fail (stage2 : Bool) (addr : Nat) (final : Bool)
deriving DecidableEq, Repr

structure TlbEntry where
  die : Nat
  plot : Nat
  gen : Nat
  page : Nat
  walk : Walk
deriving DecidableEq, Repr

/-- A table entry that a walk has read and the die's unit keeps (R265): die, plot, generation, stage, its address in the tables' own
space, its value. -/
structure TableRead where
  die : Nat
  plot : Nat
  gen : Nat
  stage2 : Bool
  addr : Nat
  value : Nat
deriving DecidableEq, Repr

/-! ### Engines and queues -/

/-- Who waits for an engine operation: a context, a node of a launch. -/
inductive EngineOwner where
  | context (x : Nat)
  | node (launch node : Nat)
  | orphan
deriving DecidableEq, Repr

/-- An engine operation (R296 to R312): transfer opcode, owner, plot and generation, issuing core, descriptor words,
completion address, stage and TOLE of the issuing strand; then the progress: units done, units in this unit, corrections, flags,
targets failed (EMCAST) or, at 0, the failure of a storer's NOTE (R299), cause and position of the first failure, whether its last landing is done; `qcw` holds what the operation
has fixed at its start: the queue control word, or the plane count. -/
structure EngineOp where
  id : Nat
  op : Nat
  owner : EngineOwner
  /-- the issuing context and a bound on the numbers of its stores committed before the command (R295) -/
  fork : Nat × Nat
  plot : PlotNo
  gen : BitVec 16
  core : Nat
  desc : List W64
  cpl : Nat
  stage : Nat
  tole : BitVec 8
  qcw : W64
  pos : Nat
  fix : Nat
  flags : Nat
  failed : Tab (Nat × Nat)
  cause : Option (Nat × Nat)
  noted : Bool
  stopAsked : Bool
  saved : Bool
  /-- rows or columns with a special value so far (R154); the die's number of its last write -/
  mask : Nat
  wseq : Nat
  /-- EPLANE: the source elements read for the block in progress and, for NQ4, every scale byte, by r (R153, R308) -/
  src : List (List Nat)
  scales : List (List Nat)
  /-- transfers still to come that a soft error will damage: the byte of the piece, and its bits; nothing but a soft error sets one (R305) -/
  soft : List (Nat × Byte)
deriving DecidableEq, Repr

/-- A task queue (R319, R323, R324). -/
structure Queue where
  ql : Nat
  home : Nat
  heath : Nat
  hcap : Nat
  slot : List (List W64)
  /-- positions of the heath's head and tail -/
  head : Nat
  tail : Nat
  mapped : Bool
  mappedAt : Nat
  waitSince : Nat
  failing : Bool
  retryAt : Nat
deriving DecidableEq, Repr

/-- A handle (R298, R445). -/
structure Handle where
  host : Bool
  addr : Nat
  len : Nat
  read : Bool
  write : Bool
  gen : BitVec 16
deriving DecidableEq, Repr

/-- One entry of a kernel's live-list table (R331): g registers, t0, t1, mx, pad ranges (base, length). -/
structure LiveEntry where
  g : W64
  t0 : Bool
  t1 : Bool
  mx : Bool
  pads : List (Nat × Nat)
deriving DecidableEq, Repr

/-- A registered kernel (R53, R331): code words, dictionary bundles, live lists, MAXIMG (R370). -/
structure Kernel where
  code : List W16
  dict : List Nat
  live : List LiveEntry
  maximg : Nat
deriving DecidableEq, Repr

/-- A registered graph (R332): its image's words after the header, node by node, and its edges (early, from, to). -/
structure Graph where
  argbase : Nat
  compbase : Nat
  aselmax : Nat
  nodes : List (List W64)
  edges : List (Bool × Nat × Nat)
deriving DecidableEq, Repr

/-- The progress of a node of a launch (R326). -/
inductive NodeState where
  | waiting | started | done
deriving DecidableEq, Repr

/-- A launch in progress (R328, R329). -/
structure Launch where
  plot : PlotNo
  graph : Nat
  asel : Nat
  notify : Bool
  nodes : List NodeState
  cause : Option Nat
deriving DecidableEq, Repr

/-! ### Management -/

/-- A fault log (R351). -/
structure FaultLog where
  cfg : W64
  cons : W32
  prod : W32
  lost : W32
deriving DecidableEq, Repr

/-- A management page (R440), with the low half of MCMD held until its high half arrives (R438), the command that a
write has started, and the effective rights of its level when that write was received (R442). -/
structure MgmtPage where
  marg : Vector W64 4
  mcmdLow : W32
  mcmd : W64
  busy : Bool
  status : Byte
  mres : W64
  rights : BitVec 5
deriving DecidableEq, Repr

/-- A function's MSI-X state (R437): table words (address, data, mask), pending bits, vectors held while functions are
disabled (R446). -/
structure Msix where
  table : Tab (W64 × W64)
  pending : W32
  held : W32
deriving DecidableEq, Repr

/-- The policy of a plot (R363, R443, R444). -/
structure Policy where
  priobase : Nat
  bandlo : Nat
  bandhi : Nat
  slice : Nat
  crights : BitVec 4
  ctxbase : Nat
  ctxmax : Nat
  imgmax : Nat
  placeremote : Bool
  scopelim : Bool
  hidepause : Bool
  trapkslot : BitVec 16
  trapentry : W32
  landbase : Nat
  qcount : Nat
  /-- the owner's writes of CTXBASE, CTXMAX, IMGMAX, LANDBASE (R444) -/
  written : BitVec 4
deriving DecidableEq, Repr

/-- A resource that is granted (R441): a core, a scratchpad segment (core·12 + segment), a weight-store block
(die·12288 + block), a range of HBM. -/
inductive Resource where
  | core (n : Nat)
  | segment (n : Nat)
  | block (n : Nat)
  | range (base len : Nat)
deriving DecidableEq, Repr

/-- A plot (R440 to R449): existence, estate (0: the owner), protection, key slot, generation, base tick of its
destruction, rights mask, policy, stage-1 root, grants, OFF and the highest TIME it has read, LATEDROP, its page, log,
interrupts, handles, queues, kernels, graphs, region units in use. -/
structure Plot where
  live : Bool
  estate : Nat
  prot : Bool
  keyslot : Nat
  gen : BitVec 16
  destroyed : Option Nat
  rights : BitVec 5
  policy : Policy
  root : Option Nat
  grants : List Resource
  off : Int
  tp : Nat
  pausing : Bool
  latedrop : W32
  page : MgmtPage
  log : FaultLog
  msix : Msix
  handles : Tab Handle
  queues : Tab Queue
  kernels : Tab Kernel
  graphs : Tab Graph
  units : List Nat
deriving DecidableEq, Repr

/-- A group held for an estate (R353): plot, trap object, cluster, and the words of its record. -/
structure Held where
  plot : PlotNo
  obj : Nat
  cluster : Nat
  words : List W64
deriving DecidableEq, Repr

/-- An estate (R441, R442, R353). -/
structure Estate where
  live : Bool
  firstVf : Nat
  vfs : Nat
  rights : BitVec 5
  root : Option Nat
  grants : List Resource
  page : MgmtPage
  log : FaultLog
  frelobj : W64
  frelLow : W32
  /-- the writes of FRELCMD still to act, each with the FRELOBJ it found -/
  frelcmds : List (W64 × W64)
  held : List Held
deriving DecidableEq, Repr

/-- One module's half of a pairing (R405). -/
structure Pairing where
  plot : PlotNo
  module : Fin 256
  remote : PlotNo
  gen : BitVec 16
deriving DecidableEq, Repr

/-- An entry of a landing buffer (R418), as the device keeps it: source module, context address, gang, channel, arrival number,
place in the buffer, number of words. -/
structure Landed where
  src : Fin 256
  ctx : Nat
  plot : PlotNo
  gang : BitVec 16
  chan : KReg
  seq : Int
  place : Nat
  words : Nat
deriving DecidableEq, Repr

/-- A gleaner job (R452): the range, the position reached, the completion object (none for a job of a warm start). -/
structure GleanJob where
  start : Nat
  len : Nat
  pos : Nat
  cpl : Option (Nat × Nat)
deriving DecidableEq, Repr

/-- A quarantined resource with its key slot and the PLOTID of the plot that held it (R454). -/
structure Quarantine where
  res : Resource
  key : Option Nat
  plotid : Nat
deriving DecidableEq, Repr

/-- A message to the host (R437): function, vector, address, data. -/
structure HostMsg where
  fn : Nat
  vec : Nat
  addr : W64
  data : W64
deriving DecidableEq, Repr

/-- What the issue in progress has fixed (R20): the core and context, the slot in the order of R24, the code address of
the unit, the pool, whether the bundle is a checkpoint, and whether a base die answers its push in this step (R320). -/
structure Iss where
  core : Nat
  ctx : Nat
  slot : Nat
  caddr : W32
  pool : BitVec 16
  ckpt : Bool
  answer : Bool
deriving DecidableEq, Repr

/-- What is left of a core's cycle after its issue (R225, R342): the commit, the landings, the
switch, a share that the cycle has filled. -/
inductive Micro where
  /-- with the header's LIVE (R59) -/
  | commit (core : Nat) (live : Fin 64)
  | land (core : Nat)
  /-- with whether the conditions of R228 that hold as the bundle issues held -/
  | yield (core : Nat) (releasable : Bool)
  | share (core : Nat) (plot : PlotNo) (gang : Nat)
deriving DecidableEq, Repr

/-- The module. -/
structure State where
  /-- base ticks of 250 ps since the cold start; device nanoseconds (R449) -/
  tick : Nat
  devns : Nat
  /-- HBM in home-stack order, weight stores and scratchpads, by device address (R260); what is written under key slot k
  stands at the address plus (k + 1)·2^48, as its plaintext -/
  mem : Memory
  /-- full granules of scratchpad, by device address of the granule (R245), rising -/
  full : List Nat
  /-- 8-byte words with an uncorrectable error, by device address (R356), rising -/
  ue : List Nat
  /-- how a line's bytes in HBM are held, where not raw (R450): k + 1 for a line written under key slot k -/
  enc : Tab Nat
  /-- the number that each 128-byte line's last write took in its sequence (R399) -/
  lineSeq : Tab Nat
  dies : Vector Die 4
  /-- the translation units' caches: whole answers, and the table entries that walks have read (R265) -/
  tlb : List TlbEntry
  reads : List TableRead
  cores : Tab Core
  ctxs : Tab Context
  groups : Tab Group
  nextGroup : Nat
  /-- run queues, by cluster·256 + plot (R231, R319) -/
  runq : Tab (List RunRec)
  /-- restore lists, by cluster (R382) -/
  restore : Tab (List Saved)
  /-- gangs, by plot·65536 + gang (R236) -/
  gangs : Tab Gang
  /-- purses in groats, by (die·256 + plot)·65536 + gang (R423) -/
  purses : Tab Nat
  /-- the model's own: the device nanosecond of the last decay -/
  purseNs : Nat
  engines : List EngineOp
  nextEngine : Nat
  launches : Tab Launch
  nextLaunch : Nat
  plots : Tab Plot
  estates : Tab Estate
  ownerPage : MgmtPage
  /-- pages with a command in progress, in the order of their MCMD writes (R440) -/
  cmds : List Page
  ownerLog : FaultLog
  ownerMsix : Msix
  pairings : List Pairing
  landed : List Landed
  /-- arrivals so far at each context address (R418) -/
  nextSeq : Tab Nat
  /-- packets that have left and await their target, replies included; replies that were refused, with the base tick from which each is
  sent again (R420) -/
  fabric : List Packet
  refusedReplies : List (Packet × Nat)
  /-- module registers (R422, R438) -/
  purseReg : BitVec 24
  spinReg : BitVec 40
  shareReg : W32
  agePeriod : W32
  winBase : BitVec 4
  /-- loaded key slots (R450): data key, tweak key -/
  keys : Tab (List W64)
  jobs : List GleanJob
  scrubPos : BitVec 40
  quarantine : List Quarantine
  /-- what starts have found at work and not yet settled (R466) -/
  unsettled : List ObjRecord
  /-- START (R461) -/
  wfail : Nat
  lastStart : Nat
  failStep : Nat
  starts : Nat
  onFabric : Bool
  /-- PATROLUE (R470) -/
  patCount : BitVec 16
  patSpace : BitVec 2
  patAddr : BitVec 40
  /-- VF Enable, and the base tick at which it was last cleared (R446) -/
  vfEnable : Bool
  vfOffAt : Nat
  /-- the model's own: messages sent to the host and the last value it read -/
  hostMsgs : List HostMsg
  hostData : W64
  /-- the model's own: how many free values have been taken -/
  free : Nat
  /-- the model's own: the issue in progress -/
  iss : Iss
  /-- the model's own: the rest of an indivisible core cycle, then the interleaving and the outside inputs to come; the cores
  whose cycle of this base tick is still to come -/
  micro : List Micro
  sched : List Instr
  due : List Nat
deriving DecidableEq, Repr

/-! ### The state after reset (R14, R17, R462) -/

def PcEntry.at (x : W32) : PcEntry := ⟨x, 0, false, false⟩

def Tile.zero : Tile :=
  { ty := .i32, rows := .replicate 64 0, colsum := 0, rowsum := .replicate 64 0, corner := 0, mark := .replicate 64 0 }

def ArraySet.zero : ArraySet :=
  { acc := .replicate 65 (.replicate 129 0), parity := .replicate 65 0, rowsp := 0, colsp := 0, dmask := 0
    dcol := .replicate 129 0 }

/-- The shadowed state of a context at the start of a record (R14, R222). -/
def Arch.start : Arch :=
  { g := .replicate 64 0, a := .replicate 16 0, m := .replicate 16 0, levels := [], lstride := .replicate 96 0, sp := 0
    pc := .at 0, npc := .at 0, nnpc := .at 0, rmode := 0, seed := 0, tole := 0xF0, t0 := .zero, t1 := .zero
    work := .zero, drain := .zero, pa := 3, pb := 3, tt := [], tun := [], spos := .replicate 16 0, wc := 0
    parity := ⟨0, 0, 0, .replicate 128 0⟩ }

def Channel.zero : Channel := ⟨none, [], [], []⟩
def FlagRec.zero : FlagRec := ⟨0, .replicate 6 0⟩

/-- A context that holds no strand (R219). -/
def Context.empty : Context :=
  { st := .free, w := .start, sh := .start, shadowErr := false, latch := .replicate 16 0, vlatch := .replicate 16 0
    taskid := 0, kslot := 0, plot := 0, gen := 0, cycle := 0, frzcyc := 0, cstat := 0, flags := .replicate 8 .zero
    fixcnt := .replicate 8 0, live := 0, fly := [], loads := [], buf := [], cq := [], bind := .replicate 16 none
    chan := .replicate 8 .zero, strides := none, br := .none, post := [], raised := none, frozenFor := 0
    parkOn := none, readyAt := 0, fresh := false, group := 0, sent := 0, firstSent := 0, unacked := [], wseq := 0, nextStore := 0, handed := false, copying := none
    fenceWaits := none, trapped := none, since := 0, migrate := false, releasing := false, failure := none, ver := none
    nextLoad := 0 }

def Share.zero : Share := ⟨0, [], [], [], []⟩
def Core.zero : Core := ⟨none, 0, false, [], .zero⟩
def Die.zero : Die := ⟨[], [0, 0, 0, 0], [], [], [], 4000, 0, 0, 0, []⟩
def MgmtPage.zero : MgmtPage := ⟨.replicate 4 0, 0, 0, false, 0, 0, 0⟩
def FaultLog.zero : FaultLog := ⟨0, 0, 0, 0⟩
def Msix.zero : Msix := ⟨[], 0, 0⟩

/-- The policy that PLOT_CREATE gives (R444). -/
def Policy.atCreate : Policy :=
  { priobase := 0, bandlo := 0, bandhi := 47, slice := 1000000, crights := 15, ctxbase := 0, ctxmax := 0, imgmax := 0
    placeremote := false, scopelim := false, hidepause := false, trapkslot := 0xFFFF, trapentry := 0, landbase := 0
    qcount := 0, written := 0 }

def Plot.absent : Plot :=
  { live := false, estate := 0, prot := false, keyslot := 0, gen := 0, destroyed := .none, rights := 31
    policy := .atCreate, root := .none, grants := [], off := 0, tp := 0, pausing := false, latedrop := 0, page := .zero
    log := .zero, msix := .zero, handles := [], queues := [], kernels := [], graphs := [], units := [] }

def Estate.absent : Estate :=
  { live := false, firstVf := 0, vfs := 0, rights := 31, root := .none, grants := [], page := .zero, log := .zero
    frelobj := 0, frelLow := 0, frelcmds := [], held := [] }

/-- The module after a cold start (R460 to R462): memory zero, nothing granted but the owner plot's existence (R440),
every register at the value the manual gives. -/
def State.reset : State :=
  { tick := 0, devns := 0, mem := [], full := [], ue := [], enc := [], lineSeq := [], dies := .replicate 4 .zero, tlb := [], reads := []
    cores := [], ctxs := [], groups := [], nextGroup := 1, runq := [], restore := [], gangs := [], purses := [], purseNs := 0
    engines := [], nextEngine := 1, launches := [], nextLaunch := 1, plots := [(0, { Plot.absent with live := true })]
    estates := [], ownerPage := .zero, ownerLog := .zero, ownerMsix := .zero, pairings := [], landed := [], nextSeq := []
    fabric := [], refusedReplies := [], cmds := [], purseReg := 0x044004, spinReg := 0x0200000800, shareReg := 40000, agePeriod := 20000, winBase := 0
    keys := [], jobs := [], scrubPos := 0, quarantine := [], unsettled := [], wfail := 0, lastStart := 1, failStep := 0, starts := 1
    onFabric := true, patCount := 0, patSpace := 0, patAddr := 0, vfEnable := false, vfOffAt := 0, hostMsgs := []
    hostData := 0, free := 0, iss := ⟨0, 0, 0, 0, 0, false, false⟩, micro := [], sched := [], due := [] }

end Sys2Proof.Machine
end

