-- ==== Sys2Proof/Machine/Tiles.lean ====
section
/-!
DEFINITION. Accumulator tiles and their checksums: rows, the sums that every write keeps current (R167, R207), recomputation
and the checks (R188, R208, R209), and the contribution arithmetic that scratchpad tiles share (R217).
-/
namespace Sys2Proof.Machine

/-- The lane width of a tile type (R157). -/
def ttWidth : TileType → Nat
  | .i32 | .f32 | .f32a => 32
  | .i16 | .bf16 | .fp16 => 16
  | .i64 => 64

/-- The float format at a type's width, none at width 64 (R157, R158). -/
def ttFmt : TileType → Option Fmt
  | .i32 | .f32 | .f32a => some fp32
  | .i16 | .bf16 => some bf16
  | .fp16 => some fp16
  | .i64 => none

/-- c(x) of a 32-bit column for the exact types (R207). -/
def contrib (ty : TileType) (x : Nat) : Int :=
  match ty with
  | .i16 => toS 16 (bits x 0 16) + toS 16 (bits x 16 16)
  | .bf16 | .fp16 => ((bits x 0 16 + bits x 16 16 : Nat) : Int)
  | _ => (x : Int)

/-- The finite FP32 value of a column as a dyadic number, none for a NaN or an infinity (R207). -/
def finite32 (x : Nat) : Option (Int × Int) :=
  match fp32.read x with
  | .num m e => some (m, e)
  | .zero _ => some (0, 0)
  | _ => none

/-- The exact total of dyadic numbers. -/
def dySum (l : List (Int × Int)) : Int × Int := l.foldl (fun a b => dyAdd a.1 a.2 b.1 b.2) (0, 0)

/-- A dyadic number as a value. -/
def fvOfDy (d : Int × Int) : FV := if d.1 = 0 then .zero false else .num d.1 d.2

/-- rne of an FP32 sum and an exact total (R167). -/
def rneAdd (sum : Nat) (d : FV) : Nat := (fp32.write .rne (fvAdd .rne (fp32.read sum) d)).1

/-- The exact total of values: infinite when a delta has overflowed, a NaN when two have in opposite directions (log 165). -/
def fvTotal (l : List FV) : FV := l.foldl (fvAdd .rne) (.zero false)

/-- rne of an exact total. -/
def rneOf (d : Int × Int) : Nat := (roundNum fp32 .rne false d.1 d.2).1

/-- The delta of a changed lane of an algebraic float tile: rne(new − old), an infinity where that overflows, or 0 when
either value is a NaN or an infinity (R167). -/
def delta32 (old new : Nat) : FV :=
  match finite32 old, finite32 new with
  | some (m1, e1), some (m2, e2) => fp32.read (rneOf (dyAdd m2 e2 (-m1) e1))
  | _, _ => .zero false

/-- The update of the sums by the changed columns (index, old, new) of one row: column sums by index, the row sum, the
corner (R167, R217). -/
def sumUpdate (ty : TileType) (ch : List (Nat × Nat × Nat)) (col : Nat → Nat) (row corner : Nat) :
    List (Nat × Nat) × Nat × Nat :=
  match ty with
  | .f32a =>
    let ds := ch.map fun (j, o, n) => (j, delta32 o n)
    let tot := fvTotal (ds.map Prod.snd)
    (ds.map fun (j, d) => (j, rneAdd (col j) d), if ch.isEmpty then row else rneAdd row tot,
      if ch.isEmpty then corner else rneAdd corner tot)
  | _ =>
    let ds := ch.map fun (j, o, n) => (j, contrib ty n - contrib ty o)
    let tot := (ds.map Prod.snd).foldl (· + ·) 0
    (ds.map fun (j, d) => (j, wrap 32 ((col j : Int) + d)), wrap 32 ((row : Int) + tot), wrap 32 ((corner : Int) + tot))

/-- Set lanes of 32 bits by index. -/
def setLanes32 (r : Row) (l : List (Nat × Nat)) : Row :=
  l.foldl (fun acc (j, x) => BitVec.ofNat 4096 (setBits acc.toNat (32 * j) 32 x)) r

/-- The columns of 32 bits in which two rows differ: (index, old, new). -/
def changed32 (o n : Row) : List (Nat × Nat × Nat) :=
  ((lanes 32 o).zip (lanes 32 n)).zipIdx.filterMap fun ((x, y), j) => if x = y then none else some (j, x, y)

/-- Row r of a tile. -/
def Tile.row (t : Tile) (r : Nat) : Row := t.rows.getD r 0

/-- The 32-bit columns that a mask touches. -/
def touched32 (mask : Row) : BitVec 128 :=
  BitVec.ofNat 128 ((lanes 32 mask).zipIdx.foldl (fun acc (x, j) => if x = 0 then acc else acc + 2 ^ j) 0)

/-- Write the bits of row r under a mask, keeping every sum current, with the marks of the written lanes as given (R167,
R204). -/
def Tile.writeMarked (t : Tile) (r : Nat) (mask x : Row) (marks : BitVec 128) : Tile :=
  let old := t.row r
  let new := (old &&& ~~~mask) ||| (x &&& mask)
  let ch := changed32 old new
  let (cs, rs, co) := sumUpdate t.ty ch (fun j => lane 32 t.colsum j) (t.rowsum.getD r 0).toNat t.corner.toNat
  let tch := touched32 mask
  { t with
    rows := t.rows.setIfInBounds r new
    colsum := setLanes32 t.colsum cs
    rowsum := t.rowsum.setIfInBounds r (BitVec.ofNat 32 rs)
    corner := BitVec.ofNat 32 co
    mark := t.mark.setIfInBounds r ((t.mark.getD r 0 &&& ~~~tch) ||| (marks &&& tch)) }

/-- A write other than MDRAIN's clears the marks of the lanes it writes (R204). -/
def Tile.write (t : Tile) (r : Nat) (mask x : Row) : Tile := t.writeMarked r mask x 0

/-- VSCACC's write: on a tile that is algebraic float as it lands the sums take the same operation (R187); on any other it
is a write like another (R167). -/
def Tile.scacc (t : Tile) (r : Nat) (x : Row) (terms : List (Option (Int × Int))) : Tile :=
  match t.ty with
  | .f32a =>
    let cs := terms.zipIdx.filterMap fun (d, j) => d.map fun d => (j, rneAdd (lane 32 t.colsum j) (fvOfDy d))
    let tot := fvOfDy (dySum (terms.filterMap id))
    let any := terms.any Option.isSome
    let rs := (t.rowsum.getD r 0).toNat
    { t with
      rows := t.rows.setIfInBounds r x
      colsum := setLanes32 t.colsum cs
      rowsum := t.rowsum.setIfInBounds r (BitVec.ofNat 32 (if any then rneAdd rs tot else rs))
      corner := if any then BitVec.ofNat 32 (rneAdd t.corner.toNat tot) else t.corner }
  | _ => t.write r (BitVec.allOnes 4096) x

/-! ### Recomputation (R188, R207) -/

/-- The columns of every row, 32 bits each. -/
def Tile.grid (t : Tile) : List (List Nat) := t.rows.toList.map (lanes 32)

/-- The columns of a grid, n of them. -/
def gridCols (n : Nat) (g : List (List Nat)) : List (List Nat) :=
  (List.range n).map fun j => g.map fun r => nth r j 0

/-- One sum of a list of columns by the arithmetic of the type (R207). -/
def sumOf (ty : TileType) (l : List Nat) : Nat :=
  match ty with
  | .f32a => rneOf (dySum (l.filterMap finite32))
  | _ => wrap 32 ((l.map (contrib ty)).foldl (· + ·) 0)

/-- The sums of a grid of `cols` columns: column sums, row sums, corner. -/
def gridSums (ty : TileType) (cols : Nat) (g : List (List Nat)) : List Nat × List Nat × Nat :=
  ((gridCols cols g).map (sumOf ty), g.map (sumOf ty), sumOf ty g.flatten)

/-- Replace every stored sum by the recomputed one (R188, R190). -/
def Tile.rebase (t : Tile) : Tile :=
  let (cs, rs, co) := gridSums t.ty 128 t.grid
  { t with colsum := ofLanes 32 cs, rowsum := Vector.ofFn fun i => BitVec.ofNat 32 (nth rs i 0), corner := BitVec.ofNat 32 co }

/-- A row that carries row sums in lanes 0–63 and the corner in lane 64 (R188). -/
def sumsRow (rs : List Nat) (corner : Nat) : Row := ofLanes 32 (rs ++ [corner])

/-! ### Checks (R208, R209) -/

/-- The outcome of a check: agreement, a stored sum replaced, one element corrected, or an error. -/
inductive Check where
  | ok
  | sums (col : List (Nat × Nat)) (row : List (Nat × Nat)) (corner : Option Nat)
  | element (i j : Nat) (x : Nat)
  | dataErr
  | tolerance
deriving DecidableEq, Repr

/-- The nonzero differences of recomputed and stored sums, by index. -/
def diffs (new old : List Nat) : List (Nat × Nat) :=
  (new.zip old).zipIdx.filterMap fun ((n, o), j) =>
    let d := wrap 32 ((n : Int) - o)
    if d = 0 then none else some (j, d)

/-- The check of an exact type (R208). -/
def checkExact (ty : TileType) (cols : Nat) (g : List (List Nat)) (cs rs : List Nat) (co : Nat) : Check :=
  let (ncs, nrs, nco) := gridSums ty cols g
  let dc := diffs ncs cs
  let dr := diffs nrs rs
  let dz := wrap 32 ((nco : Int) - co)
  match dc, dr, dz with
  | [], [], 0 => .ok
  | [(j, _)], [], 0 => .sums [(j, nth ncs j 0)] [] none
  | [], [(i, _)], 0 => .sums [] [(i, nth nrs i 0)] none
  | [], [], _ => .sums [] [] (some nco)
  | [(j, d)], [(i, e)], z =>
    if d = e ∧ e = z ∧ (ty = .i32 ∨ ty = .f32) then .element i j (wrap 32 (((nth (nth g i []) j 0 : Nat) : Int) - d))
    else .dataErr
  | _, _, _ => .dataErr

/-- |x| ≤ y for dyadic numbers. -/
def dyAbsLe (x y : Int × Int) : Bool := decide ((dyAdd y.1 y.2 (-(x.1.natAbs : Int)) x.2).1 ≥ 0)

/-- One sum of an F32A tile passes when the stored one is finite and within tolerance (R209). -/
def tolPass (tole : Int) (l : List Nat) (stored : Nat) : Bool :=
  let fs := l.filterMap finite32
  let m := dySum (fs.map fun (a, e) => ((a.natAbs : Int), e))
  match finite32 stored with
  | none => false
  | some (a, e) =>
    let s := dySum fs
    dyAbsLe (dyAdd s.1 s.2 (-a) e) (m.1, m.2 + tole)

/-- The check of an algebraic float tile (R209). -/
def checkTol (tole : Int) (cols : Nat) (g : List (List Nat)) (cs rs : List Nat) (co : Nat) : Check :=
  if ((gridCols cols g).zip cs).all (fun (l, s) => tolPass tole l s) && (g.zip rs).all (fun (l, s) => tolPass tole l s)
      && tolPass tole g.flatten co then .ok else .tolerance

/-- The check of any tile (R208). -/
def checkGrid (ty : TileType) (tole : Int) (cols : Nat) (g : List (List Nat)) (cs rs : List Nat) (co : Nat) : Check :=
  match ty with
  | .f32a => checkTol tole cols g cs rs co
  | _ => checkExact ty cols g cs rs co

def Tile.check (t : Tile) (tole : BitVec 8) : Check :=
  checkGrid t.ty tole.toInt 128 t.grid (lanes 32 t.colsum) (t.rowsum.toList.map BitVec.toNat) t.corner.toNat

/-- Carry out a correction (R208): no sum changes with an element, no element with a sum; the element's mark goes, as by
every write but MDRAIN's (R204). -/
def Tile.correct (t : Tile) : Check → Tile
  | .sums c r z =>
    { t with
      colsum := setLanes32 t.colsum c
      rowsum := r.foldl (fun v (i, x) => v.setIfInBounds i (BitVec.ofNat 32 x)) t.rowsum
      corner := (z.map (BitVec.ofNat 32)).getD t.corner }
  | .element i j x =>
    { t with
      rows := t.rows.setIfInBounds i (setLanes32 (t.row i) [(j, x)])
      mark := t.mark.setIfInBounds i (t.mark.getD i 0 &&& ~~~(BitVec.twoPow 128 j)) }
  | _ => t

/-- Whether a check made a correction. -/
def Check.fixed : Check → Bool
  | .sums .. | .element .. => true
  | _ => false

end Sys2Proof.Machine
end

