-- ==== Sys2Proof/Machine/Mem.lean ====
section
/-!
DEFINITION. Memory by device address (R260), the dies' views of HBM (R399 to R401), full-empty bits (R245), grants (R241,
R257), translation (R262 to R266).
-/
namespace Sys2Proof.Machine

/-! ### Bytes -/

/-- The byte at an address; an unlisted one reads 0. -/
def Memory.get : Memory → Nat → Byte
  | [], _ => 0
  | (k, v) :: t, a => if a = k then v else Memory.get t a

/-- Write one byte, keeping the canonical form. -/
def Memory.set : Memory → Nat → Byte → Memory
  | [], a, b => if b = 0 then [] else [(a, b)]
  | (k, v) :: t, a, b =>
    if a < k then (if b = 0 then (k, v) :: t else (a, b) :: (k, v) :: t)
    else if a = k then (if b = 0 then t else (a, b) :: t)
    else (k, v) :: Memory.set t a b

/-- Bytes from an address upward. -/
def Memory.read (m : Memory) (a : Nat) : Nat → List Byte
  | 0 => []
  | n + 1 => m.get a :: Memory.read m (a + 1) n

/-- Write bytes from an address upward. -/
def Memory.write (m : Memory) (a : Nat) : List Byte → Memory
  | [] => m
  | b :: bs => Memory.write (m.set a b) (a + 1) bs

/-- A little-endian number of n bytes (R3). -/
def Memory.num (m : Memory) (a n : Nat) : Nat := ofBytes (m.read a n)

/-- Write zeros. -/
def Memory.clear (m : Memory) (a n : Nat) : Memory := m.filter fun c => c.1 < a || a + n ≤ c.1

/-! ### The device address map (R260) -/

def hbmTop : Nat := 0x6000000000
def spadSize : Nat := 0xC0000
def wsSize : Nat := 0x30000000
def spadBase (core : Nat) : Nat := 0x9000000000 + core * 0x100000
def wsBase (die : Nat) : Nat := 0x8000000000 + die * 0x40000000

/-- The regions of the map. -/
inductive Region where
  | hbm
  | ws (die off : Nat)
  | spad (core off : Nat)
  | none
deriving DecidableEq, Repr

def regionOf (a : Nat) : Region :=
  let da := a % 2 ^ 48
  if da < hbmTop then .hbm
  else if 0x8000000000 ≤ da ∧ da < 0x8100000000 then
    let o := da - 0x8000000000
    if o % 0x40000000 < wsSize then .ws (o / 0x40000000) (o % 0x40000000) else .none
  else if 0x9000000000 ≤ da ∧ da < spadBase 640 then
    let o := da - 0x9000000000
    if o % 0x100000 < spadSize then .spad (o / 0x100000) (o % 0x100000) else .none
  else .none

/-- The home stack of an HBM address (R260). -/
def stackOf (da : Nat) : Nat := da / 4096 % 8

/-- The die of a core, and its cluster in the module. -/
def dieOf (core : Nat) : Nat := core / 160
def clusterOf (core : Nat) : Nat := core / 16
def coreOfCtx (x : Nat) : Nat := x / 8

/-! ### Sorted sets of numbers -/

def setInsert : List Nat → Nat → List Nat
  | [], n => [n]
  | k :: t, n => if n < k then n :: k :: t else if n = k then k :: t else k :: setInsert t n

def setErase (l : List Nat) (n : Nat) : List Nat := l.filter (· != n)

/-! ### State accessors -/

def State.plot (s : State) (p : Nat) : Plot := s.plots.get p .absent
def State.setPlot (s : State) (p : Nat) (x : Plot) : State := { s with plots := s.plots.set p x }
def State.estate (s : State) (e : Nat) : Estate := s.estates.get e .absent
def State.setEstate (s : State) (e : Nat) (x : Estate) : State := { s with estates := s.estates.set e x }
def State.core (s : State) (c : Nat) : Core := s.cores.get c .zero
def State.setCore (s : State) (c : Nat) (x : Core) : State := { s with cores := s.cores.set c x }
def State.ctx (s : State) (x : Nat) : Context := s.ctxs.get x .empty
def State.setCtx (s : State) (x : Nat) (c : Context) : State := { s with ctxs := s.ctxs.set x c }
def State.die (s : State) (d : Nat) : Die := s.dies.getD d .zero
def State.setDie (s : State) (d : Nat) (x : Die) : State := { s with dies := s.dies.setIfInBounds d x }
def State.group (s : State) (g : Nat) : Option Group := s.groups.find g
def State.setGroup (s : State) (g : Nat) (x : Group) : State := { s with groups := s.groups.set g x }
/-- A fresh free value's index. -/
def State.takeFree (s : State) : Nat × State := (s.free, { s with free := s.free + 1 })

/-! ### Full-empty bits (R245) -/

/-- Whether the granule that holds a scratchpad address is full. -/
def State.isFull (s : State) (core a : Nat) : Bool := s.full.contains (spadBase core + a / 16 * 16)

/-- Set n granules from an address on. -/
def setFull (full : List Nat) (base : Nat) : Nat → Bool → List Nat
  | 0, _ => full
  | n + 1, v => setFull (if v then setInsert full base else setErase full base) (base + 16) n v

def State.setGranules (s : State) (core a n : Nat) (v : Bool) : State :=
  { s with full := setFull s.full (spadBase core + a / 16 * 16) n v }

/-- The granules that bytes touch. -/
def granules (a n : Nat) : Nat := if n = 0 then 0 else (a + n - 1) / 16 - a / 16 + 1

/-! ### Words with an uncorrectable error (R356) -/

def State.ueHit (s : State) (a n : Nat) : Bool :=
  let da := a % 2 ^ 48
  s.ue.any fun w => w < da + n && da < w + 8

/-- A write replaces the words that it writes whole; a part of a word leaves its error as it stands (DEDUCED, log entry 174). -/
def State.ueClear (s : State) (a n : Nat) : State :=
  let da := a % 2 ^ 48
  { s with ue := s.ue.filter fun w => !(da ≤ w && w + 8 ≤ da + n) }

/-! ### Grants -/

def Plot.owns (p : Plot) (r : Resource) : Bool := p.grants.contains r

/-- Whether bytes of a core's scratchpad lie in segments granted to a plot (R106, R241). -/
def State.spadOk (s : State) (plot core a n : Nat) : Bool :=
  n == 0 || (a + n ≤ spadSize &&
    (List.range ((a + n - 1) / 65536 - a / 65536 + 1)).all fun i =>
      (s.plot plot).owns (.segment (core * 12 + a / 65536 + i)))

/-- Whether bytes of a die's weight store lie in blocks granted to a plot (R106, R257). -/
def State.wsOk (s : State) (plot die a n : Nat) : Bool :=
  a + n ≤ wsSize &&
    (List.range ((a + n - 1) / 65536 - a / 65536 + 1)).all fun i =>
      (s.plot plot).owns (.block (die * 12288 + a / 65536 + i))

/-! ### Encrypted lines (R450, R451) -/

/-- The address under a key slot: its own place for what is encrypted under that slot. -/
def keyed (key : Option Nat) (da : Nat) : Nat :=
  match key with
  | some k => da + (k + 1) * 2 ^ 48
  | none => da

/-- How the line of an address is held. -/
def State.lineForm (s : State) (a : Nat) : Nat := s.enc.get (a % 2 ^ 48 / 128) 0

/-- The form that an address asks for: 0 raw, k + 1 under key slot k. -/
def formOf (a : Nat) : Nat := a / 2 ^ 48

/-- A line of a copy of HBM as it stands there, encrypted where it is held under a key slot (R450). -/
def State.rawLine (s : State) (m : Memory) (line : Nat) : List Byte :=
  let f := s.enc.get line 0
  let d := m.read (f * 2 ^ 48 + 128 * line) 128
  if f = 0 then d else xtsLine true (s.keys.get (f - 1) []) line d

/-- A line as a form asks for it. -/
def State.seenLine (s : State) (m : Memory) (form line : Nat) : List Byte :=
  if s.enc.get line 0 = form then m.read (form * 2 ^ 48 + 128 * line) 128
  else
    let d := s.rawLine m line
    if form = 0 then d else xtsLine false (s.keys.get (form - 1) []) line d

/-- Bytes of a copy of HBM, each in the form of its address. -/
def State.seen (s : State) (m : Memory) (a n : Nat) : List Byte :=
  if s.enc.isEmpty && decide (a < 2 ^ 48) then m.read a n
  else (List.range n).map fun i =>
    if s.lineForm (a + i) = formOf (a + i) then m.get (a + i)
    else (s.seenLine m (formOf (a + i)) ((a + i) % 2 ^ 48 / 128)).getD ((a + i) % 128) 0

/-- A write of part of one line in its address's form: a line held in another form is wholly rewritten. -/
def State.lineAs (s : State) (m : Memory) (a : Nat) (bs : List Byte) : Nat × List Byte × State :=
  if s.lineForm a = formOf a then (a, bs, s)
  else
    let base := a / 128 * 128
    let o := a % 128
    let l := s.seen m base 128
    (base, l.take o ++ bs ++ l.drop (o + bs.length),
      { s with enc := if a < 2 ^ 48 then s.enc.erase (a / 128) else s.enc.set (a % 2 ^ 48 / 128) (formOf a) })

/-- A memory in which lines stand as bytes given, raw. -/
def Memory.putLines (m : Memory) (l : List (Nat × List Byte)) : Memory := l.foldl (fun m e => m.write (128 * e.1) e.2) m

/-- KSLOTZ (R451): near-cache lines and writes on their way under the slot are gone; what HBM holds of its pages is ciphertext of a key
that is gone, and every die sees that. -/
def State.dropKey (s : State) (k : Nat) : State :=
  let form := k + 1
  let lines := (s.enc.filter fun e => e.2 == form).map fun e => (e.1, s.rawLine s.mem e.1)
  let clean (m : Memory) : Memory := Memory.putLines (m.filter fun c => formOf c.1 != form) lines
  { s with
    mem := clean s.mem
    enc := s.enc.filter fun e => e.2 != form
    keys := s.keys.erase k
    dies := s.dies.map fun d => { d with
      view := clean d.view
      out := d.out.map fun o => if formOf o.addr = form then { o with bytes := [] } else o
      updates := d.updates.map fun u => if formOf u.addr = form then { u with bytes := [] } else u } }

/-- The memory that a granted resource is: a core is none. -/
def Resource.span : Resource → Nat × Nat
  | .core _ => (0, 0)
  | .segment n => (spadBase (n / 12) + n % 12 * 65536, 65536)
  | .block n => (wsBase (n / 12288) + n % 12288 * 65536, 65536)
  | .range base len => (base, len)

/-- Whether a resource's memory meets a range of device addresses. -/
def resourceMeets (r : Resource) (start len : Nat) : Bool :=
  let (b, n) := r.span
  decide (b < start + len ∧ start < b + n)

/-! ### HBM through a die (R399) -/

/-- Cut bytes at lines of 128. -/
def splitLines : Nat → Nat → List Byte → List (Nat × List Byte)
  | 0, _, _ => []
  | _, _, [] => []
  | k + 1, a, bs =>
    let n := 128 - a % 128
    (a, bs.take n) :: splitLines k (a + n) (bs.drop n)

/-- One write of a line performed at a die's near cache: its view changes, its clock advances, and the write leaves for
the home stack (R399, R400). -/
def State.lineWrite (s : State) (d a : Nat) (bs : List Byte) : State :=
  let (a, bs, s) := s.lineAs (s.die d).view a bs
  let die := s.die d
  let seq := die.clock.getD d 0 + 1
  let clk := die.clock.set d seq
  (s.setDie d { die with view := die.view.write a bs, clock := clk, out := die.out ++ [⟨seq, clk, a, bs⟩] }).ueClear a bs.length

/-- Bytes written to HBM by a die. -/
def State.hbmWrite (s : State) (d a : Nat) (bs : List Byte) : State :=
  (splitLines (bs.length / 128 + 2) a bs).foldl (fun s p => s.lineWrite d p.1 p.2) s

/-- The highest number a die has given to a write of its own. -/
def State.dieSeq (s : State) (d : Nat) : Nat := (s.die d).clock.getD d 0

/-- Bytes of HBM as a die sees them. -/
def State.hbmRead (s : State) (d a n : Nat) : List Byte := s.seen (s.die d).view a n

/-- Bytes of HBM in the home stacks' order. -/
def State.homeRead (s : State) (a n : Nat) : List Byte := s.seen s.mem a n

/-- Whether every die has applied the writes of die d up to a number (R402). -/
def State.seenByAll (s : State) (d seq : Nat) : Bool :=
  s.dies.toList.all fun e => seq ≤ e.clock.getD d 0

/-- A numbered write that the die shows is kept while an update of its line with a lower number may still come (R401). -/
def Die.prune (d : Die) : Die :=
  { d with own := d.own.filter fun w => d.updates.any fun u => u.addr / 128 == w.addr / 128 && decide (u.number < w.number) }

/-- Give a write its number at the home stack and perform it there; forward it to every die but `own` (R399). -/
def State.homeWrite (s : State) (own : Nat) (clk : List Nat) (a : Nat) (bs : List Byte) : Nat × State :=
  let line := a / 128
  let n := s.lineSeq.get line 0 + 1
  let up : Update := ⟨own, clk, n, a, bs⟩
  (n, { s with
    mem := s.mem.write a bs
    lineSeq := s.lineSeq.set line n
    dies := Vector.ofFn fun e =>
      let die := s.die e
      if e.val = own then ({ die with own := die.own ++ [⟨a, bs.length, n⟩] } : Die).prune else { die with updates := die.updates ++ [up] } })

/-! ### Table entries (R262 to R264) -/

/-- A level of a table walk: the lowest index bit, the index bits, whether a leaf and a table pointer may stand there, and
the size of the next level's table. -/
structure WalkLevel where
  lo : Nat
  bits : Nat
  leaf : Bool
  table : Bool
  next : Nat

def stage2Levels : List WalkLevel :=
  [⟨39, 9, false, true, 4096⟩, ⟨30, 9, true, true, 4096⟩, ⟨21, 9, true, true, 256⟩, ⟨16, 5, true, false, 1⟩]
def stage1Levels : List WalkLevel :=
  [⟨48, 8, false, true, 4096⟩, ⟨39, 9, false, true, 4096⟩, ⟨30, 9, true, true, 4096⟩, ⟨21, 9, true, true, 256⟩,
    ⟨16, 5, true, false, 1⟩]

/-- What a table entry says (R262, R264). -/
inductive TableEntry where
  | bad
  | table (oa : Nat)
  | leaf (oa : Nat) (r w pin : Bool) (key : Option Nat)

def tableEntry (l : WalkLevel) (stage2 : Bool) (e : Nat) : TableEntry :=
  let oa := bits e 8 44 * 256
  let lim := if stage2 then 2 ^ 40 else 2 ^ 48
  let enc := bitAt e 63
  let key := bits e 55 8
  if bits e 52 3 ≠ 0 ∨ bits e 5 3 ≠ 0 ∨ lim ≤ oa then .bad
  else if e % 4 = 1 then
    if !l.table || bits e 55 9 != 0 || bits e 2 3 != 0 || oa % l.next != 0 then .bad else .table oa
  else if e % 4 = 2 then
    if !l.leaf || oa % 2 ^ l.lo != 0 || (!stage2 && (enc || key != 0 || bitAt e 4)) || (!enc && key != 0) then .bad
    else .leaf oa (bitAt e 2) (bitAt e 3) (bitAt e 4) (if enc then some key else none)
  else .bad

/-! ### Any device address, as engines reach it -/

/-- The leaf of stage-2 tables that maps a device address: its key slot. -/
def leafKey (m : Memory) (da : Nat) : List WalkLevel → Nat → Option (Option Nat)
  | [], _ => none
  | l :: ls, tab =>
    let cells := m.filter fun c => decide (tab ≤ c.1 ∧ c.1 < tab + 8 * 2 ^ l.bits)
    ((cells.map fun c => (c.1 - tab) / 8).eraseDups).findSome? fun i =>
      match tableEntry l true (Memory.num cells (tab + 8 * i) 8) with
      | .bad => none
      | .table oa => leafKey m da ls oa
      | .leaf oa _ _ _ key => if oa ≤ da ∧ da < oa + 2 ^ l.lo then some key else none

/-- The key slot of a device page as the tables of a plot's estate map it; an engine reaches an encrypted page under it (R450). The owner
plot's stage 2 is the identity, and a page that no leaf maps is reached raw (DEDUCED, log entry 175). -/
def State.pageKey (s : State) (plot da : Nat) : Option Nat :=
  if plot = 0 then none
  else match (s.estate (s.plot plot).estate).root with
    | none => none
    | some root => (leafKey s.mem (da / 65536 * 65536) stage2Levels root).getD none

/-- The address by which an engine reaches a device address; none where its key slot is empty. -/
def State.engineAddr (s : State) (plot da : Nat) : Option Nat :=
  match regionOf da with
  | .hbm =>
    match s.pageKey plot da with
    | none => some da
    | some k => if (s.keys.find k).isSome then some (keyed (some k) da) else none
  | _ => some da

/-- Bytes at a device address, seen from a die. -/
def State.devRead (s : State) (d da n : Nat) : List Byte :=
  match regionOf da with
  | .hbm => s.hbmRead d da n
  | _ => s.mem.read da n

/-! ### Tile-table upkeep of scratchpad (R217, R218) -/

/-- The columns of a row of an entry's region that bytes touch: (index, address). -/
def touchedCols (e : TileEntry) (i a n : Nat) : List (Nat × Nat) :=
  let row := e.base + i * e.pitch
  (List.range e.cols).filterMap fun j =>
    let c := row + 4 * j
    if c < a + n ∧ a < c + 4 then some (j, c) else none

/-- The rows of a region that bytes may touch. -/
def touchedRows (e : TileEntry) (a n : Nat) : List Nat :=
  (List.range e.rows).filter fun i => e.base + i * e.pitch < a + n && a < e.base + i * e.pitch + 4 * e.cols

/-- Write bytes at scratchpad address a, memory offset `base`, and bring the sums of one entry up to date (R217). The old
columns are those before the write. -/
def sumsOfEntry (base : Nat) (old new : Memory) (e : TileEntry) (a n : Nat) : Memory :=
  (touchedRows e a n).foldl (fun m i =>
    let ch := (touchedCols e i a n).filterMap fun (j, c) =>
      let o := old.num (base + c) 4
      let x := new.num (base + c) 4
      if o = x then none else some (j, o, x)
    let ar := base + e.area
    let (cs, rs, co) := sumUpdate e.ty ch (fun j => m.num (ar + 4 * j) 4) (m.num (ar + 512 + 4 * i) 4) (m.num (ar + 768) 4)
    let m := cs.foldl (fun m (j, x) => m.write (ar + 4 * j) (toBytes 4 x)) m
    (m.write (ar + 512 + 4 * i) (toBytes 4 rs)).write (ar + 768) (toBytes 4 co)) new

/-- A scratchpad write with its tile-table update, as one change. -/
def spadWrite (m : Memory) (base a : Nat) (bs : List Byte) (ents : List TileEntry) : Memory :=
  ents.foldl (fun acc e => sumsOfEntry base m acc e a bs.length) (m.write (base + a) bs)

/-- The valid tile-table entries of a core: those of all its contexts, in the working state (R213, R216). -/
def State.coreTiles (s : State) (core : Nat) : List TileEntry :=
  (List.range 8).flatMap fun k =>
    match s.ctxs.find (core * 8 + k) with
    | some c => if c.st = .free then [] else c.w.tt.map Prod.snd
    | none => []

/-- An engine's write into a core's scratchpad: data, tile sums and full granules in one landing (R217, R245). -/
def State.engineSpadWrite (s : State) (core a : Nat) (bs : List Byte) : State :=
  ({ s with mem := spadWrite s.mem (spadBase core) a bs (s.coreTiles core) }.setGranules core a (granules a bs.length) true).ueClear
    (spadBase core + a) bs.length

/-- An engine's write to a device address from a die; the weight store takes plain bytes. -/
def State.devWrite (s : State) (d da : Nat) (bs : List Byte) : State :=
  match regionOf da with
  | .hbm => s.hbmWrite d da bs
  | .spad core off => s.engineSpadWrite core off bs
  | .ws _ _ => ({ s with mem := s.mem.write da bs } : State).ueClear da bs.length
  | .none => s

/-! ### Translation (R262 to R265) -/

/-- A leaf found by one stage: the output address of the input, with its permissions. -/
structure LeafHit where
  addr : Nat
  r : Bool
  w : Bool
  pin : Bool
  key : Option Nat

/-- Walk one stage's levels from a table; `fetch` reads an entry at an address of the tables' own space, or fails, and keeps a record of
what it has read. -/
def walkStage {α : Type} (stage2 : Bool) (x : Nat) (fetch : α → Nat → α × Except (Bool × Nat) Nat) :
    List WalkLevel → Nat → α → α × Except (Bool × Nat) LeafHit
  | [], _, r => (r, .error (stage2, x))
  | l :: ls, tab, r =>
    match fetch r (tab + 8 * bits x l.lo l.bits) with
    | (r, .error e) => (r, .error e)
    | (r, .ok e) =>
      match tableEntry l stage2 e with
      | .bad => (r, .error (stage2, x))
      | .table oa => walkStage stage2 x fetch ls oa r
      | .leaf oa r1 w pin key => (r, .ok ⟨oa + x % 2 ^ l.lo, r1, w, pin, key⟩)

/-- A table entry as a unit reads it: from its cache, or from memory into its cache (R265, R266). -/
def cachedEntry (d plot gen : Nat) (stage2 : Bool) (a : Nat) (fresh : Nat) (r : List TableRead) : List TableRead × Nat :=
  match r.find? fun e => e.die == d && e.plot == plot && e.gen == gen && e.stage2 == stage2 && e.addr == a with
  | some e => (r, e.value)
  | none => (r ++ [⟨d, plot, gen, stage2, a, fresh⟩], fresh)

/-- Stage 2 of an estate address: the owner plot's is the identity (R440). -/
def State.walk2 (s : State) (d plot ea : Nat) (r : List TableRead) : List TableRead × Except (Bool × Nat) LeafHit :=
  if plot = 0 then (r, if ea < 2 ^ 40 then .ok ⟨ea, true, true, true, none⟩ else .error (true, ea))
  else
    match (s.estate (s.plot plot).estate).root with
    | none => (r, .error (true, ea))
    | some root =>
      walkStage true ea (fun r a =>
        if a + 8 ≤ hbmTop then
          let (r, v) := cachedEntry d plot (s.plot plot).gen.toNat true a (ofBytes (s.hbmRead d a 8)) r
          (r, .ok v)
        else (r, .error (true, ea))) stage2Levels root r

/-- Both stages for a plot virtual address, on a die (R263, R264), with the table entries that the unit then holds. -/
def State.walkReads (s : State) (d plot va : Nat) : List TableRead × Walk :=
  match (s.plot plot).root with
  | none => (s.reads, .fail false va true)
  | some root =>
    let fetch : List TableRead → Nat → List TableRead × Except (Bool × Nat) Nat := fun r ea =>
      match s.walk2 d plot ea r with
      | (r, .error e) => (r, .error e)
      | (r, .ok h) =>
        if !h.r || hbmTop < h.addr + 8 || h.key.any (fun k => (s.keys.find k).isNone) then (r, .error (true, ea))
        else
          let (r, v) := cachedEntry d plot (s.plot plot).gen.toNat false ea (ofBytes (s.hbmRead d (keyed h.key h.addr) 8)) r
          (r, .ok v)
    match walkStage false va fetch stage1Levels root s.reads with
    | (r, .error (st2, a)) => (r, .fail st2 a (!st2))
    | (r, .ok h1) =>
      match s.walk2 d plot h1.addr r with
      | (r, .error (_, a)) => (r, .fail true a true)
      | (r, .ok h2) =>
        (r, if hbmTop ≤ h2.addr then .fail true h1.addr true else .page h2.addr h1.addr h1.r h1.w h2.r h2.w h2.pin h2.key)

def State.walk (s : State) (d plot va : Nat) : Walk := (s.walkReads d plot va).2

/-- An estate address by stage 2, for what the device does in an estate's own space; none where it does not lead to HBM, lacks the right
or stands under an empty key slot (R351, R450, R456). -/
def State.estateAddr (s : State) (e ea : Nat) (w : Bool) : Option Nat :=
  match (s.estate e).root with
  | none => none
  | some root =>
    if 2 ^ 48 ≤ ea then none
    else
      let fetch (_ : Unit) (a : Nat) : Unit × Except (Bool × Nat) Nat :=
        ((), if a + 8 ≤ hbmTop then .ok (ofBytes (s.hbmRead 0 a 8)) else .error (true, ea))
      match (walkStage true ea fetch stage2Levels root ()).2 with
      | .error _ => none
      | .ok h =>
        if (if w then h.w else h.r) && decide (h.addr < hbmTop) && !h.key.any (fun k => (s.keys.find k).isNone) then some (keyed h.key h.addr)
        else none

/-- The cached answer for a page (R265, R266): entries of another generation do not count. -/
def State.tlbFind (s : State) (d plot page : Nat) : Option Walk :=
  (s.tlb.find? fun e => e.die == d && e.plot == plot && e.page == page && e.gen == (s.plot plot).gen.toNat).map TlbEntry.walk

/-- What an access finds when it asks for a translation. -/
inductive Tr (α : Type) where
  | wait
  | ok (x : α)
  | fault (code addr : Nat)
deriving DecidableEq, Repr

/-- The device address of a byte for an access that needs R, W or both (R264, R270, R450). -/
def State.translate (s : State) (d plot : Nat) (r w : Bool) (va : Nat) : Tr Nat :=
  if 2 ^ 56 ≤ va then .fault 0x13 va
  else
    match s.tlbFind d plot (va / 65536) with
    | none => .wait
    | some (.fail st2 a fin) => .fault (if st2 then 0x14 else 0x13) (if fin then a / 65536 * 65536 + va % 65536 else a)
    | some (.page b ea r1 w1 r2 w2 _ key) =>
      if (r && !r1) || (w && !w1) then .fault 0x13 va
      else if (r && !r2) || (w && !w2) || key.any (fun k => (s.keys.find k).isNone) then
        .fault 0x14 (ea / 65536 * 65536 + va % 65536)
      else .ok (keyed key (b / 65536 * 65536 + va % 65536))

/-- A range cut at 64 KiB pages: (virtual address, length). -/
def pageCuts : Nat → Nat → Nat → List (Nat × Nat)
  | 0, _, _ => []
  | _, _, 0 => []
  | k + 1, a, n =>
    let m := min n (65536 - a % 65536)
    (a, m) :: pageCuts k (a + m) (n - m)

/-- Pieces of a range: (device address, length), in order. -/
def State.trRange (s : State) (d plot : Nat) (r w : Bool) (va n : Nat) : Tr (List (Nat × Nat)) :=
  (pageCuts (n / 65536 + 2) va n).foldr (fun (a, m) acc =>
    match s.translate d plot r w a, acc with
    | .fault c x, _ => .fault c x
    | .wait, .fault _ _ => .wait
    | .wait, _ => .wait
    | .ok _, .fault c x => .fault c x
    | .ok _, .wait => .wait
    | .ok da, .ok l => .ok ((da, m) :: l)) (.ok [])

/-- The bytes of translated pieces on a die. -/
def State.readPieces (s : State) (d : Nat) (l : List (Nat × Nat)) : List Byte := l.flatMap fun (a, n) => s.hbmRead d a n

/-- Write bytes over translated pieces on a die. -/
def State.writePieces (s : State) (d : Nat) : List (Nat × Nat) → List Byte → State
  | [], _ => s
  | (a, n) :: l, bs => State.writePieces (s.hbmWrite d a (bs.take n)) d l (bs.drop n)

/-- The same translations made at once, for what the device itself does at plot virtual addresses: a walk in place of a
cached answer (R351, R374, R418). -/
def State.walkNow (s : State) (d plot : Nat) (r w : Bool) (va : Nat) : Option Nat :=
  if 2 ^ 56 ≤ va then none
  else match s.walk d plot (va / 65536 * 65536) with
  | .fail .. => none
  | .page b _ r1 w1 r2 w2 _ key =>
    if (r && !(r1 && r2)) || (w && !(w1 && w2)) || key.any (fun k => (s.keys.find k).isNone) then none
    else some (keyed key (b / 65536 * 65536 + va % 65536))

/-- The device pieces of a range by walks made at once. -/
def State.walkRange (s : State) (d plot : Nat) (r w : Bool) (va n : Nat) : Option (List (Nat × Nat)) :=
  (pageCuts (n / 65536 + 2) va n).mapM fun (a, m) => (s.walkNow d plot r w a).map fun da => (da, m)

/-- The device pieces of a range of an estate's own space. -/
def State.estateRange (s : State) (e a n : Nat) (w : Bool) : Option (List (Nat × Nat)) :=
  (pageCuts (n / 65536 + 2) a n).mapM fun (a, m) => (s.estateAddr e a w).map fun da => (da, m)

/-- Read plot memory for the device's own work. -/
def State.plotRead (s : State) (d plot va n : Nat) : Option (List Byte) :=
  (s.walkRange d plot true false va n).map (s.readPieces d)

/-- Write plot memory for the device's own work. -/
def State.plotWrite (s : State) (d plot va : Nat) (bs : List Byte) : Option State :=
  (s.walkRange d plot false true va bs.length).map fun l => s.writePieces d l bs

end Sys2Proof.Machine
end

