-- ==== Sys2Proof/Machine/Ops.lean ====
section
/-!
DEFINITION. The named operations over contexts and the machine: rollback and commit of a context, time and priority,
interrupts and fault logs, stopping a group, and taking a trap (R345 to R353).
-/
namespace Sys2Proof.Machine

/-! ### Fields of the record words (R221) -/

def gangOf (taskid : W64) : Nat := bits taskid.toNat 48 16
def groupIdxOf (taskid : W64) : Nat := bits taskid.toNat 32 16
def stageOf (taskid : W64) : Nat := bits taskid.toNat 24 8
def memberOf (taskid : W64) : Nat := bits taskid.toNat 20 4

/-- PLOTID (R17). -/
def plotId (gen : BitVec 16) (plot : PlotNo) : Nat := gen.toNat * 256 + plot.val

/-- COREID of a context (R17). -/
def coreId (x : Nat) : Nat :=
  let core := coreOfCtx x
  dieOf core * 4096 + clusterOf core % 10 * 256 + core % 16 * 16 + x % 8

/-! ### Time -/

/-- TIME of a plot (R449). -/
def State.timeOf (s : State) (plot : Nat) : Nat := wrap 64 ((s.devns : Int) + (s.plot plot).off)

/-- BANK and NSLEFT of a die's refresh timer (R19, R258). -/
def Die.bank (d : Die) : Nat := d.refreshNs / 1000 % 64
def Die.nsleft (d : Die) : Nat := 999 - d.refreshNs % 1000

/-! ### Priority (R364, R365) -/

def purseKey (die plot gang : Nat) : Nat := (die * 256 + plot) * 65536 + gang
def gangKey (plot gang : Nat) : Nat := plot * 65536 + gang

/-- BASE. -/
def Policy.base (p : Policy) : Nat := min (max p.priobase p.bandlo) p.bandhi

/-- Whether a gang has spent its share on a core (R424). -/
def State.spent (s : State) (core key : Nat) : Bool :=
  let sh := (s.core core).share
  sh.share.get key 0 == 0 || sh.spent.contains key

/-- BOOST of a gang on a core. -/
def State.boost (s : State) (core plot gang : Nat) : Nat :=
  if s.spent core (gangKey plot gang) then 0
  else min (s.purses.get (purseKey (dieOf core) plot gang) 0 / 16) (bits s.purseReg.toNat 16 8)

/-- DROP of a context. -/
def State.drop (s : State) (c : Context) : Nat :=
  match c.st with
  | .parked (.channel ..) => bits s.spinReg.toNat 32 8
  | _ => 0

/-- clamp(BASE + BOOST − DROP, 0, 47). -/
def effOf (base boost drop : Nat) : Nat := min (base + boost - drop) 47

/-- EFF of a context. -/
def State.eff (s : State) (x : Nat) : Nat :=
  let c := s.ctx x
  effOf (s.plot c.plot).policy.base (s.boost (coreOfCtx x) c.plot (gangOf c.taskid)) (s.drop c)

/-- The members of a group that are live: MEMBER and context. -/
def State.liveMembers (s : State) (gid : Nat) (g : Group) : List (Nat × Nat) :=
  g.members.zipIdx.filterMap fun (x, k) =>
    let c := s.ctx x
    if g.live.getD k false && c.group == gid && c.st != .free && c.st != .draining then some (k, x) else none

/-- The highest effective priority among a group's members. -/
def State.groupEff (s : State) (gid : Nat) (g : Group) : Nat := ((s.liveMembers gid g).map fun m => s.eff m.2).foldl max 0

/-- The effective priority that a record of a gang would start with on a die (R365, R382): by the die's purse and no core's share. -/
def State.recordLevel (s : State) (die plot gang : Nat) : Nat :=
  effOf (s.plot plot).policy.base (min (s.purses.get (purseKey die plot gang) 0 / 16) (bits s.purseReg.toNat 16 8)) 0

/-! ### Interrupts (R352, R437, R446) -/

/-- The MSI-X state of a function: 0 the physical function, n the virtual function of plot n. -/
def State.msix (s : State) (fn : Nat) : Msix := if fn = 0 then s.ownerMsix else (s.plot fn).msix
def State.setMsix (s : State) (fn : Nat) (m : Msix) : State :=
  if fn = 0 then { s with ownerMsix := m } else s.setPlot fn { s.plot fn with msix := m }

/-- Table entry of a vector; an entry nothing has written is masked, as PCI Express leaves it (PRESUMED, log entry 8). -/
def Msix.entry (m : Msix) (v : Nat) : W64 × W64 := m.table.get v (0, 0x100000000)
def Msix.masked (m : Msix) (v : Nat) : Bool := bitAt (m.entry v).2.toNat 32

/-- Whether a function's messages are held (R446). -/
def State.fnHeld (s : State) (fn : Nat) : Bool := fn != 0 && !s.vfEnable

/-- Send the message of a vector, or set its pending bit, or hold it (R352, R446, R455). -/
def State.interrupt (s : State) (fn v : Nat) : State :=
  let m := s.msix fn
  let b : W32 := BitVec.ofNat 32 (2 ^ v)
  if s.fnHeld fn then s.setMsix fn { m with held := m.held ||| b }
  else if m.masked v then s.setMsix fn { m with pending := m.pending ||| b }
  else
    let (a, d) := m.entry v
    { s with hostMsgs := s.hostMsgs ++ [⟨fn, v, a, BitVec.ofNat 64 (d.toNat % 2 ^ 32)⟩] }

/-! ### Writes that the device itself makes at system scope -/

/-- A die's view after a line's write at system scope: its own writes to the line that have no number yet are later (R401). -/
def Die.shown (d : Die) (a : Nat) (bs : List Byte) : Memory :=
  if d.out.isEmpty then d.view.write a bs
  else bs.zipIdx.foldl (fun m (b, i) =>
    if d.out.any fun o => decide (o.addr ≤ a + i ∧ a + i < o.addr + o.bytes.length) then m else m.set (a + i) b) d.view

/-- One line performed at its home stack and on every die at once (R350, R399, R401): the device's own releases at system
scope complete before anything can observe them (log entry 9). -/
def State.sysLine (s : State) (a : Nat) (bs : List Byte) : State :=
  let (a, bs, s) := s.lineAs s.mem a bs
  let line := a / 128
  let n := s.lineSeq.get line 0 + 1
  ({ s with
    mem := s.mem.write a bs
    lineSeq := s.lineSeq.set line n
    dies := s.dies.map fun d => ({ d with view := d.shown a bs, own := d.own ++ [⟨a, bs.length, n⟩] } : Die).prune } : State).ueClear a bs.length

/-- Bytes written to any device address at system scope. -/
def State.sysWrite (s : State) (da : Nat) (bs : List Byte) : State :=
  match regionOf da with
  | .hbm => (splitLines (bs.length / 128 + 2) da bs).foldl (fun s p => s.sysLine p.1 p.2) s
  | _ => s.devWrite 0 da bs

/-- Bytes written over device pieces at system scope. -/
def State.sysPieces (s : State) (l : List (Nat × Nat)) (bs : List Byte) : State :=
  (l.foldl (fun (acc : State × List Byte) p => (acc.1.sysWrite p.1 (acc.2.take p.2), acc.2.drop p.2)) (s, bs)).1

/-- Bytes written at a plot virtual address at system scope. -/
def State.sysPlotWrite (s : State) (d plot va : Nat) (bs : List Byte) : Option State :=
  (s.walkRange d plot false true va bs.length).map fun l => s.sysPieces l bs

/-- Words as bytes. -/
def wordBytes (l : List W64) : List Byte := l.flatMap fun w => toBytes 8 w.toNat

/-- Bytes as words. -/
def bytesWords : Nat → List Byte → List W64
  | 0, _ => []
  | n + 1, bs => BitVec.ofNat 64 (ofBytes (bs.take 8)) :: bytesWords n (bs.drop 8)

/-! ### W2 of an object (R366, R373) -/

def w2Of (busy : Bool) (state version : Nat) : Nat := busy.toNat * 2 ^ 34 + state * 2 ^ 32 + version % 2 ^ 32

/-- Write W2 of an object. -/
def State.putW2 (s : State) (d plot a : Nat) (busy : Bool) (state version : Nat) : State :=
  (s.sysPlotWrite d plot (a + 16) (toBytes 8 (w2Of busy state version))).getD s

/-! ### Fault logs (R350 to R352) -/

/-- Where a record goes. -/
inductive LogLevel where
  | owner
  | estate (e : Nat)
  | plot (p : Nat)
deriving DecidableEq, Repr

/-- The log that holds a plot's records: plot 0 has none of its own (R350). -/
def plotLog (p : Nat) : LogLevel := if p = 0 then .owner else .plot p

def State.log (s : State) : LogLevel → FaultLog
  | .owner => s.ownerLog
  | .estate e => (s.estate e).log
  | .plot p => (s.plot p).log

def State.setLog (s : State) (l : FaultLog) : LogLevel → State
  | .owner => { s with ownerLog := l }
  | .estate e => s.setEstate e { s.estate e with log := l }
  | .plot p => s.setPlot p { s.plot p with log := l }

/-- Function and vector of a log's interrupt (R352). -/
def State.logVector (s : State) : LogLevel → Nat × Nat
  | .owner => (0, 0)
  | .estate e => ((s.estate e).firstVf, 2)
  | .plot p => (p, 0)

/-- Write a record's bytes in a log's address space (R351). -/
def State.logStore (s : State) (lv : LogLevel) (a : Nat) (bs : List Byte) : Option State :=
  match lv with
  | .owner => if a + bs.length ≤ hbmTop then some (s.sysWrite a bs) else none
  | .plot p => s.sysPlotWrite 0 p a bs
  | .estate e => (s.estateRange e a bs.length true).map fun l => s.sysPieces l bs

/-- Write a trap record, or drop it and count it (R351), and raise the log's interrupt (R352). Answers the record's
address, or 0 when it was dropped. -/
def State.writeRecord (s : State) (lv : LogLevel) (ws : List W64) : Nat × State :=
  let l := s.log lv
  let n := bits l.cfg.toNat 0 5
  let fill := (l.prod - l.cons).toNat
  let drop : Nat × State :=
    (0, s.setLog { l with lost := BitVec.ofNat 32 (min (l.lost.toNat + 1) 0xFFFFFFFF) } lv)
  if n = 0 ∨ 2 ^ n ≤ fill then drop
  else
    let a := bits l.cfg.toNat 8 56 * 256 + 64 * (l.prod.toNat % 2 ^ n)
    match s.logStore lv a (wordBytes ws) with
    | none => drop
    | some s1 =>
      let s2 := s1.setLog { l with prod := l.prod + 1 } lv
      let (fn, v) := s2.logVector lv
      (a, if fill = 0 then s2.interrupt fn v else s2)

/-- An entry of the PC queue as W4 to W6 of a record hold it (R347). -/
def PcEntry.word (e : PcEntry) : W64 :=
  BitVec.ofNat 64 (e.annul.toNat * 2 ^ 63 + e.idle.toNat * 2 ^ 32 + e.addr.toNat)

/-- The dispositions (R348). -/
inductive Disp where
  | held | logged | fatal | info
deriving DecidableEq, Repr

def Disp.num : Disp → Nat
  | .held => 0 | .logged => 1 | .fatal => 2 | .info => 3

/-- W0 of a record (R347). -/
def recordW0 (code : Nat) (d : Disp) (slot arg : Nat) (faddr : Nat) : W64 :=
  BitVec.ofNat 64 (code * 2 ^ 56 + d.num * 2 ^ 52 + slot * 2 ^ 48 + arg % 65536 * 2 ^ 32 + faddr)

/-- W2 of a record (R347). -/
def recordW2 (kslot : Nat) (plotid core : Nat) : W64 :=
  BitVec.ofNat 64 (kslot * 2 ^ 48 + plotid * 2 ^ 24 + core)

/-- The record of a context's cause (R347). -/
def trapRecord (x : Nat) (c : Context) (code : Nat) (d : Disp) (slot arg faddr addr obj : Nat) : List W64 :=
  [recordW0 code d slot arg faddr, c.taskid, recordW2 c.kslot.toNat (plotId c.gen c.plot) (coreId x),
    BitVec.ofNat 64 addr, c.sh.pc.word, c.sh.npc.word, c.sh.nnpc.word, BitVec.ofNat 64 obj]

/-- A record that no bundle caused: an operation or a record that failed (R349, DISP 1). -/
def bareRecord (code : Nat) (d : Disp) (arg : Nat) (taskid : W64) (kslot plotid core addr : Nat) : List W64 :=
  [recordW0 code d 15 arg 0xFFFFFFFF, taskid, recordW2 kslot plotid core, BitVec.ofNat 64 addr, 0, 0, 0, 0]

/-! ### Gangs (R315 to R318) -/

def State.gang (s : State) (plot gang : Nat) : Gang := s.gangs.get (gangKey plot gang) ⟨0, none, none⟩

/-- Change REM of a gang (R316, R317). -/
def State.addRem (s : State) (plot gang : Nat) (n : Int) : State :=
  let g := s.gang plot gang
  { s with gangs := s.gangs.set (gangKey plot gang) { g with rem := toS 64 (wrap 64 (g.rem + n)) } }

/-- A strand that leaves its context other than by a pre-emption sends WC to REM (R317). -/
def State.sendWc (s : State) (x : Nat) : State :=
  let c := s.ctx x
  let n := toS 32 c.w.wc.toNat
  let s := s.setCtx x { c with w := { c.w with wc := 0 }, sh := { c.sh with wc := 0 } }
  if n = 0 then s else s.addRem c.plot (gangOf c.taskid) n

/-! ### A context's rollback and end (R343, R123) -/

/-- Void a load's destinations: its value is discarded when it arrives, and it meets no cause (R285). -/
def Load.void (l : Load) : Load := { l with gd := [], vd := none, shGd := [], shVd := none, covered := true, fail := none }

/-- Loads after a rollback (R285): one that the checkpoint covered has the marks that it had there again; one whose bundle's commit never
came, with its request to memory or to a queue, is gone. -/
def Load.rolledBack (l : Load) : Option Load :=
  if l.covered then some { l with gd := l.shGd, vd := l.shVd }
  else match l.kind with
    | .mem .. => some l.void
    | .ldfe => some l.void
    | .qlen _ => some l.void
    | .cinfo => some l.void
    | .remote .. => none
    | .atomic => none
    | .qpop _ => none
    | .status => none

/-- Drop the elements fetched ahead of every stream (R255). -/
def dropBufs (b : Vector (Option Binding) 16) : Vector (Option Binding) 16 :=
  b.map fun o => o.map fun b => { b with buf := [], part := [] }

/-- The rollback of a context (R343): shadow to working state, buffer and full-empty changes discarded, latches cleared,
streams as R255 gives, pending marks as R285 gives; strides that a commit has covered are still to be added. -/
def Context.rollback (c : Context) : Context :=
  { c with
    w := c.sh
    latch := .replicate 16 0
    vlatch := .replicate 16 0
    fly := c.fly.filter Fly.covered
    loads := c.loads.filterMap Load.rolledBack
    buf := []
    bind := dropBufs c.bind
    strides := c.strides.filter Prod.snd
    br := .none
    post := []
    raised := none
    handed := false
    copying := none
    fenceWaits := none
    frozenFor := 0
    parkOn := none }

/-- What an EXIT's commit leaves unbound and released (R216, R256, R410). -/
def Context.unbindAll (c : Context) : Context :=
  { c with
    bind := .replicate 16 none
    chan := c.chan.map fun k => { k with route := none, recv := [] }
    w := { c.w with tt := [], tun := [] }
    sh := { c.sh with tt := [], tun := [] } }

/-- Whether a member's arrival counts: it has arrived and, in a group of more than one, its stores and atomics are
performed (R233, R234). -/
def State.arrivalCounts (s : State) (g : Group) (k : Nat) : Bool :=
  g.arrived.getD k false && (g.members.length == 1 || (s.ctx (g.members.getD k 0)).cq.isEmpty)

/-- Whether a barrier's open generation is complete: every live member has arrived (R233, R235). -/
def State.barrierComplete (s : State) (g : Group) : Bool :=
  g.live.any id && g.live.zipIdx.all fun (l, k) => !l || s.arrivalCounts g k

/-- A core's cycle at this base tick: the one to come or in progress, else the one that has ended. -/
def State.cycleNow (s : State) (core : Nat) : Nat :=
  let n := (s.core core).cycle
  if s.due.contains core || s.micro.contains (.land core) then n else n - 1

/-- Complete the generation when it is due: arrivals cleared, waiting members ready in this cycle (R233). -/
def State.barrierCheck (s : State) (gid : Nat) : State :=
  match s.group gid with
  | none => s
  | some g =>
    if s.barrierComplete g then
      let s := s.setGroup gid { g with arrived := g.arrived.map fun _ => false, gen := g.gen + 1 }
      g.members.foldl (fun s x =>
        let c := s.ctx x
        if c.st = .barrier then
          s.setCtx x { c with st := .ready, readyAt := s.cycleNow (coreOfCtx x) }
        else s) s
    else s

/-- A member stops being live (R235). -/
def State.memberEnds (s : State) (x : Nat) : State :=
  let c := s.ctx x
  match s.group c.group with
  | none => s
  | some g =>
    let k := memberOf c.taskid
    (s.setGroup c.group { g with live := g.live.set k false, arrived := g.arrived.set k false }).barrierCheck c.group

/-- The core no longer runs a context. -/
def State.release (s : State) (x : Nat) : State :=
  let k := s.core (coreOfCtx x)
  if k.running.map Fin.val = some (x % 8) then s.setCore (coreOfCtx x) { k with running := none } else s

/-- A strand's end at an EXIT's commit, or as if it had come (R123, R348): it drains. -/
def State.strandEnds (s : State) (x : Nat) : State :=
  let s := s.setCtx x { (s.ctx x).unbindAll with st := .draining }
  (s.release x).memberEnds x

/-- A context without a strand: its commit queue and its channels' packets go on until they are done. -/
def Context.vacated (c : Context) : Context :=
  { Context.empty with
    chan := c.chan.map fun k => { Channel.zero with send := k.send }
    cq := c.cq.map fun st => { st with after := 0, acqAfter := 0 }
    wseq := c.wseq
    sent := c.sent
    firstSent := c.sent
    unacked := c.unacked
    nextStore := c.nextStore }

/-- A context becomes free. -/
def State.freeCtx (s : State) (x : Nat) : State := (s.setCtx x (s.ctx x).vacated).release x

/-! ### The context region (R374) -/

/-- The lowest-numbered units free for n members. -/
def Plot.freeUnits (p : Plot) (n : Nat) : List Nat :=
  (((List.range p.policy.ctxmax).filter fun u => !p.units.contains u).take n)

def Plot.unitAddr (p : Plot) (u : Nat) : Nat := p.policy.ctxbase + u * (256 + p.policy.imgmax)

/-- Take units for a group's object: the object's address and the plot with the units held. -/
def State.takeUnits (s : State) (plot n : Nat) : Nat × List Nat × State :=
  let p := s.plot plot
  let us := p.freeUnits n
  (p.unitAddr (us.headD 0), us, s.setPlot plot { p with units := us.foldl setInsert p.units })

def State.giveUnits (s : State) (plot : Nat) (us : List Nat) : State :=
  let p := s.plot plot
  s.setPlot plot { p with units := p.units.filter fun u => !us.contains u }

/-! ### Stops and cycles -/

/-- Record a stop of a group. -/
def State.setStop (s : State) (gid : Nat) (g : Group) (st : Stop) : State := s.setGroup gid { g with stop := some st }

/-! ### A context's kernel -/

/-- The kernel that a context runs; one that is not there has no code. -/
def Kernel.empty : Kernel := ⟨[], [], [], 0⟩
def State.kernel (s : State) (c : Context) : Kernel := ((s.plot c.plot).kernels.find c.kslot.toNat).getD Kernel.empty

/-- The live list of a context's last checkpoint (R369); one that is not there names nothing. -/
def State.liveOf (s : State) (c : Context) : LiveEntry := (s.kernel c).live.getD c.live.val ⟨0, false, false, false, []⟩

/-! ### Handles (R298, R301, R445) -/

/-- What a handle leads to: a device address or a host bus address. -/
inductive Target where
  | dev (a : Nat)
  | host (a : Nat)
deriving DecidableEq, Repr

/-- Bytes of a handle's range for an access, or the CAUSE of R301: 0x01 invalid, revoked or of an older generation; 0x02
beyond its length; 0x03 without the right. -/
def State.handleAt (s : State) (plot gen h off n : Nat) (r w : Bool) : Except Nat Target :=
  match (s.plot plot).handles.find h with
  | none => .error 1
  | some x =>
    if x.gen.toNat ≠ gen ∨ gen ≠ (s.plot plot).gen.toNat then .error 1
    else if x.len < off + n then .error 2
    else if (r && !x.read) || (w && !x.write) then .error 3
    else .ok (if x.host then .host (x.addr + off) else .dev (x.addr + off))

/-! ### Task queues (R319 to R324) -/

def State.queue (s : State) (plot q : Nat) : Option Queue := (s.plot plot).queues.find q
def State.setQueue (s : State) (plot q : Nat) (x : Queue) : State :=
  s.setPlot plot { s.plot plot with queues := (s.plot plot).queues.set q x }

/-- Records in the heath. -/
def Queue.heathLen (q : Queue) : Nat := q.tail - q.head

/-- Where record `pos` of a heath stands (R323): HBM or scratchpad, under the page's key slot (R259, R450). -/
def State.heathAt (s : State) (plot : Nat) (q : Queue) (pos : Nat) (r w : Bool) : Except Nat Nat :=
  match s.handleAt plot (s.plot plot).gen.toNat q.heath (64 * (pos % max q.hcap 1)) 64 r w with
  | .error c => .error c
  | .ok (.host _) => .error 1
  | .ok (.dev a) =>
    match regionOf a, s.engineAddr plot a with
    | .ws .., _ => .error 1
    | .none, _ => .error 1
    | _, none => .error 1
    | _, some k => .ok k

/-- The die nearest a base die, through which the spill engine's accesses are performed. -/
def homeDie (home : Nat) : Nat := home / 2 % 4

/-- What the base die does with a record that reaches it (R323). -/
inductive Accept where
  | slot
  | heath (a : Nat)
  | refuse
  | fails (cause : Nat)
deriving DecidableEq, Repr

def State.queueAnswer (s : State) (plot : Nat) (q : Queue) : Accept :=
  if q.mapped ∧ q.heathLen = 0 ∧ q.slot.length < 32 then .slot
  else if 32 < q.hcap - q.heathLen then
    match s.heathAt plot q q.tail false true with
    | .ok a => .heath a
    | .error c => .fails c
  else .refuse

/-- Whether a push would be accepted. -/
def Accept.accepts : Accept → Bool
  | .slot => true
  | .heath _ => true
  | _ => false

/-- The first failure of an episode is recorded in the plot's log (R323). -/
def State.queueFailed (s : State) (plot qn : Nat) (q : Queue) (cause : Nat) : State :=
  let s1 := s.setQueue plot qn { q with failing := true, retryAt := s.tick + 4000 }
  if q.failing then s1
  else (s1.writeRecord (plotLog plot) (bareRecord 0x22 .logged cause 0 0 (plotId (s.plot plot).gen (Fin.ofNat 256 plot)) 0 qn)).2

/-- Put a record into a queue that accepts it. -/
def State.queuePut (s : State) (plot qn : Nat) (rec : List W64) : State :=
  match s.queue plot qn with
  | none => s
  | some q =>
    let since := if q.slot.isEmpty ∧ q.heathLen = 0 then s.tick else q.waitSince
    match s.queueAnswer plot q with
    | .slot => s.setQueue plot qn { q with slot := q.slot ++ [rec] }
    | .heath a =>
      (s.devWrite (homeDie q.home) a (wordBytes rec)).setQueue plot qn
        { q with tail := q.tail + 1, waitSince := since, failing := false }
    | _ => s

/-- The number that a task-queue operand names. -/
inductive QName where
  | task (q : Nat)
  | run (cluster : Nat)
deriving DecidableEq, Repr

/-- The queue that a register names; none raises the queue fault (R319). -/
def State.queueName (s : State) (plot : Nat) (v : W64) : Option QName :=
  let x := v.toNat
  if bits x 32 32 ≠ 0 ∨ bits x 16 15 ≠ 0 then none
  else if bitAt x 31 then
    let cl := bits x 12 2 * 10 + bits x 8 4
    if bits x 14 2 = 0 ∧ bits x 0 8 = 0 ∧ bits x 8 4 < 10 ∧
        ((List.range 16).any fun i => (s.plot plot).owns (.core (cl * 16 + i))) then some (.run cl)
    else none
  else if (s.queue plot (bits x 0 16)).isSome then some (.task (bits x 0 16)) else none

/-- A push that the base die refuses leaves its mark on a failing heath (R320, R323). -/
def State.queueRefused (s : State) (plot : Nat) (v : W64) : State :=
  match s.queueName plot v with
  | some (.task qn) =>
    match s.queue plot qn with
    | some q =>
      match s.queueAnswer plot q with
      | .fails c => s.queueFailed plot qn q c
      | _ => s
    | none => s
  | _ => s

/-! ### Parking (R47, R320, R358) -/

/-- The core leaves a context at a bundle that is no YIELD: its array is lost unless its last checkpoint names it (R195). -/
def Context.loseArray (c : Context) (mx : Bool) : Context :=
  if mx then c
  else { c with w := { c.w with work := .zero, drain := .zero }, sh := { c.sh with work := .zero, drain := .zero } }

/-! ### Run queues (R231, R319) -/

def runKey (cluster plot : Nat) : Nat := cluster * 256 + plot
def State.runQueue (s : State) (cluster plot : Nat) : List RunRec := s.runq.get (runKey cluster plot) []
/-- A record enters a run queue; its gang is live from then on (R316). -/
def State.pushRun (s : State) (cluster plot : Nat) (ws : List W64) : State :=
  let key := gangKey plot (bits (ws.getD 1 0).toNat 48 16)
  { s with
    runq := s.runq.set (runKey cluster plot) (s.runQueue cluster plot ++ [⟨ws, s.tick⟩])
    gangs := s.gangs.set key { s.gangs.get key ⟨0, none, none⟩ with ended := none } }

/-- W0 and W1 of a task record (R221). -/
def recW0 (kslot entry gsize : Nat) (wb : Bool) : W64 :=
  BitVec.ofNat 64 (kslot * 2 ^ 48 + entry * 2 ^ 16 + gsize * 2 ^ 12 + wb.toNat * 2 ^ 11)
def recW1 (gang group stage member : Nat) : W64 :=
  BitVec.ofNat 64 (gang * 2 ^ 48 + group * 2 ^ 32 + stage * 2 ^ 24 + member * 2 ^ 20)

/-- A held or fatal record of a plot starts its trap kernel (R352): unless the plot names none, or the strand is of the
trap kernel's own slot. -/
def State.trapKernel (s : State) (cluster : Nat) (c : Context) (w0 : W64) (rec obj : Nat) : State :=
  let p := (s.plot c.plot).policy
  if p.trapkslot = 0xFFFF ∨ p.trapkslot = c.kslot then s
  else s.pushRun cluster c.plot
    [recW0 p.trapkslot.toNat p.trapentry.toNat 0 false, recW1 (gangOf c.taskid) 0 0 0, BitVec.ofNat 64 rec, w0,
      BitVec.ofNat 64 obj, 0, 0, 0]

/-! ### Taking a trap (R345 to R349) -/

/-- The disposition of a code (R349). -/
def dispOf (code : Nat) : Disp :=
  if code = 0x1C then .fatal else if code = 0x20 ∨ code = 0x21 ∨ code = 0x22 then .logged
  else if 0x30 ≤ code then .info else .held

/-- The slot of a cause as R86 codes it: R24's position plus one; 15 for none. -/
def slotCode (slot : Nat) : Nat := if slot < 8 then slot + 1 else 15

/-- The fatal end of a strand with its record (R348, R360, R417). -/
def State.fatal (s : State) (x : Nat) (arg addr : Nat) : State :=
  let c := s.ctx x
  let c1 := if arg = 0x10 then { c with buf := [], post := [], fly := [], br := .none } else c.rollback
  let s := s.setCtx x { c1 with ver := none, failure := none }
  let rec_ := trapRecord x c1 0x1C .fatal 15 arg 0xFFFFFFFF addr 0
  let (ra, s) := s.writeRecord (plotLog c.plot) rec_
  let s := if arg = 0x10 then (s.writeRecord .owner (trapRecord x c1 0x1C .info 15 arg 0xFFFFFFFF addr 0)).2 else s
  (s.trapKernel (clusterOf (coreOfCtx x)) c (rec_.headD 0) ra 0).strandEnds x

/-! ### Stopping (R376) -/

/-- A context stops immediately: rolled back, the core left, a barrier wait kept in the group's arrivals (R235, R376). One that is being
verified (R358), or whose checkpoint's commit has begun, stops when that has ended; one with an error in its shadow cannot be rolled back
(R360). -/
def State.stopNow (s : State) (x : Nat) : State :=
  let c := s.ctx x
  if c.ver.isSome || c.handed || c.st = .free || c.st = .draining then s
  else if c.shadowErr then s.fatal x 0x10 0
  else (s.setCtx x { c.rollback with st := .stopped }).release x

/-- Whether a context's own cycle of this base tick is still to come. -/
def State.cycleDue (s : State) (x : Nat) : Bool :=
  s.due.contains (coreOfCtx x) && (s.core (coreOfCtx x)).running.map Fin.val == some (x % 8)

/-- A stop reaches a context: at the end of its cycle, where that is still to come (R361, R393). -/
def State.stopSoon (s : State) (x : Nat) : State := if s.cycleDue x then s else s.stopNow x

/-- A context stops at once where it is already at its last checkpoint, and else runs on to one (R376). -/
def State.stopAtCheckpoint (s : State) (x : Nat) : State :=
  match (s.ctx x).st with
  | .ready | .parked _ | .barrier => s.stopNow x
  | _ => s

/-- Every member of a group but one stops immediately. -/
def State.stopOthers (s : State) (g : Group) (x : Nat) : State :=
  g.members.foldl (fun s y => if y = x then s else s.stopSoon y) s

/-- A member of a group that stops immediately stops at the end of its cycle. -/
def State.stopDue (s : State) (x : Nat) : State :=
  match (s.group (s.ctx x).group).bind Group.stop with
  | some st => if st.atCheckpoint then s else s.stopNow x
  | none => s

/-- Park a context in place of its issue: rolled back, CSTAT.PARKED_ONCE set, the core left; a verification under way is
abandoned with a record to the owner (R47, R358). One with an error in its shadow cannot be rolled back (R360). -/
def State.park (s : State) (x : Nat) (on : ParkOn) : State :=
  let c := s.ctx x
  if c.shadowErr then s.fatal x 0x10 0
  else
  let s := match c.ver with
    | some v => (s.writeRecord .owner (trapRecord x c.rollback 0x31 .info (slotCode v.slot) v.check v.faddr.toNat 0 0)).2
    | none => s
  let c1 := c.rollback.loseArray (s.liveOf c).mx
  let s := match on with
    | .queue q => s.queueRefused c.plot q
    | _ => s
  let s := (s.setCtx x { c1 with st := .parked on, cstat := c1.cstat ||| 4, ver := none, parkOn := some on }).release x
  match (s.group c.group).bind Group.stop with
  | some _ => s.stopNow x
  | none => s

/-! ### Traps -/

/-- Deliver a trap: the context is rolled back, its group is held with a trap object's place taken, the record is written to the log of its
level, and the trap kernel is started (R345, R348, R350, R352, R361, R393). -/
def State.deliverTrap (s : State) (x : Nat) (t : Cause) (slot : Nat) (faddr : W32) : State :=
  let c := (s.ctx x).rollback
  let c := { c with ver := none, st := .stopped, trapped := none }
  let s := (s.setCtx x c).release x
  match s.group c.group with
  | none => s
  | some g =>
    let fa := (t.at?.map Prod.fst).getD faddr
    let sl := slotCode ((t.at?.map Prod.snd).getD slot)
    let forEstate := t.code == 0x14
    let (obj, s) :=
      match g.stop with
      | some st =>
        if st.kind = StopKind.preempt then
          -- a pre-emption that has not yet stopped the group becomes the trap's stop
          (st.obj, s.setStop c.group g { st with kind := StopKind.trap, atCheckpoint := false })
        else (st.obj, s)
      | none =>
        let (obj, us, s) := s.takeUnits c.plot g.members.length
        (obj, s.setStop c.group g ⟨StopKind.trap, obj, us, s.tick, false, s.groupEff c.group g, false, []⟩)
    let s := s.stopOthers g x
    let ws := trapRecord x c t.code .held sl t.arg fa.toNat t.addr obj
    let lv := if forEstate ∧ c.plot ≠ 0 then LogLevel.estate (s.plot c.plot).estate else plotLog c.plot
    let (ra, s) := s.writeRecord lv ws
    let s := if t.code = 0x15 then
        (s.writeRecord .owner (trapRecord x c t.code .info sl t.arg fa.toNat t.addr obj)).2 else s
    if forEstate ∧ c.plot ≠ 0 then
      let e := (s.plot c.plot).estate
      s.setEstate e { s.estate e with held := (s.estate e).held ++ [⟨c.plot, obj, clusterOf (coreOfCtx x), ws⟩] }
    else s.trapKernel (clusterOf (coreOfCtx x)) c (ws.headD 0) ra obj

/-- The other members of a context's group. -/
def State.mates (s : State) (x : Nat) : List Nat :=
  match s.group (s.ctx x).group with
  | none => []
  | some g => g.members.filter (· != x)

/-- A trap met in a cycle in which other members are still to issue waits for them: the context is rolled back and leaves its core. -/
def State.holdTrap (s : State) (x : Nat) (t : Cause) (slot : Nat) (faddr : W32) : State :=
  (s.setCtx x { (s.ctx x).rollback with ver := none, st := .stopped, trapped := some (t, slot, faddr) }).release x

/-- The traps that a group's members have met in this cycle are delivered in MEMBER order (R361). -/
def State.deliverTraps (s : State) (gid : Nat) : State :=
  match s.group gid with
  | none => s
  | some g => g.members.foldl (fun s y => match (s.ctx y).trapped with
    | some (t, slot, fa) => s.deliverTrap y t slot fa
    | none => s) s

/-- BUSY in the source of a copy is cleared (R389), also where the copy fails. -/
def State.endCopy (s : State) (x : Nat) : State :=
  let c := s.ctx x
  match c.copying with
  | some (src, v, _) =>
    let s1 := s.putW2 (dieOf (coreOfCtx x)) c.plot src false 1 v
    s1.setCtx x { s1.ctx x with copying := none }
  | none => s

/-- Take a trap: the context at x meets the cause at the bundle and slot given, in place of its issue (R345). It is delivered at once, or
with those that other members of the group meet in the same cycle (R361, R393). A context with an error in its shadow cannot be rolled back
and ends (R360). -/
def State.takeTrap (s : State) (x : Nat) (t : Cause) (slot : Nat) (faddr : W32) : State :=
  let s := s.endCopy x
  if (s.ctx x).shadowErr then s.fatal x 0x10 0
  else if (s.mates x).any s.cycleDue then s.holdTrap x t slot faddr
  else if (s.mates x).any fun y => (s.ctx y).trapped.isSome then (s.holdTrap x t slot faddr).deliverTraps (s.ctx x).group
  else s.deliverTrap x t slot faddr

/-! ### The return from a trap (R348, R353, R388) -/

/-- A trap object's group enters the restore list of a cluster: how a held group resumes, by a CRES or by the estate's
release. Its members then start again at their restored triples. -/
def State.enterRestore (s : State) (cluster : Nat) (x : Saved) : State :=
  { s with restore := s.restore.set cluster (s.restore.get cluster [] ++ [x]) }

/-! ### Outcomes of a slot -/

/-- What a frozen checkpoint bundle begins before its commit is accepted: nothing; to hand the interval's stores over (R278, R320); to copy
an object, its source held by BUSY (R389); to write the copy, whose W2 says so (R378); an acquiring FENCE's note of the updates it has to
wait for (R403). -/
inductive Begins where
  | nothing
  | hand
  | copy (src version : Nat)
  | object (dst : Nat)
  | fence
deriving DecidableEq, Repr

/-- Why a slot keeps its bundle from issuing: a freeze, with what a park would wait for, and what it begins; a park at a refused push (R320);
a cause raised in place of the issue; a detected data error with its code and check point (R354). -/
inductive Halt where
  | freeze (why : Reason) (on : Option ParkOn) (begins : Begins)
  | park (on : ParkOn)
  | trap (t : Cause)
  | dataErr (code check : Nat)
deriving DecidableEq, Repr

/-- What one slot of a bundle does at the issue in progress: a new state of its own context, or a halt. -/
abbrev Slot := State → Context → Except Halt Context

/-- A cause at the present slot and bundle. -/
def cause {α : Type} (code : Nat) (arg addr : Nat := 0) : Except Halt α := .error (.trap ⟨code, arg, addr, none⟩)

/-- A freeze under a reason of R44. -/
def freezeFor {α : Type} (why : Reason) (on : Option ParkOn := none) (begins : Begins := .nothing) : Except Halt α :=
  .error (.freeze why on begins)

/-- The die of the issue in progress. -/
def State.issDie (s : State) : Nat := dieOf s.iss.core

end Sys2Proof.Machine
end

