-- ==== Sys2Proof/Machine/Operands.lean ====
section
/-!
DEFINITION. Every operand form: registers with their pending marks and parity (R23, R285, R354), latches, streams (R248 to
R255), channels (R408 to R414), the pool, guards, destinations and address modes.
-/
namespace Sys2Proof.Machine

/-- The context of the issue in progress, as it stood before the bundle. -/
def State.cur (s : State) : Context := s.ctx s.iss.ctx

/-! ### Values that a verification takes in (R355) -/

/-- Words taken from outside the context's own state. -/
def Context.takeIn (c : Context) (l : List W64) : Context :=
  { c with ver := c.ver.map fun v => { v with sigIn := Config.sigStep v.sigIn l } }

/-- Words written to a register or withheld as a store. -/
def Context.giveOut (c : Context) (l : List W64) : Context :=
  { c with ver := c.ver.map fun v => { v with sigOut := Config.sigStep v.sigOut l } }

/-! ### Parity (R354) -/

/-- Whether a word of a register disagrees with its parity bit. -/
def ParityErr.gBad (p : ParityErr) (r : GReg) : Bool := p.g.getLsbD (2 * r.val) || p.g.getLsbD (2 * r.val + 1)
def ParityErr.aBad (p : ParityErr) (r : AReg) : Bool := p.a.getLsbD r.val
def ParityErr.mBad (p : ParityErr) (r : MReg) : Bool := p.m.getLsbD (2 * r.val) || p.m.getLsbD (2 * r.val + 1)
def ParityErr.vBad (p : ParityErr) (r : VReg) : Bool := p.v[r] != 0

/-! ### Pending registers (R23, R227, R284) -/

def Wr.onG (r : GReg) : Wr → Bool
  | .g x _ => x == r
  | .gbit x _ _ => x == r
  | _ => false
def Wr.onA (r : AReg) : Wr → Bool
  | .a x _ => x == r
  | _ => false
def Wr.onM (r : MReg) : Wr → Bool
  | .m x _ => x == r
  | _ => false
/-- T0's row of a vector register that an array drain writes. -/
def Wr.onV (r : VReg) : Wr → Bool
  | .v x _ _ => x == r
  | .vscacc x _ _ => x == r
  | .drained x _ _ => x.val == r.val
  | _ => false

/-- Whether a YIELD marked a register that a result in flight still writes. -/
def Context.marked (c : Context) (p : Wr → Bool) : Bool := c.fly.any fun f => f.marked && f.ws.any p

/-- Kinds that read global memory: their translation, or a word they cannot read, is raised under R284. -/
def LoadKind.global : LoadKind → Bool
  | .mem .. => true
  | .cinfo => true
  | _ => false

/-- The pieces of a load: as its checkpoint found them translated, or as the tables give them now (R284). -/
def State.loadPieces (s : State) (core : Nat) (c : Context) (l : Load) : Tr (List (Nat × Nat)) :=
  if l.covered then .ok l.dev else s.trRange (dieOf core) c.plot true false l.addr l.size

/-- Whether a word with an uncorrectable error gives a byte of an access: one that none of the context's own stores gives (R271, R356). -/
def State.ueOpen (s : State) (ps : List (Nat × Nat)) (own : List (Option Byte)) : Bool :=
  ps.any (fun p => s.ueHit p.1 p.2) &&
    (ps.flatMap fun p => (List.range p.2).map (p.1 + ·)).zipIdx.any fun (a, i) => ((own[i]?).getD none).isNone && s.ueHit a 1

/-- The cause that a global load meets: its translation, or a word it cannot read (R264, R284, R356). -/
def State.loadCause (s : State) (core : Nat) (c : Context) (l : Load) : Option Cause :=
  match l.fail with
  | some t => some t
  | none =>
    if !l.kind.global then none
    else match s.loadPieces core c l with
      | .fault code a => some ⟨code, 0, a, some (l.caddr, l.slot)⟩
      | .wait => none
      | .ok ps => if s.ueOpen ps l.own then some ⟨0x15, 0, l.addr, some (l.caddr, l.slot)⟩ else none

/-- What a read of a register meets: the cause of the load it waits for, the wait itself, or an error in its parity. -/
def State.readHalt (s : State) (c : Context) (load : Option Load) (marked bad : Bool) : Option Halt :=
  match load with
  | some l => some (match s.loadCause s.iss.core c l with | some t => .trap t | none => .freeze .pending none .nothing)
  | none => if marked then some (.freeze .pending none .nothing) else if bad then some (.dataErr 0x16 4) else none

def Context.loadOfG (c : Context) (r : GReg) : Option Load := c.loads.find? fun l => l.gd.any fun d => d.2 == r
def Context.loadOfV (c : Context) (r : VReg) : Option Load := c.loads.find? fun l => l.vd == some r

/-- What stands in the way of reading gR: nothing for g0 (R15). -/
def State.haltG (s : State) (c : Context) (r : GReg) : Option Halt :=
  if r = 0 then none else s.readHalt c (c.loadOfG r) (c.marked (Wr.onG r)) (c.w.parity.gBad r)
def State.haltV (s : State) (c : Context) (r : VReg) : Option Halt :=
  s.readHalt c (c.loadOfV r) (c.marked (Wr.onV r)) (c.w.parity.vBad r)
def State.haltA (s : State) (c : Context) (r : AReg) : Option Halt :=
  s.readHalt c none (c.marked (Wr.onA r)) (c.w.parity.aBad r)
def State.haltM (s : State) (c : Context) (r : MReg) : Option Halt :=
  s.readHalt c none (c.marked (Wr.onM r)) (c.w.parity.mBad r)

/-! ### Registers -/

/-- gR of a copy of the state (R15). -/
def Arch.gval (a : Arch) (r : GReg) : W64 := if r = 0 then 0 else a.g[r]
def Arch.tile (a : Arch) (t : TileNo) : Tile := if t = 0 then a.t0 else a.t1
def vTile (r : VReg) : TileNo := if r.val < 64 then 0 else 1
def vRow (r : VReg) : Nat := r.val % 64
def Arch.vval (a : Arch) (r : VReg) : Row := (a.tile (vTile r)).row (vRow r)

/-- The value, unless something stands in the way. -/
def orHalt {α : Type} (h : Option Halt) (x : α) : Except Halt α :=
  match h with
  | some e => .error e
  | none => .ok x

def readG (s : State) (c : Context) (r : GReg) : Except Halt W64 := orHalt (s.haltG c r) (c.w.gval r)
def readA (s : State) (c : Context) (r : AReg) : Except Halt W32 := orHalt (s.haltA c r) c.w.a[r]
def readM (s : State) (c : Context) (r : MReg) : Except Halt W64 := orHalt (s.haltM c r) c.w.m[r]
def readV (s : State) (c : Context) (r : VReg) : Except Halt Row := orHalt (s.haltV c r) (c.w.vval r)

/-- Run a slot's act when its guard holds; a slot whose guard fails has no effect (R30, R31). -/
def guarded (s : State) (c : Context) (g : Guard) (act : Except Halt Context) : Except Halt Context :=
  match readG s c g.reg with
  | .error e => .error e
  | .ok v => if v.getLsbD g.bit.val = g.sense then act else .ok c

/-! ### Stream bindings (R246 to R252) -/

def Binding.word (b : Binding) (i : Nat) : Nat := (b.desc.getD i 0).toNat
def Binding.kind (b : Binding) : Nat := bits (b.word 0) 60 4
def Binding.elem (b : Binding) : Nat := bits (b.word 0) 56 4
def Binding.sx (b : Binding) : Bool := bitAt (b.word 0) 55
def Binding.nlev (b : Binding) : Nat := bits (b.word 0) 48 3
def Binding.wrap (b : Binding) : Bool := bitAt (b.word 0) 47
def Binding.few (b : Binding) : Bool := bitAt (b.word 0) 46
def Binding.base (b : Binding) : Nat := bits (b.word 0) 0 32
def Binding.isQueue (b : Binding) : Bool := b.kind == 4 || b.kind == 5
def Binding.esz (b : Binding) : Nat := bits b.qcw.toNat 48 3
def Binding.depth (b : Binding) : Nat := bits b.qcw.toNat 32 16
def Binding.qbase (b : Binding) : Nat := bits b.qcw.toNat 0 32
def Binding.start (b : Binding) : Nat := bits (b.word 1) 0 16
def Binding.count (b : Binding) (l : Nat) : Nat := bits (b.word (l + 1)) 0 32
def Binding.stride (b : Binding) (l : Nat) : Int := toS 32 (bits (b.word (l + 1)) 32 32)

/-- The counts and strides of the levels, the innermost first. -/
def Binding.levels (b : Binding) : List (Nat × Int) := (List.range b.nlev).map fun l => (b.count l, b.stride l)

/-- The number of elements of a pattern. -/
def Binding.total (b : Binding) : Nat := (b.levels.map Prod.fst).foldl (· * ·) 1

/-- Σ i_l · STRIDE_l for element n. -/
def patOff : List (Nat × Int) → Nat → Int
  | [], _ => 0
  | (k, st) :: ls, n => (n % k : Nat) * st + patOff ls (n / k)

/-- Bytes of one element. -/
def Binding.size (b : Binding) : Nat :=
  match b.kind with
  | 2 => 48
  | 3 => 96
  | 4 | 5 => 16 * 2 ^ b.esz
  | _ => if b.elem = 9 then 512 else 2 ^ b.elem

/-- The address of the element at a position (R246, R249). -/
def Binding.addr (b : Binding) (pos : Nat) : Nat :=
  if b.isQueue then b.qbase + (b.start + pos) % b.depth * b.size
  else Sys2Proof.Machine.wrap 32 ((b.base : Int) + (if b.kind = 2 ∨ b.kind = 3 then 64 else 0) + patOff b.levels (pos % b.total))

/-- Whether a pattern without WRAP has been passed (R251). -/
def Binding.ended (b : Binding) (pos : Nat) : Bool := !b.isQueue && !b.wrap && b.total ≤ pos

/-- Whether every granule of bytes is full (R245, R247). -/
def State.allFull (s : State) (core a n : Nat) : Bool :=
  (List.range (granules a n)).all fun i => s.isFull core (a / 16 * 16 + 16 * i)

/-- Which streams a scalar or a row access may read or write (R251). -/
def Binding.reads (b : Binding) (row : Bool) : Bool :=
  if row then (b.kind == 0 && b.elem == 9) || (b.kind == 4 && b.esz == 5)
  else (b.kind == 0 && b.elem < 4) || b.kind == 4
def Binding.writes (b : Binding) (row : Bool) : Bool :=
  if row then (b.kind == 1 && b.elem == 9) || (b.kind == 5 && b.esz == 5)
  else (b.kind == 1 && b.elem < 4) || b.kind == 5

/-- Take the element at the head of a read end's buffer (R248, R251, R254); one that the fetcher could not read raises the memory data fault
at the bundle that pops it, where its value falls due (R46, R356; DEDUCED, log entry 176). -/
def popElement (c : Context) (n : SReg) (b : Binding) : Except Halt (Context × List Byte) :=
  if b.ended (c.w.spos.getD n.val 0) then cause 0x0C n.val
  else
    match b.buf with
    | [] => freezeFor .stream (some (.stream n))
    | e :: es =>
      match e.bad with
      | some a => cause 0x15 1 a
      | none =>
        .ok (({ c with
          w := { c.w with spos := c.w.spos.set n (c.w.spos[n] + 1) }
          bind := c.bind.set n (some { b with buf := es }) } : Context).takeIn (bytesWords ((e.bytes.length + 7) / 8) e.bytes), e.bytes)

/-- Pop a stream for a scalar or a row access. -/
def popStream (c : Context) (n : SReg) (row : Bool) : Except Halt (Context × Binding × List Byte) :=
  match c.bind[n] with
  | none => cause 0x0B n.val
  | some b =>
    if b.reads row then
      match popElement c n b with
      | .error e => .error e
      | .ok (c, e) => .ok (c, b, e)
    else cause 0x0B n.val

/-- The value of a scalar element (R249, R251). -/
def Binding.scalar (b : Binding) (e : List Byte) : W64 :=
  if b.isQueue then BitVec.ofNat 64 (ofBytes (e.take 8))
  else
    let n := 8 * 2 ^ b.elem
    BitVec.ofNat 64 (if b.sx then sext n 64 (ofBytes e) else ofBytes e)

/-- The store of a strand into its scratchpad at the present issue: with the tile entries valid now (R218). -/
def mkStore (s : State) (a : Nat) (bs : List Byte) : Store :=
  { space := .spad, addr := a, bytes := bs, dev := [], ents := s.coreTiles s.iss.core, fe := none, stream := none, at? := none
    rel := false, acq := false, scope := .strand, caddr := s.iss.caddr, slot := s.iss.slot, after := s.cur.nextLoad
    acqAfter := 0, num := 0, lanes := [], sent := 0 }

/-- An entry of the withheld-store buffer, with its number and the remote operations sent before it. -/
def Context.addStore (c : Context) (st : Store) : Context :=
  { c with buf := c.buf ++ [{ st with num := c.nextStore, sent := c.sent }], nextStore := c.nextStore + 1 }

/-- Withhold a store (R340). -/
def Context.withhold (c : Context) (st : Store) : Context :=
  (c.addStore st).giveOut
    (BitVec.ofNat 64 st.addr :: bytesWords ((st.bytes.length + 7) / 8) st.bytes)

/-- Push one element of a stream (R251, R253, R254). -/
def pushStream (s : State) (c : Context) (n : SReg) (row : Bool) (v : List Byte) : Except Halt Context :=
  match c.bind[n] with
  | none => cause 0x0B n.val
  | some b =>
    let pos := c.w.spos[n]
    if !b.writes row then cause 0x0B n.val
    else if b.ended pos then cause 0x0C n.val
    else
      let a := b.addr pos
      if b.isQueue && (s.allFull s.iss.core a b.size || c.sh.spos[n] + b.depth ≤ pos) then
        freezeFor .stream (some (.stream n))
      else
        let bs := if b.isQueue then v ++ List.replicate (b.size - v.length) 0 else v.take b.size
        let st := { mkStore s a bs with
          fe := if b.isQueue then some (a, granules a b.size, true) else none
          stream := some n }
        .ok (({ c with w := { c.w with spos := c.w.spos.set n (pos + 1) } } : Context).withhold st)

/-! ### Channels (R408 to R414) -/

/-- Words that a send buffer holds. -/
def Channel.sendWords (k : Channel) : Nat := ((k.send.map SendPacket.words ++ k.part.map Prod.snd).map List.length).foldl (· + ·) 0

/-- The words of an operation not yet complete under a route. -/
def Channel.partOf (k : Channel) (r : W64 × W64) : List W64 := ((k.part.find? fun e => e.1 == r).map Prod.snd).getD []

/-- The channel with those words replaced. -/
def Channel.setPart (k : Channel) (r : W64 × W64) (ws : List W64) : Channel :=
  { k with part := k.part.filter (fun e => e.1 != r) ++ if ws.isEmpty then [] else [(r, ws)] }

def routeKind (r : W64 × W64) : Nat := bits r.1.toNat 60 4
def routeModule (r : W64 × W64) : Nat := bits r.1.toNat 48 8

/-- Pop n words of a channel (R412). -/
def popChannel (c : Context) (k : KReg) (n : Nat) : Except Halt (Context × List W64) :=
  let ch := c.chan[k]
  match ch.route with
  | none => cause 0x0B (16 + k.val)
  | some _ =>
    if ch.recv.length < n then freezeFor .channel (some (.channel k n 0))
    else
      .ok (({ c with chan := c.chan.set k { ch with recv := ch.recv.drop n } } : Context).takeIn (ch.recv.take n), ch.recv.take n)

/-- Words in runs of at most 32 (R413). -/
def wordRuns : Nat → List W64 → List (List W64)
  | 0, _ => []
  | _, [] => []
  | f + 1, l => l.take 32 :: wordRuns f (l.drop 32)

/-- The words that a remote operation needs in all, by its header; none when it is malformed (R414). -/
def remoteLen (h : W64) : Option Nat :=
  let v := h.toNat
  let op := bits v 60 4
  let aop := bits v 56 4
  let size := bits v 54 2
  let len := bits v 48 5
  if bits v 53 1 ≠ 0 ∨ bits v 44 4 ≠ 0 ∨ bits v 16 6 ≠ 0 ∨ 3 < op then none
  else if op = 3 then
    if aop ≤ 11 ∧ 2 ≤ size ∧ (aop < 10 ∨ size = 2) ∧ len = (if aop = 9 then 1 else 0) then some (3 + len) else none
  else if aop ≠ 0 ∨ size ≠ 0 then none
  else some (if op = 2 then 2 else 3 + len)

/-- Cut complete remote operations off the front of the words placed so far; whether one is malformed (R414). -/
def remoteCut : Nat → List W64 → List (List W64) × List W64 × Bool
  | 0, l => ([], l, false)
  | _, [] => ([], [], false)
  | f + 1, h :: l =>
    match remoteLen h with
    | none => ([], [], true)
    | some n =>
      if (h :: l).length < n then ([], h :: l, false)
      else
        let (ps, r, bad) := remoteCut f ((h :: l).drop n)
        ((h :: l).take n :: ps, r, bad)

/-- The words from the first malformed header on (R414, R417). -/
def remoteBad : Nat → List W64 → List W64
  | 0, l => l
  | _, [] => []
  | f + 1, h :: l =>
    match remoteLen h with
    | none => h :: l
    | some n => remoteBad f ((h :: l).drop n)

/-- A packet as its channel forms it. -/
def SendPacket.new (c : Context) (r : W64 × W64) (num : Nat) (ws : List W64) : SendPacket := ⟨num, c.plot, c.gen, c.group, r, ws, false, 0, 0⟩

/-- The code of a remote operation (R414). -/
def remoteOp (ws : List W64) : Nat := bits (ws.headD 0).toNat 60 4

/-- Operations formed under a route: every PUT and ATOMIC awaits its acknowledgement, all but PUT a reply (R407, R416). -/
def Context.remoteSent (c : Context) (s : State) (r : W64 × W64) (ps : List (List W64)) : Context :=
  ps.foldl (fun c ws =>
    let op := remoteOp ws
    let reply : Load :=
      { id := c.nextLoad, kind := .remote (Fin.ofNat 8 (bits r.1.toNat 0 3)) (routeModule r), gd := [], vd := none, shGd := [], shVd := none
        addr := (ws.getD 1 0).toNat, size := c.sent, dev := [], own := [], acq := false, scope := .strand, caddr := s.iss.caddr
        slot := s.iss.slot, covered := false, due := 0, got := none, fail := none }
    { c with
      sent := c.sent + 1
      unacked := if op = 2 then c.unacked else c.unacked ++ [c.sent]
      loads := if op = 0 then c.loads else c.loads ++ [reply]
      nextLoad := if op = 0 then c.nextLoad else c.nextLoad + 1 }) c

/-- Whether the plot holds what a route to a module needs: the module itself, or a pairing half (R405). -/
def State.routed (s : State) (plot : PlotNo) (r : W64 × W64) : Bool :=
  routeModule r == Config.moduleNumber.val ||
    s.pairings.any fun p => p.plot == plot && p.module.val == routeModule r

/-- Push words to a channel: they enter the send buffer at the bundle's own commit and form packets (R412 to R414). A
missing half, or a malformed header, is a failure that reaches the strand at its next issue (R405, R417). -/
def pushChannel (s : State) (c : Context) (k : KReg) (ws : List W64) : Except Halt Context :=
  let ch := c.chan[k]
  match ch.route with
  | none => cause 0x0B (16 + k.val)
  | some r =>
    if routeKind r = 1 then cause 0x0B (16 + k.val)
    else if 64 < ch.sendWords + ws.length then freezeFor .channel (some (.channel k 0 ws.length))
    else if routeKind r = 2 then
      let all := ch.partOf r ++ ws
      let (ps, rest, bad) := remoteCut 65 all
      let sends := ps.zipIdx.map fun (ws, i) => SendPacket.new c r (c.sent + i) ws
      let off := ((if bad then remoteBad 65 all else ps.headD []).getD 1 0).toNat
      let c := c.remoteSent s r ps
      let c := { c with chan := c.chan.set k { ch.setPart r rest with send := ch.send ++ sends } }
      .ok (if bad ∨ (!ps.isEmpty ∧ !s.routed c.plot r) then { c with failure := some (1, off) } else c)
    else
      let c := { c with chan := c.chan.set k { ch with send := ch.send ++ (wordRuns 3 ws).map (SendPacket.new c r 0) } }
      .ok (if s.routed c.plot r then c else { c with failure := some (1, 0) })

/-! ### Scalar and address sources (R61, R63) -/

/-- The pool as a slot reads it. -/
def poolWord (p : BitVec 16) : W64 := p.signExtend 64

/-- Read a source, popping what it pops. -/
def readSrc (s : State) (c : Context) : Src → Except Halt (Context × W64)
  | .g r =>
    match readG s c r with
    | .error e => .error e
    | .ok v => .ok (c, v)
  | .b n => .ok (c, c.latch[n])
  | .s n =>
    match popStream c n false with
    | .error e => .error e
    | .ok (c, b, e) => .ok (c, b.scalar e)
  | .k n =>
    match popChannel c n 1 with
    | .error e => .error e
    | .ok (c, ws) => .ok (c, ws.headD 0)
  | .pool => .ok (c, poolWord s.iss.pool)

/-! ### Destinations (R21, R24, R27, R62) -/

/-- A slot's latch bank (R27). -/
def latchBank (slot : Nat) : Nat :=
  match slot with
  | 2 => 4
  | 3 => 8
  | 7 => 12
  | _ => 0

/-- The latch that D[1:0] selects. -/
def latchOf (slot d : Nat) : Fin 16 := Fin.ofNat 16 (latchBank slot + d % 4)

/-- A result that lands after `lat` issues (R21, R24). -/
def Context.flyAdd (s : State) (c : Context) (lat : Nat) (ws : List Wr) : Context :=
  { c with fly := c.fly ++ [⟨lat, s.iss.slot, s.iss.caddr, false, false, ws⟩] }

/-- A result that there may be none of. -/
def Context.flyMore (s : State) (c : Context) (lat : Nat) (ws : List Wr) : Context :=
  if ws.isEmpty then c else c.flyAdd s lat ws

/-- Flags land with their result, when there are any (R146). -/
def flagWr (fl : Flags) : List Wr := if fl = 0 then [] else [.flags fl]

/-- Write a scalar result: to the named register and the bank's latch, or to the latch alone (R62). -/
def writeDst (s : State) (c : Context) (d : Dst) (lat : Nat) (v : W64) (fl : Flags := 0) : Except Halt Context :=
  match d with
  | .g r => .ok (c.flyAdd s lat ([.g r v, .latch (latchOf s.iss.slot r.val) v] ++ flagWr fl))
  | .latch n => .ok (c.flyAdd s lat ([.latch (latchOf s.iss.slot n.val) v] ++ flagWr fl))
  | .s n =>
    match pushStream s c n false (toBytes 8 v.toNat) with
    | .error e => .error e
    | .ok c => .ok (c.flyAdd s lat ([.latch (latchOf s.iss.slot (80 + n.val)) v] ++ flagWr fl))
  | .k n =>
    match pushChannel s c n [v] with
    | .error e => .error e
    | .ok c => .ok (c.flyAdd s lat ([.latch (latchOf s.iss.slot (96 + n.val)) v] ++ flagWr fl))

/-- Write a single bit of gD; the latch receives it as 0 or 1 (R62). -/
def writeBit (s : State) (c : Context) (d : GReg) (n : BitNo) (lat : Nat) (b : Bool) (fl : Flags := 0) : Except Halt Context :=
  .ok (c.flyAdd s lat ([.gbit d n b, .latch (latchOf s.iss.slot d.val) (BitVec.ofNat 64 b.toNat)] ++ flagWr fl))

/-! ### Scratchpad as the context sees it (R111) -/

/-- A withheld scratchpad store applied to memory with its tile sums. -/
def applyStore (core : Nat) (m : Memory) (st : Store) : Memory :=
  match st.space with
  | .spad => spadWrite m (spadBase core) st.addr st.bytes st.ents
  | .hbm => m

/-- Memory with the context's own withheld scratchpad stores. -/
def State.ownView (s : State) (c : Context) : Memory := c.buf.foldl (applyStore s.iss.core) s.mem

def State.spadBytes (s : State) (c : Context) (a n : Nat) : List Byte :=
  (s.ownView c).read (spadBase s.iss.core + a) n

/-- The granules that the context's queue read ends have popped and not yet emptied (R254): address and count. -/
def Context.clearing (c : Context) : List (Nat × Nat) :=
  (List.range 16).flatMap fun n =>
    match (c.bind.getD n none) with
    | some b =>
      if b.kind = 4 then
        (List.range (c.w.spos.getD n 0 - c.sh.spos.getD n 0)).map fun i =>
          (b.addr (c.sh.spos.getD n 0 + i), granules (b.addr (c.sh.spos.getD n 0 + i)) b.size)
      else []
    | none => []

/-- The full-empty bit of a granule as the context sees it (R280): pops empty, its withheld changes in order. -/
def State.ownFull (s : State) (c : Context) (a : Nat) : Bool :=
  c.buf.foldl (fun f st =>
    match st.fe with
    | some (a0, n, v) => if a0 / 16 ≤ a / 16 ∧ a / 16 < a0 / 16 + n then v else f
    | none => f) (s.isFull s.iss.core a && !c.clearing.any fun g => g.1 / 16 ≤ a / 16 && a / 16 < g.1 / 16 + g.2)

/-! ### Address modes (R91, R107, R108) -/

/-- A modifier as MSET stores it: reserved bits zero (R107). -/
def modStore (v : W64) : W64 :=
  match bits v.toNat 62 2 with
  | 0 => v &&& 0x00000000FFFFFFFF#64
  | 1 => v &&& 0x4000003FFFFFFFFF#64
  | 2 => v &&& 0x8000003FFFFFFFFF#64
  | _ => v

/-- upd(a, m) (R108). -/
def updAddr (a : W32) (m : W64) : W32 :=
  let x := a.toNat
  let v := m.toNat
  let inc := toS 32 (bits v 0 32)
  let k := min (bits v 32 6) 32
  match bits v 62 2 with
  | 0 => BitVec.ofNat 32 (wrap 32 ((x : Int) + inc))
  | 1 => BitVec.ofNat 32 (x - x % 2 ^ k + wrap k ((x : Int) + inc))
  | 2 => BitVec.ofNat 32 (x - x % 2 ^ k + revBits k ((revBits k (x % 2 ^ k) + revBits k (wrap k inc)) % 2 ^ k))
  | _ =>
    let cinc := toS 16 (bits v 46 16)
    let len := bits v 0 18 * 16
    if len = 0 then BitVec.ofNat 32 (wrap 32 ((x : Int) + cinc))
    else
      let base := bits v 18 28 * 16
      BitVec.ofNat 32 (base + (((x : Int) - base + cinc) % (len : Int)).toNat)

/-- The access address of a memory operand and the register's new value, if it changes (R91). -/
def addrOf (s : State) (c : Context) (a : AReg) (m : AMode) : Except Halt (W32 × Option W32) :=
  match readA s c a with
  | .error e => .error e
  | .ok x =>
    match m with
    | .off n => .ok (x + n.signExtend 32, none)
    | .post n => .ok (x, some (x + n.signExtend 32))
    | .postM r =>
      match readM s c r with
      | .error e => .error e
      | .ok v => .ok (x, some (updAddr x v))
    | .preM r =>
      match readM s c r with
      | .error e => .error e
      | .ok v => .ok (updAddr x v, some (updAddr x v))

/-- The register update of an address mode lands after one issue (R22). -/
def Context.postUpd (s : State) (c : Context) (a : AReg) : Option W32 → Context
  | none => c
  | some v => c.flyAdd s 1 [.a a v]

/-- The tests of R110 on a scratchpad access. -/
def spadCheck (s : State) (c : Context) (a size align : Nat) : Except Halt Unit :=
  if a % align ≠ 0 then cause 0x07 0 a
  else if s.spadOk c.plot s.iss.core a size then .ok () else cause 0x08 0 a

/-- The tests of R110 and R257 on a weight-store access. -/
def wsCheck (s : State) (c : Context) (a size align : Nat) : Except Halt Unit :=
  if a % align ≠ 0 then cause 0x07 0 a
  else if s.wsOk c.plot s.issDie a size then .ok () else cause 0x09 0 a

/-- Base ticks from a cycle of a die's cores to the k-th cycle after it (R1, R471). -/
def Die.ticksTo (d : Die) (k : Nat) : Nat := (4000 * k - d.phase + d.mhz - 1) / d.mhz

/-- The bank in its refresh window k cycles from now on a die (R258, R471). -/
def State.bankIn (s : State) (d k : Nat) : Nat :=
  let die := s.die d
  (4 * die.refreshNs + s.tick % 4 + die.ticksTo k) / 4000 % 64

/-- Reason 6 of R44: the bank refreshes in the issue cycle or in one of the four after it (R258). -/
def State.refreshing (s : State) (d a : Nat) : Bool :=
  (List.range 5).any fun k => s.bankIn d k == a / 65536 % 64

/-! ### Vector operands (R158 to R163) -/

/-- The lane width and float format of an operation (R158). -/
structure OpW where
  w : Nat
  fmt : Option Fmt
  /-- the type of the operation tile, if there is one -/
  ty : Option TileType
deriving DecidableEq, Repr

def OpW.of (ty : TileType) : OpW := ⟨ttWidth ty, ttFmt ty, some ty⟩

def dTile : VDst → Option TileNo
  | .v r => some (vTile r)
  | _ => none
def sTile : VSrc → Option TileNo
  | .v r => some (vTile r)
  | .vck t => some t
  | _ => none
/-- S2 names a row only (R158, item 3). -/
def rowTile : VSrc → Option TileNo
  | .v r => some (vTile r)
  | _ => none

/-- The operation width of an instruction with a destination and two sources (R158). -/
def opWidth (c : Context) (d : Option TileNo) (a b : Option TileNo) : OpW :=
  match d.or (a.or b) with
  | some t => OpW.of (c.w.tile t).ty
  | none => ⟨32, some fp32, none⟩

/-- The words of a channel beat as a row (R160). -/
def rowOfWords (ws : List W64) : Row := ofLanes 64 (ws.map BitVec.toNat)
def wordsOfRow (r : Row) : List W64 := (lanes 64 r).map (BitVec.ofNat 64)
def rowOfBytes (bs : List Byte) : Row := BitVec.ofNat 4096 (ofBytes bs)
def bytesOfRow (r : Row) : List Byte := toBytes 512 r.toNat

/-- The pool in every lane of width w; `fl` when the source is read as floating point (R65). -/
def poolRow (p : BitVec 16) (w : Nat) (fl : Bool) : Row :=
  if w = 32 ∧ fl then splat 32 (p.toNat * 65536) else splat w (sext 16 64 p.toNat)

/-- Read a vector source as a row at operation width w (R160, R65). -/
def readVSrc (s : State) (c : Context) (w : Nat) (fl : Bool) : VSrc → Except Halt (Context × Row)
  | .v r =>
    match readV s c r with
    | .error e => .error e
    | .ok x => .ok (c, x)
  | .vb n => .ok (c, c.vlatch[n])
  | .s n =>
    match popStream c n true with
    | .error e => .error e
    | .ok (c, _, e) => .ok (c, rowOfBytes e)
  | .k n =>
    match popChannel c n 64 with
    | .error e => .error e
    | .ok (c, ws) => .ok (c, rowOfWords ws)
  | .bc r =>
    match readG s c r with
    | .error e => .error e
    | .ok v => .ok (c, splat w v.toNat)
  | .vck t => .ok (c, (s.cur.w.tile t).colsum)
  | .pool => .ok (c, poolRow s.iss.pool w fl)

/-- The vector latch that D[2:0] selects in the slot's bank (R162). -/
def vlatchOf (slot d : Nat) : Fin 16 := Fin.ofNat 16 ((if slot = 5 then 8 else 0) + d % 8)

/-- Write a row to a vector destination (R162, R163); further writes land with it, after it. -/
def writeVDst (s : State) (c : Context) (d : VDst) (lat : Nat) (x : Row) (fl : Flags := 0) (more : List Wr := []) :
    Except Halt Context :=
  match d with
  | .v r => .ok (c.flyAdd s lat ([.v r (BitVec.allOnes 4096) x, .vlatch (vlatchOf s.iss.slot r.val) x] ++ more ++ flagWr fl))
  | .latch n => .ok (c.flyAdd s lat ([.vlatch (vlatchOf s.iss.slot n.val) x] ++ more ++ flagWr fl))
  | .s n =>
    match pushStream s c n true (bytesOfRow x) with
    | .error e => .error e
    | .ok c => .ok (c.flyAdd s lat ([.vlatch (vlatchOf s.iss.slot (144 + n.val)) x] ++ more ++ flagWr fl))
  | .k n =>
    match pushChannel s c n (wordsOfRow x) with
    | .error e => .error e
    | .ok c => .ok (c.flyAdd s lat ([.vlatch (vlatchOf s.iss.slot (160 + n.val)) x] ++ more ++ flagWr fl))

/-- Write only the bits of vD under a mask (R178, R185): the latch receives the row as those lanes stand in the merged
result. -/
def writeMerge (s : State) (c : Context) (d : VReg) (lat : Nat) (mask x : Row) (fl : Flags := 0) : Except Halt Context :=
  .ok (c.flyAdd s lat ([.v d mask x, .vlatch (vlatchOf s.iss.slot d.val) ((c.w.vval d &&& ~~~mask) ||| (x &&& mask))] ++ flagWr fl))

/-- The element-type fault (R159). -/
def typeFault {α : Type} : Except Halt α := cause 0x0A

/-! ### The end of a slot executed by itself -/

/-- What a frozen bundle leaves: the freeze counted, with what a park would wait for (R45, R47). -/
def Context.freezeAt (c : Context) (why : Reason) (on : Option ParkOn) : Context :=
  { c with
    st := .frozen why
    frzcyc := c.frzcyc + 1
    frozenFor := match why with
      | .stream => c.frozenFor + 1
      | .channel => c.frozenFor + 1
      | .fullEmpty => c.frozenFor + 1
      | _ => 0
    parkOn := on }

/-- A detected data error starts a verification, or decides the one that is running: the context keeps what it met
(R354, R355). -/
def State.metDataErr (s : State) (x : Nat) (code check : Nat) (at_ : W32 × Nat) : State :=
  s.setCtx x { s.ctx x with raised := some ⟨code, check, 0, some at_⟩ }

/-- The device pieces of a withheld global entry (R267). -/
def State.devOf (s : State) (x : Nat) (c : Context) (st : Store) : List (Nat × Nat) :=
  match s.trRange (dieOf (coreOfCtx x)) c.plot st.at?.isSome true st.addr st.bytes.length with
  | .ok ps => ps
  | _ => []

/-- The scratchpad bytes of an entry take effect (R341). -/
def State.performPad (core : Nat) (s : State) (st : Store) : State :=
  ({ s with mem := applyStore core s.mem st } : State).ueClear (spadBase core + st.addr) st.bytes.length

/-- The interval's stores are handed to memory ahead of the acceptance of their commit, which waits for them (R278, R320, R341): global
entries enter the commit queue, scratchpad bytes are performed; full-empty changes stay until the commit. What has begun so is not rolled
back, except where R320 says so (DEDUCED, log entry 177). -/
def State.handStores (s : State) (x : Nat) : State :=
  let c := s.ctx x
  let core := coreOfCtx x
  (c.buf.foldl (fun s st => if st.space = .spad then s.performPad core st else s) s).setCtx x { c with
    handed := true
    wseq := s.dieSeq (dieOf core)
    cq := c.cq ++ (c.buf.filter fun st => st.space == .hbm).map fun st => { st with dev := s.devOf x c st, acqAfter := c.nextLoad }
    buf := (c.buf.filter fun st => st.space == .spad && st.fe.isSome).map fun st => { st with bytes := [] } }

/-- What a frozen bundle begins. -/
def State.begins (s : State) (x : Nat) : Begins → State
  | .nothing => s
  | .hand => s.handStores x
  | .copy src v =>
    let s1 := s.putW2 (dieOf (coreOfCtx x)) (s.ctx x).plot src true 1 v
    s1.setCtx x { s1.ctx x with handed := true, copying := some (src, v, false) }
  | .object dst =>
    let s1 := s.putW2 (dieOf (coreOfCtx x)) (s.ctx x).plot dst false 0 0
    s1.setCtx x { s1.ctx x with copying := (s1.ctx x).copying.map fun k => (k.1, k.2.1, true) }
  | .fence =>
    let c := s.ctx x
    s.setCtx x { c with fenceWaits := some ((s.die (dieOf (coreOfCtx x))).updates.map fun u => (u.addr / 128, u.number)) }

/-- What a halt of a slot does to the machine. -/
def State.halt (s : State) (x : Nat) (h : Halt) (slot : Nat) (caddr : W32) : State :=
  match h with
  | .freeze why on b => let s1 := s.begins x b; s1.setCtx x ((s1.ctx x).freezeAt why on)
  | .park on => s.park x on
  | .trap t => s.takeTrap x t slot caddr
  | .dataErr code check => s.metDataErr x code check (caddr, slot)

/-- The outcome of a slot for the machine: its context, or its halt. -/
def settle (s : State) (r : Except Halt Context) : St State :=
  match r with
  | .ok c => .next (s.setCtx s.iss.ctx c)
  | .error h => .next (s.halt s.iss.ctx h s.iss.slot s.iss.caddr)

/-- A slot instruction executed at the issue in progress. -/
def runSlot (f : Slot) (s : State) : St State := settle s (f s s.cur)

end Sys2Proof.Machine
end

