-- ==== Sys2Proof/Machine/Flags.lean ====
section
/-!
DEFINITION. Rounding modes and the exception records (R135 to R147), the control and status registers (R16 to R19), and
the landing of fixed-latency results (R21 to R25, R167, R168, R188 to R190).
-/
namespace Sys2Proof.Machine

/-! ### Rounding (R136, R141) -/

/-- The mode that RMODE holds (R135). -/
def modeOfCode (n : Nat) : RMode :=
  match n with
  | 2 => .rtz | 3 => .rdn | 4 => .rup | 5 => .sr | _ => .rne

/-- The mode of a rounding code (R69, R136). -/
def roundMode (c : Context) : Rnd → RMode
  | .dyn => modeOfCode c.w.rmode.toNat
  | .rne => .rne
  | .rtz => .rtz
  | .rdn => .rdn
  | .rup => .rup
  | .sr => .sr

/-- ITER of R141. -/
def iterOf (c : Context) : Nat :=
  match c.w.levels.getLast? with
  | some l => l.iter
  | none => 0

/-- Mode and random bits of a lane's rounding (R141). -/
def rcOf (s : State) (c : Context) (r : Rnd) (lane : Nat) : Rc :=
  match roundMode c r with
  | .sr => ⟨.sr, (srHash c.w.seed c.taskid s.iss.caddr.toNat s.iss.slot lane (BitVec.ofNat 64 (iterOf c))).toNat / 2 ^ 32⟩
  | m => ⟨m, 0⟩

/-! ### Exception records (R145, R146) -/

/-- Raise flags in a slot's record: a flag that goes from 0 to 1 keeps the raising unit's address (R146). -/
def FlagRec.raise (f : FlagRec) (fl : Flags) (caddr : W32) : FlagRec :=
  { bits := f.bits ||| fl
    first := Vector.ofFn fun i => if fl.getLsbD i.val && !f.bits.getLsbD i.val then caddr else f.first[i] }

/-- An MTS to FLAGn: a written 0 clears the bit and its first address (R146). -/
def FlagRec.clear (f : FlagRec) (v : W64) : FlagRec :=
  { bits := f.bits &&& v.setWidth 6
    first := Vector.ofFn fun i => if v.getLsbD i.val then f.first[i] else 0 }

/-- The lowest flag set, counted from 1; 0 for none (R145). -/
def FlagRec.fnum (f : FlagRec) : Nat := if f.bits = 0 then 0 else ctz 6 f.bits.toNat + 1

/-- FLAGn as it reads (R145). -/
def FlagRec.word (f : FlagRec) : W64 :=
  BitVec.ofNat 64 ((if f.fnum = 0 then 0 else (f.first.getD (f.fnum - 1) 0).toNat) * 2 ^ 32 + f.fnum * 2 ^ 8 + f.bits.toNat)

/-! ### Control and status registers (R16 to R19, R364) -/

/-- REFWIN of a die (R19). -/
def Die.refwin (d : Die) : W64 := BitVec.ofNat 64 (d.bank * 1024 + d.nsleft)

/-- BOOST of a gang on a core in the cycle before the present one: in the first cycle of a window, by the window before (R364, R424). -/
def State.boostBefore (s : State) (core plot gang : Nat) : Nat :=
  let sh := (s.core core).share
  if sh.pos = 1 then
    if sh.left.contains (gangKey plot gang) then min (s.purses.get (purseKey (dieOf core) plot gang) 0 / 16) (bits s.purseReg.toNat 16 8) else 0
  else s.boost core plot gang

/-- PRIO of a context, as in the cycle before its MFS (R364). -/
def State.prio (s : State) (x : Nat) : W64 :=
  let c := s.ctx x
  let base := (s.plot c.plot).policy.base
  let boost := s.boostBefore (coreOfCtx x) c.plot (gangOf c.taskid)
  let drop := s.drop c
  BitVec.ofNat 64 (effOf base boost drop * 2 ^ 24 + drop * 2 ^ 16 + boost * 2 ^ 8 + base)

/-- An active level's register; 0 for a level that is not active. -/
def levelReg (c : Context) (l : Nat) (f : Level → Nat) : W64 :=
  BitVec.ofNat 64 ((c.w.levels[l]?.map f).getD 0)

/-- A control and status register as it stands (R17); none for a number that is not listed (R16). -/
def csrRead (s : State) (c : Context) (n : Nat) : Option W64 :=
  if n = 0x000 then some (BitVec.ofNat 64 (coreId s.iss.ctx))
  else if n = 0x001 then some c.taskid
  else if n = 0x002 then some (c.kslot.setWidth 64)
  else if n = 0x003 then some (BitVec.ofNat 64 (plotId c.gen c.plot))
  else if n = 0x010 then some (BitVec.ofNat 64 (s.timeOf c.plot))
  else if n = 0x011 then some c.cycle
  else if n = 0x012 then some c.frzcyc
  else if n = 0x013 then some (s.die s.issDie).refwin
  else if n = 0x020 then some (c.cstat.setWidth 64)
  else if n = 0x021 then some (c.w.rmode.setWidth 64)
  else if n = 0x022 then some c.w.seed
  else if n = 0x023 then some (c.w.tole.setWidth 64)
  else if 0x030 ≤ n ∧ n ≤ 0x037 then some (c.flags.getD (n - 0x030) .zero).word
  else if 0x040 ≤ n ∧ n ≤ 0x047 then some ((c.fixcnt.getD (n - 0x040) 0).setWidth 64)
  else if n = 0x050 then some (s.prio s.iss.ctx)
  else if n = 0x060 then some ((c.w.sp &&& 0xFE).setWidth 64)
  else if n = 0x070 then some (BitVec.ofNat 64 c.w.levels.length)
  else if 0x080 ≤ n ∧ n ≤ 0x085 then some (levelReg c (n - 0x080) fun l => l.trip.toNat)
  else if 0x088 ≤ n ∧ n ≤ 0x08D then some (levelReg c (n - 0x088) fun l => l.iter)
  else if 0x090 ≤ n ∧ n ≤ 0x095 then some (levelReg c (n - 0x090) fun l => l.start.toNat)
  else if 0x098 ≤ n ∧ n ≤ 0x09D then some (levelReg c (n - 0x098) fun l => l.stop.toNat)
  else if 0x100 ≤ n ∧ n ≤ 0x15F then some ((c.w.lstride.getD (n - 0x100) 0).setWidth 64)
  else none

/-- The values that a verification counts as taken from outside (R355). -/
def csrOutside (n : Nat) : Bool := n == 0x010 || n == 0x011 || n == 0x012 || n == 0x013 || n == 0x050

/-- RMODE as an MTS stores it (R135). -/
def rmodeStore (v : W64) : BitVec 3 := if (v.setWidth 3 : BitVec 3) = 6 ∨ (v.setWidth 3 : BitVec 3) = 7 then 0 else v.setWidth 3

/-- The shadowed registers that an MTS writes (R16, R17). -/
def Arch.csrWrite (a : Arch) (n : Nat) (v : W64) : Arch :=
  if n = 0x021 then { a with rmode := rmodeStore v }
  else if n = 0x022 then { a with seed := v }
  else if n = 0x023 then { a with tole := v.setWidth 8 }
  else if 0x100 ≤ n ∧ n ≤ 0x15F then { a with lstride := a.lstride.setIfInBounds (n - 0x100) (v.setWidth 32) }
  else a

/-! ### Landing (R21, R23 to R25) -/

/-- Write a row of T0 or T1 under a mask, keeping its checksums (R167). -/
def Arch.putTile (a : Arch) (t : TileNo) (x : Tile) : Arch := if t = 0 then { a with t0 := x } else { a with t1 := x }
/-- The words of a row that a mask covers whole; only those get fresh parity (R354, log 166). -/
def whole32 (mask : Row) : BitVec 128 :=
  BitVec.ofNat 128 ((lanes 32 mask).zipIdx.foldl (fun acc (x, j) => if x = 0xFFFFFFFF then acc + 2 ^ j else acc) 0)
def ParityErr.clearV (p : ParityErr) (r : VReg) (mask : Row) : ParityErr :=
  { p with v := p.v.set r (p.v[r] &&& ~~~(whole32 mask)) }
def Arch.putV (a : Arch) (r : VReg) (mask x : Row) : Arch :=
  { a.putTile (vTile r) ((a.tile (vTile r)).write (vRow r) mask x) with parity := a.parity.clearV r mask }

def Arch.putG (a : Arch) (r : GReg) (v : W64) : Arch :=
  if r = 0 then a
  else { a with g := a.g.set r v, parity := { a.parity with g := a.parity.g &&& ~~~(3#128 <<< (2 * r.val)) } }
/-- One bit of gR: neither word is written whole, so its parity stands as it is. -/
def Arch.putGbit (a : Arch) (r : GReg) (n : BitNo) (b : Bool) : Arch :=
  if r = 0 then a else { a with g := a.g.set r (setBit (a.gval r) n.val b) }
def Arch.putA (a : Arch) (r : AReg) (v : W32) : Arch :=
  { a with a := a.a.set r v, parity := { a.parity with a := a.parity.a &&& ~~~(BitVec.twoPow 16 r.val) } }
def Arch.putM (a : Arch) (r : MReg) (v : W64) : Arch :=
  { a with m := a.m.set r v, parity := { a.parity with m := a.parity.m &&& ~~~(3#32 <<< (2 * r.val)) } }

/-- One write on a copy of the shadowed state; the others leave it alone. -/
def Arch.apply (a : Arch) : Wr → Arch
  | .g r v => a.putG r v
  | .gbit r n b => a.putGbit r n b
  | .a r v => a.putA r v
  | .m r v => a.putM r v
  | .v r mask x => a.putV r mask x
  | .vscacc r x terms =>
    { a.putTile (vTile r) ((a.tile (vTile r)).scacc (vRow r) x terms) with parity := a.parity.clearV r (BitVec.allOnes 4096) }
  | .drained r x marks =>
    { a with
      t0 := a.t0.writeMarked r.val (BitVec.allOnes 4096) x marks
      parity := a.parity.clearV (Fin.ofNat 128 r.val) (BitVec.allOnes 4096) }
  | .csr n v => a.csrWrite n.toNat v
  | .latch .. => a
  | .vlatch .. => a
  | .check .. => a
  | .flags _ => a
  | .memErr .. => a

/-- A mark on gR is cleared, in the shadow too where a checkpoint has covered the write (R23, R25, R285). -/
def Load.dropG (covered : Bool) (r : GReg) (l : Load) : Load :=
  { l with gd := l.gd.filter fun d => d.2 != r, shGd := if covered then l.shGd.filter fun d => d.2 != r else l.shGd }
def Load.dropV (covered : Bool) (r : Nat) (l : Load) : Load :=
  let keep (o : Option VReg) : Option VReg := if o.map Fin.val = some r then none else o
  { l with vd := keep l.vd, shVd := if covered then keep l.shVd else l.shVd }

/-- A write that lands on a pending register clears the mark (R23). -/
def Context.unpend (c : Context) (covered : Bool) : Wr → Context
  | .g r _ => { c with loads := c.loads.map (Load.dropG covered r) }
  | .gbit r _ _ => { c with loads := c.loads.map (Load.dropG covered r) }
  | .v r _ _ => { c with loads := c.loads.map (Load.dropV covered r.val) }
  | .vscacc r _ _ => { c with loads := c.loads.map (Load.dropV covered r.val) }
  | .drained r _ _ => { c with loads := c.loads.map (Load.dropV covered r.val) }
  | _ => c

/-- What lands outside the shadowed state: latches, records, counts, errors. -/
def Context.applyOut (c : Context) (f : Fly) : Wr → Context
  | .latch n v => { c with latch := c.latch.set n v }
  | .vlatch n x => { c with vlatch := c.vlatch.set n x }
  | .flags fl => { c with flags := c.flags.setIfInBounds f.slot ((c.flags.getD f.slot .zero).raise fl f.caddr) }
  | .csr n v => if n.toNat = 0x020 then { c with cstat := c.cstat &&& v.setWidth 3 } else c
  | .memErr sp a => { c with raised := c.raised.or (some ⟨0x15, sp, a, some (f.caddr, f.slot)⟩) }
  | _ => c

/-- The words that a landing adds to a verification's result signature (R355). -/
def sigWords : Wr → List W64
  | .g r v => if r = 0 then [] else [BitVec.ofNat 64 r.val, v]
  | .gbit r n b => if r = 0 then [] else [BitVec.ofNat 64 (64 + r.val), BitVec.ofNat 64 (n.val * 2 + b.toNat)]
  | .a r v => [BitVec.ofNat 64 (128 + r.val), v.setWidth 64]
  | .m r v => [BitVec.ofNat 64 (144 + r.val), v]
  | .v r mask x => BitVec.ofNat 64 (256 + r.val) :: wordsOfRow (mask &&& x)
  | .vscacc r x _ => BitVec.ofNat 64 (256 + r.val) :: wordsOfRow x
  | .drained r x _ => BitVec.ofNat 64 (256 + r.val) :: wordsOfRow x
  | .csr n v => [BitVec.ofNat 64 (1024 + n.toNat), v]
  | _ => []

/-- One write of a result in flight: to the working state, and to the shadow when a checkpoint has covered it (R25). -/
def Context.landWr (c : Context) (f : Fly) (x : Wr) : Context :=
  (({ (c.unpend f.covered x).applyOut f x with
      w := c.w.apply x
      sh := if f.covered then c.sh.apply x else c.sh } : Context).giveOut (sigWords x))

/-- An MTS that clears flags lands before the flags of its cycle (R146). -/
def Context.landClear (c : Context) : Wr → Context
  | .csr n v =>
    if 0x030 ≤ n.toNat ∧ n.toNat ≤ 0x037 then
      { c with flags := c.flags.setIfInBounds (n.toNat - 0x030) ((c.flags.getD (n.toNat - 0x030) .zero).clear v) }
    else c
  | _ => c

/-- A comparison's data error waits for the next issue; it comes before a memory data fault (R210, R346). -/
def Context.raiseData (c : Context) (t : Cause) : Context :=
  { c with raised := match c.raised with
    | some u => if u.code = 0x15 then some t else some u
    | none => some t }

/-- The comparison of a VCCHK or TCFG, and TCFG's new type and sums (R189, R190, R208 to R210). -/
def Context.landCheck (c : Context) (f : Fly) : Wr → Context
  | .check t tole ty =>
    let tile := c.w.tile t
    let point := if ty.isSome then 2 else 1
    match tile.check tole with
    | .dataErr => c.raiseData ⟨0x16, point, 0, some (f.caddr, f.slot)⟩
    | .tolerance => c.raiseData ⟨0x17, point, 0, some (f.caddr, f.slot)⟩
    | k =>
      let t1 := tile.correct k
      let t2 := match ty with
        | some y => Tile.rebase { t1 with ty := y }
        | none => t1
      { c with
        w := c.w.putTile t t2
        fixcnt := if k.fixed then
            c.fixcnt.setIfInBounds f.slot (BitVec.ofNat 32 (min ((c.fixcnt.getD f.slot 0).toNat + 1) 0xFFFFFFFF))
          else c.fixcnt }
  | _ => c

/-- Results that fall due land in order: flag clears first, then every write in the order of R24, then the checks, which
follow every write of the cycle (R146, R168, R189). -/
def Context.landAll (c : Context) (due : List Fly) : Context :=
  let c := due.foldl (fun c f => f.ws.foldl Context.landClear c) c
  let c := due.foldl (fun c f => f.ws.foldl (fun c x => c.landWr f x) c) c
  due.foldl (fun c f => f.ws.foldl (fun c x => c.landCheck f x) c) c

/-- One issue's worth of progress of the results in flight (R21). -/
def Context.advance (c : Context) : Context :=
  let fly := c.fly.map fun f => { f with left := f.left - 1 }
  ({ c with fly := fly.filter fun f => f.left != 0 } : Context).landAll (fly.filter fun f => f.left == 0)

/-- One issue's worth of progress of the results that a YIELD has marked: they land at their due cycles though the context is frozen
(R226, R227). -/
def Context.advanceMarked (c : Context) : Context :=
  let fly := c.fly.map fun f => if f.marked then { f with left := f.left - 1 } else f
  ({ c with fly := fly.filter fun f => f.left != 0 } : Context).landAll (fly.filter fun f => f.left == 0)

/-- Strides on a copy of the address registers. -/
def Arch.stride (a : Arch) (st : Vector W32 16) : Arch := { a with a := Vector.ofFn fun i => a.a[i] + st[i] }

/-- Strides that the sequencer adds in the cycle follow every landing in it, in the shadow too where the cycle's commit has covered them
(R25, R39); a verification counts the registers written (R355). -/
def Context.addStrides (c : Context) : Context :=
  match c.strides with
  | none => c
  | some (st, cov) =>
    ({ c with strides := none, w := c.w.stride st, sh := if cov then c.sh.stride st else c.sh } : Context).giveOut
      ((List.finRange 16).flatMap fun i => if st[i] = 0 then [] else [BitVec.ofNat 64 (128 + i.val), ((c.w.stride st).a[i]).setWidth 64])

end Sys2Proof.Machine
end

