-- ==== Sys2Proof/Machine/Address.lean ====
section
/-!
DEFINITION. The address slot (R77, R106 to R115): scratchpad and weight-store accesses, address registers, modifiers.
-/
namespace Sys2Proof.Machine

/-! ### Shapes -/

/-- An uncorrectable error under a scratchpad or weight-store load falls due with its result (R356); bytes of the context's
own withheld stores are good. -/
def memErrWr (s : State) (c : Context) (space base a n : Nat) : List Wr :=
  let own (i : Nat) : Option Byte :=
    if space = 1 ∧ c.buf.any (fun st => decide (st.space = .spad ∧ st.addr ≤ a + i ∧ a + i < st.addr + st.bytes.length)) then some 0 else none
  if s.ueOpen [(base + a, n)] ((List.range n).map own) then [.memErr space a] else []

/-- A scratchpad load into a scalar destination (R109). -/
def spadLoad (g : Guard) (d : Dst) (a : AReg) (m : AMode) (size : Nat) (ext : Nat → Nat) : Slot := fun s c =>
  guarded s c g do
    let (x, upd) ← addrOf s c a m
    let _ ← spadCheck s c x.toNat size size
    let c1 ← writeDst s (c.postUpd s a upd) d 5 (BitVec.ofNat 64 (ext (ofBytes (s.spadBytes c x.toNat size))))
    .ok ((c1.flyMore s 5 (memErrWr s c 1 (spadBase s.iss.core) x.toNat size)).takeIn [BitVec.ofNat 64 (ofBytes (s.spadBytes c x.toNat size))])

/-- A scratchpad store of the low bytes of D (R109). -/
def spadStore (g : Guard) (d : Src) (a : AReg) (m : AMode) (size : Nat) : Slot := fun s c =>
  guarded s c g do
    let (x, upd) ← addrOf s c a m
    let (c, v) ← readSrc s c d
    let _ ← spadCheck s c x.toNat size size
    .ok ((c.withhold (mkStore s x.toNat (toBytes size v.toNat))).postUpd s a upd)

/-- A modifier or address register takes a source (R114). -/
def addrSet (g : Guard) (a : AReg) (v : Src) (f : W32 → W32 → W32) : Slot := fun s c =>
  guarded s c g do
    let x ← readA s c a
    let (c, y) ← readSrc s c v
    .ok (c.flyAdd s 1 [.a a (f x (y.setWidth 32))])

/-! ### The instructions -/

/-- ANOP (R60): it reads no operand and has no effect. -/
def slotAnop : Slot := fun _ c => .ok c
def execAnop (s : State) : St State := runSlot slotAnop s

/-- LDS (R109). -/
def slotLds (g : Guard) (d : Dst) (a : AReg) (m : AMode) : Slot := spadLoad g d a m 8 id
def execLds (g : Guard) (d : Dst) (a : AReg) (m : AMode) (s : State) : St State := runSlot (slotLds g d a m) s

/-- LDW (R109). -/
def slotLdw (g : Guard) (d : Dst) (a : AReg) (m : AMode) : Slot := spadLoad g d a m 4 (sext 32 64)
def execLdw (g : Guard) (d : Dst) (a : AReg) (m : AMode) (s : State) : St State := runSlot (slotLdw g d a m) s

/-- LDWU (R109). -/
def slotLdwu (g : Guard) (d : Dst) (a : AReg) (m : AMode) : Slot := spadLoad g d a m 4 id
def execLdwu (g : Guard) (d : Dst) (a : AReg) (m : AMode) (s : State) : St State := runSlot (slotLdwu g d a m) s

/-- LDH (R109). -/
def slotLdh (g : Guard) (d : Dst) (a : AReg) (m : AMode) : Slot := spadLoad g d a m 2 (sext 16 64)
def execLdh (g : Guard) (d : Dst) (a : AReg) (m : AMode) (s : State) : St State := runSlot (slotLdh g d a m) s

/-- LDHU (R109). -/
def slotLdhu (g : Guard) (d : Dst) (a : AReg) (m : AMode) : Slot := spadLoad g d a m 2 id
def execLdhu (g : Guard) (d : Dst) (a : AReg) (m : AMode) (s : State) : St State := runSlot (slotLdhu g d a m) s

/-- LDB (R109). -/
def slotLdb (g : Guard) (d : Dst) (a : AReg) (m : AMode) : Slot := spadLoad g d a m 1 (sext 8 64)
def execLdb (g : Guard) (d : Dst) (a : AReg) (m : AMode) (s : State) : St State := runSlot (slotLdb g d a m) s

/-- LDBU (R109). -/
def slotLdbu (g : Guard) (d : Dst) (a : AReg) (m : AMode) : Slot := spadLoad g d a m 1 id
def execLdbu (g : Guard) (d : Dst) (a : AReg) (m : AMode) (s : State) : St State := runSlot (slotLdbu g d a m) s

/-- STS (R109). -/
def slotSts (g : Guard) (x : Src) (a : AReg) (m : AMode) : Slot := spadStore g x a m 8
def execSts (g : Guard) (x : Src) (a : AReg) (m : AMode) (s : State) : St State := runSlot (slotSts g x a m) s

/-- STW (R109). -/
def slotStw (g : Guard) (x : Src) (a : AReg) (m : AMode) : Slot := spadStore g x a m 4
def execStw (g : Guard) (x : Src) (a : AReg) (m : AMode) (s : State) : St State := runSlot (slotStw g x a m) s

/-- STH (R109). -/
def slotSth (g : Guard) (x : Src) (a : AReg) (m : AMode) : Slot := spadStore g x a m 2
def execSth (g : Guard) (x : Src) (a : AReg) (m : AMode) (s : State) : St State := runSlot (slotSth g x a m) s

/-- STB (R109). -/
def slotStb (g : Guard) (x : Src) (a : AReg) (m : AMode) : Slot := spadStore g x a m 1
def execStb (g : Guard) (x : Src) (a : AReg) (m : AMode) (s : State) : St State := runSlot (slotStb g x a m) s

/-- LDV (R109): writes no latch (R62). -/
def slotLdv (g : Guard) (v : VReg) (a : AReg) (m : AMode) : Slot := fun s c =>
  guarded s c g do
    let (x, upd) ← addrOf s c a m
    let _ ← spadCheck s c x.toNat 512 16
    let row := rowOfBytes (s.spadBytes c x.toNat 512)
    .ok (((c.postUpd s a upd).flyAdd s 5 ([.v v (BitVec.allOnes 4096) row]
      ++ memErrWr s c 1 (spadBase s.iss.core) x.toNat 512)).takeIn (wordsOfRow row))
def execLdv (g : Guard) (v : VReg) (a : AReg) (m : AMode) (s : State) : St State := runSlot (slotLdv g v a m) s

/-- STV (R109). -/
def slotStv (g : Guard) (v : VReg) (a : AReg) (m : AMode) : Slot := fun s c =>
  guarded s c g do
    let (x, upd) ← addrOf s c a m
    let row ← readV s c v
    let _ ← spadCheck s c x.toNat 512 16
    .ok ((c.withhold (mkStore s x.toNat (bytesOfRow row))).postUpd s a upd)
def execStv (g : Guard) (v : VReg) (a : AReg) (m : AMode) (s : State) : St State := runSlot (slotStv g v a m) s

/-- WLDS (R109, R113, R258). -/
def slotWlds (g : Guard) (d : Dst) (a : AReg) (m : AMode) : Slot := fun s c =>
  guarded s c g do
    let (x, upd) ← addrOf s c a m
    let _ ← wsCheck s c x.toNat 8 8
    if s.refreshing s.issDie x.toNat then freezeFor .refresh
    else do
      let w := BitVec.ofNat 64 (s.mem.num (wsBase s.issDie + x.toNat) 8)
      let c1 ← writeDst s (c.postUpd s a upd) d 5 w
      .ok ((c1.flyMore s 5 (memErrWr s c 2 (wsBase s.issDie) x.toNat 8)).takeIn [w])
def execWlds (g : Guard) (d : Dst) (a : AReg) (m : AMode) (s : State) : St State := runSlot (slotWlds g d a m) s

/-- WLDV (R109, R113, R257, R258): writes no latch (R62). -/
def slotWldv (g : Guard) (v : VReg) (a : AReg) (m : AMode) : Slot := fun s c =>
  guarded s c g do
    let (x, upd) ← addrOf s c a m
    let _ ← wsCheck s c x.toNat 512 512
    if s.refreshing s.issDie x.toNat then freezeFor .refresh
    else do
      let row := rowOfBytes (s.mem.read (wsBase s.issDie + x.toNat) 512)
      .ok (((c.postUpd s a upd).flyAdd s 5 ([.v v (BitVec.allOnes 4096) row]
        ++ memErrWr s c 2 (wsBase s.issDie) x.toNat 512)).takeIn (wordsOfRow row))
def execWldv (g : Guard) (v : VReg) (a : AReg) (m : AMode) (s : State) : St State := runSlot (slotWldv g v a m) s

/-- AADD (R114). -/
def slotAadd (g : Guard) (a : AReg) (x : Src) : Slot := addrSet g a x (fun p q => p + q)
def execAadd (g : Guard) (a : AReg) (x : Src) (s : State) : St State := runSlot (slotAadd g a x) s

/-- AMOV (R114). -/
def slotAmov (g : Guard) (a : AReg) (x : Src) : Slot := fun s c =>
  guarded s c g do
    let (c, y) ← readSrc s c x
    .ok (c.flyAdd s 1 [.a a (y.setWidth 32)])
def execAmov (g : Guard) (a : AReg) (x : Src) (s : State) : St State := runSlot (slotAmov g a x) s

/-- AGET (R114). -/
def slotAget (g : Guard) (d : Dst) (a : AReg) : Slot := fun s c =>
  guarded s c g do
    let x ← readA s c a
    writeDst s c d 1 (x.setWidth 64)
def execAget (g : Guard) (d : Dst) (a : AReg) (s : State) : St State := runSlot (slotAget g d a) s

/-- MSET (R107, R114). -/
def slotMset (g : Guard) (m : MReg) (x : Src) : Slot := fun s c =>
  guarded s c g do
    let (c, y) ← readSrc s c x
    .ok (c.flyAdd s 1 [.m m (modStore y)])
def execMset (g : Guard) (m : MReg) (x : Src) (s : State) : St State := runSlot (slotMset g m x) s

/-- MGET (R114). -/
def slotMget (g : Guard) (d : Dst) (m : MReg) : Slot := fun s c =>
  guarded s c g do
    let x ← readM s c m
    writeDst s c d 1 x
def execMget (g : Guard) (d : Dst) (m : MReg) (s : State) : St State := runSlot (slotMget g d m) s

/-- LEA (R114). -/
def slotLea (g : Guard) (d : Dst) (a : AReg) (m : AMode) : Slot := fun s c =>
  guarded s c g do
    let (x, upd) ← addrOf s c a m
    writeDst s (c.postUpd s a upd) d 1 (x.setWidth 64)
def execLea (g : Guard) (d : Dst) (a : AReg) (m : AMode) (s : State) : St State := runSlot (slotLea g d a m) s

/-- ACMPLT (R115). -/
def slotAcmplt (g : Guard) (d : GReg) (n : BitNo) (a : AReg) : Slot := fun s c =>
  guarded s c g do
    let y ← readG s c d
    let x ← readA s c a
    writeBit s c d n 1 (decide (x.toNat < y.toNat % 2 ^ 32))
def execAcmplt (g : Guard) (d : GReg) (n : BitNo) (a : AReg) (s : State) : St State := runSlot (slotAcmplt g d n a) s

/-- CLRV (R109). -/
def slotClrv (g : Guard) (a : AReg) (m : AMode) : Slot := fun s c =>
  guarded s c g do
    let (x, upd) ← addrOf s c a m
    let _ ← spadCheck s c x.toNat 512 16
    .ok ((c.withhold (mkStore s x.toNat (List.replicate 512 0))).postUpd s a upd)
def execClrv (g : Guard) (a : AReg) (m : AMode) (s : State) : St State := runSlot (slotClrv g a m) s

end Sys2Proof.Machine
end

