-- ==== Sys2Proof/WellFormed.lean ====
section
/-!
DEFINITION. The single-slot checks that the operand types do not already make impossible (R84: checks 0x05, 0x06 and
0x09 as far as they concern one slot). A well-formed instruction is one that registration accepts in its slot.
-/
namespace Sys2Proof

/-- The control and status register numbers of the directory of R17 (R16, check 0x09). -/
def csrListed (n : CsrNo) : Bool :=
  let v := n.toNat
  v ≤ 3 || (0x10 ≤ v && v ≤ 0x13) || (0x20 ≤ v && v ≤ 0x23) || (0x30 ≤ v && v ≤ 0x37) || (0x40 ≤ v && v ≤ 0x47)
    || v == 0x50 || v == 0x60 || v == 0x70 || (0x80 ≤ v && v ≤ 0x85) || (0x88 ≤ v && v ≤ 0x8D)
    || (0x90 ≤ v && v ≤ 0x95) || (0x98 ≤ v && v ≤ 0x9D) || (0x100 ≤ v && v ≤ 0x15F)

/-- What registration demands of one slot's instruction beyond the ranges that its operand types carry. The pool may
stand only in a second source (R61, R64), a pair starts at an even register (R68, R172, R275), a scope other than
strand needs an order (R268), a fence has an order (R277), and a register number of R16 is a listed one. -/
def Instr.wellFormed : Instr → Bool
  | .bnop => true
  | .b _ _ _ _ => true
  | .bA _ _ _ _ => true
  | .br _ _ _ _ => true
  | .brA _ _ _ _ => true
  | .call _ _ => true
  | .callr _ _ => true
  | .bvu _ _ _ => true
  | .bvuA _ _ _ => true
  | .loop _ _ => true
  | .loopi _ _ => true
  | .loopm _ _ _ => true
  | .loopmi _ _ _ => true
  | .lexit _ _ _ => true
  | .exit => true
  | .trap _ => true
  | .snop => true
  | .add _ _ a _ => !a.isPool
  | .sub _ _ a _ => !a.isPool
  | .adds _ _ a _ => !a.isPool
  | .subs _ _ a _ => !a.isPool
  | .addus _ _ a _ => !a.isPool
  | .subus _ _ a _ => !a.isPool
  | .adc _ _ _ _ _ _ _ => true
  | .sbc _ _ _ _ _ _ _ => true
  | .mul _ _ a _ => !a.isPool
  | .mulh _ _ a _ => !a.isPool
  | .mulhu _ _ a _ => !a.isPool
  | .madc _ d _ _ _ _ _ => decide (d.val % 2 = 0)
  | .div _ _ a _ => !a.isPool
  | .divu _ _ a _ => !a.isPool
  | .rem _ _ a _ => !a.isPool
  | .remu _ _ a _ => !a.isPool
  | .and _ _ a _ => !a.isPool
  | .or _ _ a _ => !a.isPool
  | .xor _ _ a _ => !a.isPool
  | .andn _ _ a _ => !a.isPool
  | .orn _ _ a _ => !a.isPool
  | .shl _ _ a _ => !a.isPool
  | .shr _ _ a _ => !a.isPool
  | .sra _ _ a _ => !a.isPool
  | .rol _ _ a _ => !a.isPool
  | .clz _ _ a => !a.isPool
  | .ctz _ _ a => !a.isPool
  | .popc _ _ a => !a.isPool
  | .bext _ _ a _ _ => !a.isPool
  | .bins _ _ a _ _ => !a.isPool
  | .sext _ _ a _ => !a.isPool
  | .zext _ _ a _ => !a.isPool
  | .cmpeq _ _ _ a _ => !a.isPool
  | .cmpne _ _ _ a _ => !a.isPool
  | .cmplt _ _ _ a _ => !a.isPool
  | .cmple _ _ _ a _ => !a.isPool
  | .cmpltu _ _ _ a _ => !a.isPool
  | .cmpleu _ _ _ a _ => !a.isPool
  | .min _ _ a _ => !a.isPool
  | .max _ _ a _ => !a.isPool
  | .minu _ _ a _ => !a.isPool
  | .maxu _ _ a _ => !a.isPool
  | .movi _ _ _ => true
  | .movk _ _ hw _ => decide (hw.val < 4)
  | .mfs _ _ csr => csrListed csr
  | .mts _ a csr => !a.isPool && csrListed csr
  | .movb _ _ _ _ a _ => !a.isPool
  | .fadd _ _ a _ _ => !a.isPool
  | .fsub _ _ a _ _ => !a.isPool
  | .fmul _ _ a _ _ => !a.isPool
  | .fma _ _ a _ _ => !a.isPool
  | .fmin _ _ a _ _ => !a.isPool
  | .fmax _ _ a _ _ => !a.isPool
  | .fminnum _ _ a _ _ => !a.isPool
  | .fmaxnum _ _ a _ _ => !a.isPool
  | .fcmpeq _ _ _ a _ => !a.isPool
  | .fcmplt _ _ _ a _ => !a.isPool
  | .fcmple _ _ _ a _ => !a.isPool
  | .fcmpun _ _ _ a _ => !a.isPool
  | .fcvtif _ _ a _ => !a.isPool
  | .fcvtfi _ _ a _ => !a.isPool
  | .fcvtf _ _ a k _ => !a.isPool && decide (k.val < 4)
  | .fclass _ _ a => !a.isPool
  | .anop => true
  | .lds _ _ _ _ => true
  | .ldw _ _ _ _ => true
  | .ldwu _ _ _ _ => true
  | .ldh _ _ _ _ => true
  | .ldhu _ _ _ _ => true
  | .ldb _ _ _ _ => true
  | .ldbu _ _ _ _ => true
  | .sts _ _ _ _ => true
  | .stw _ _ _ _ => true
  | .sth _ _ _ _ => true
  | .stb _ _ _ _ => true
  | .ldv _ _ _ _ => true
  | .stv _ _ _ _ => true
  | .wlds _ _ _ _ => true
  | .wldv _ _ _ _ => true
  | .aadd _ _ _ => true
  | .amov _ _ _ => true
  | .aget _ _ _ => true
  | .mset _ _ _ => true
  | .mget _ _ _ => true
  | .lea _ _ _ _ => true
  | .acmplt _ _ _ _ => true
  | .clrv _ _ _ => true
  | .vnop => true
  | .vmov _ _ a => !a.isPool
  | .vadd _ _ a _ => !a.isPool
  | .vsub _ _ a _ => !a.isPool
  | .vadds _ _ a _ => !a.isPool
  | .vsubs _ _ a _ => !a.isPool
  | .vaddus _ _ a _ => !a.isPool
  | .vsubus _ _ a _ => !a.isPool
  | .vmul _ _ a _ _ => !a.isPool
  | .vmulh _ _ a _ => !a.isPool
  | .vmulhu _ _ a _ => !a.isPool
  | .vmulw _ _ a _ _ _ => !a.isPool
  | .vmacw _ _ a _ _ _ _ => !a.isPool
  | .vdot4 _ _ a _ _ _ _ => !a.isPool
  | .vmadc _ d a _ _ _ => !a.isPool && decide (d.val % 2 = 0)
  | .vadc _ _ a _ _ _ => !a.isPool
  | .vsbc _ _ a _ _ _ => !a.isPool
  | .vabs _ _ a _ => !a.isPool
  | .vneg _ _ a _ => !a.isPool
  | .vmini _ _ a _ => !a.isPool
  | .vmaxi _ _ a _ => !a.isPool
  | .vminu _ _ a _ => !a.isPool
  | .vmaxu _ _ a _ => !a.isPool
  | .vclamp _ _ a _ => !a.isPool
  | .vavg _ _ a _ => !a.isPool
  | .vavgu _ _ a _ => !a.isPool
  | .vabd _ _ a _ => !a.isPool
  | .vabdu _ _ a _ => !a.isPool
  | .vand _ _ a _ => !a.isPool
  | .vor _ _ a _ => !a.isPool
  | .vxor _ _ a _ => !a.isPool
  | .vandn _ _ a _ => !a.isPool
  | .vbitsel _ _ a _ => !a.isPool
  | .vshl _ _ a _ _ => !a.isPool
  | .vshr _ _ a _ => !a.isPool
  | .vsra _ _ a _ => !a.isPool
  | .vrol _ _ a _ => !a.isPool
  | .vclz _ _ a => !a.isPool
  | .vpopc _ _ a => !a.isPool
  | .vbext _ _ a _ _ => !a.isPool
  | .vbins _ _ a _ _ => !a.isPool
  | .vsext _ _ a _ => !a.isPool
  | .vzext _ _ a _ => !a.isPool
  | .vrev _ _ a => !a.isPool
  | .vbswap _ _ a => !a.isPool
  | .vcmpeq _ _ a _ => !a.isPool
  | .vcmpne _ _ a _ => !a.isPool
  | .vcmplt _ _ a _ => !a.isPool
  | .vcmple _ _ a _ => !a.isPool
  | .vcmpltu _ _ a _ => !a.isPool
  | .vcmpleu _ _ a _ => !a.isPool
  | .vsel _ _ a _ => !a.isPool
  | .vfadd _ _ a _ _ => !a.isPool
  | .vfsub _ _ a _ _ => !a.isPool
  | .vfmul _ _ a _ _ => !a.isPool
  | .vfma _ _ a _ _ => !a.isPool
  | .vfms _ _ a _ _ => !a.isPool
  | .vfnma _ _ a _ _ => !a.isPool
  | .vfmaw _ _ a _ _ _ _ => !a.isPool
  | .vfabs _ _ a => !a.isPool
  | .vfneg _ _ a => !a.isPool
  | .vmin _ _ a _ => !a.isPool
  | .vmax _ _ a _ => !a.isPool
  | .vminnum _ _ a _ => !a.isPool
  | .vmaxnum _ _ a _ => !a.isPool
  | .vfclamp _ _ a _ => !a.isPool
  | .vfrnd _ _ a _ => !a.isPool
  | .vfclass _ _ a => !a.isPool
  | .vfcopys _ _ a _ => !a.isPool
  | .vfscale _ _ a _ _ => !a.isPool
  | .vfcmpeq _ _ a _ => !a.isPool
  | .vfcmplt _ _ a _ => !a.isPool
  | .vfcmple _ _ a _ => !a.isPool
  | .vfcmpun _ _ a _ => !a.isPool
  | .vcvtfi _ _ a _ _ _ => !a.isPool
  | .vcvtif _ _ a _ _ _ => !a.isPool
  | .vcvtff _ d a k _ _ => !a.isPool && decide (k.val < 4) && (decide (2 ≤ k.val) || d.isV)
  | .vcvtii _ d a k _ _ _ => !a.isPool && decide (k.val < 4) && (decide (k.val % 2 = 1) || d.isV)
  | .vpack _ _ a q _ _ => !a.isPool && decide (q.val < 4)
  | .vunpack _ _ a q _ => !a.isPool && decide (q.val < 4)
  | .vqnq4 _ _ a ty _ => !a.isPool && decide (ty.val < 4)
  | .vdqnq4 _ _ a => !a.isPool
  | .vrcp _ _ a _ => !a.isPool
  | .vrsqrt _ _ a _ => !a.isPool
  | .vexp2 _ _ a _ => !a.isPool
  | .vlog2 _ _ a _ => !a.isPool
  | .vscacc _ d a _ _ => decide (64 ≤ d.val) && decide (a.val < 64)
  | .vcsum _ _ => true
  | .vcsumRow _ d _ sel => decide (sel.val < 3) && d.isRow
  | .vcchk _ _ => true
  | .vredadd _ _ a => !a.isPool
  | .vredaddw _ _ a _ => !a.isPool
  | .vredfadd _ _ a _ => !a.isPool
  | .vredmin _ _ a _ => !a.isPool
  | .vredmax _ _ a _ => !a.isPool
  | .vredfmin _ _ a => !a.isPool
  | .vredfmax _ _ a => !a.isPool
  | .vredand _ _ a => !a.isPool
  | .vredor _ _ a => !a.isPool
  | .vbcast _ _ a _ => !a.isPool
  | .vperm _ _ a _ => !a.isPool
  | .vshuf _ _ a _ => !a.isPool
  | .vrotl _ _ a _ => !a.isPool
  | .vslide _ _ a _ => !a.isPool
  | .vzip _ _ a _ _ => !a.isPool
  | .vunzip _ _ a _ _ => !a.isPool
  | .vrevl _ _ a => !a.isPool
  | .vcompress _ _ a _ _ => !a.isPool
  | .vexpand _ _ a _ _ => !a.isPool
  | .vtopk _ _ a _ _ => !a.isPool
  | .viota _ _ a u => !a.isPool && (u || a == .v 0)
  | .vany _ _ _ a => !a.isPool
  | .vall _ _ _ a => !a.isPool
  | .vmcount _ _ a => !a.isPool
  | .vmskg _ _ a q => !a.isPool && decide (q.val < 4)
  | .vgmsk _ _ _ q => decide (q.val < 4)
  | .vins _ _ _ _ => true
  | .vext _ _ a _ => !a.isPool
  | .tcfg _ _ _ => true
  | .vcvt8 _ _ a q _ _ => !a.isPool && decide (q.val < 4)
  | .vcvt8w _ _ a q _ => !a.isPool && decide (q.val < 4)
  | .mnop => true
  | .mclr _ => true
  | .mpush _ _ _ => true
  | .macc _ _ _ => true
  | .mshift _ _ => true
  | .mdrain _ _ => true
  | .mswap => true
  | .mcfg pa pb => decide (pa.val < 4) && decide (pb.val < 4)
  | .xnop => true
  | .ldg _ _ _ size acq scope => decide (size.val < 4) && (acq || scope == .strand)
  | .ldgu _ _ _ size acq scope => decide (size.val < 4) && (acq || scope == .strand)
  | .ldgnc _ _ _ size acq scope => decide (size.val < 4) && (acq || scope == .strand)
  | .stg _ _ _ size rel scope => decide (size.val < 4) && (rel || scope == .strand)
  | .ldgv _ _ _ acq scope => acq || scope == .strand
  | .stgv _ _ _ rel scope => rel || scope == .strand
  | .prefg _ _ => true
  | .atadd _ _ _ _ ord scope => ord != .rlx || scope == .strand
  | .atmin _ _ _ _ ord scope => ord != .rlx || scope == .strand
  | .atmax _ _ _ _ ord scope => ord != .rlx || scope == .strand
  | .atminu _ _ _ _ ord scope => ord != .rlx || scope == .strand
  | .atmaxu _ _ _ _ ord scope => ord != .rlx || scope == .strand
  | .atand _ _ _ _ ord scope => ord != .rlx || scope == .strand
  | .ator _ _ _ _ ord scope => ord != .rlx || scope == .strand
  | .atxor _ _ _ _ ord scope => ord != .rlx || scope == .strand
  | .atxchg _ _ _ _ ord scope => ord != .rlx || scope == .strand
  | .atcas _ d _ _ ord scope => (ord != .rlx || scope == .strand) && decide (d.val % 2 = 0)
  | .atfadd _ _ _ ord scope => ord != .rlx || scope == .strand
  | .atfmax _ _ _ ord scope => ord != .rlx || scope == .strand
  | .fence _ ord _ => ord != .rlx
  | .ldfe _ _ _ size _ => decide (size.val < 4)
  | .stfe _ _ _ size => decide (size.val < 4)
  | .feset _ _ _ _ => true
  | .fetest _ _ _ _ => true
  | .gbar _ => true
  | .sbind _ _ _ => true
  | .sunbind _ _ => true
  | .treg _ _ _ => true
  | .tunreg _ _ => true
  | .ecopy _ _ _ => true
  | .emcast _ _ _ => true
  | .egather _ _ _ => true
  | .escatter _ _ _ => true
  | .eplane _ _ _ => true
  | .efeed _ _ _ => true
  | .ewait _ _ => true
  | .etest _ _ _ _ => true
  | .qpush _ _ _ => true
  | .qpop _ _ _ => true
  | .qlen _ _ _ => true
  | .cntadd _ _ => true
  | .cntrd _ d => d.isTransfer
  | .kbind _ _ _ => true
  | .kunbind _ _ => true
  | .kstat _ d _ => d.isTransfer
  | .susp _ _ => true
  | .cres _ _ => true
  | .cresT _ _ _ => true
  | .ccopy _ _ _ => true
  | .cdrop _ _ => true
  | .cinfo _ _ _ => true
  | .kslotld _ _ _ => true
  | .kslotz _ _ => true
  | .glean _ _ => true
  | .notify _ _ => true
  | .issueBundle _ => true
  | .fixedLatencyLanding _ => true
  | .loadValueLanding _ _ => true
  | .checkpointCommit _ => true
  | .commitQueuePerform _ _ => true
  | .yield _ => true
  | .idleCoreChoice _ => true
  | .spinlimPark _ => true
  | .parkEnd _ => true
  | .qpushRetry _ => true
  | .takeRecord _ _ _ _ => true
  | .loadingComplete _ => true
  | .groupPlacement _ _ _ => true
  | .releaseAsRecord _ => true
  | .drainingEnd _ => true
  | .dataErrorVerification _ => true
  | .streamFetch _ _ => true
  | .refreshWindowAdvance _ => true
  | .patrolScrub _ => true
  | .hbmCalibration _ => true
  | .linkCalibration _ => true
  | .translationWalk _ _ _ => true
  | .homeStackPerform _ _ => true
  | .dieUpdateApply _ _ => true
  | .copyEngineTransfer _ => true
  | .planeBuildSlice _ => true
  | .feedLoaderItem _ => true
  | .feedStorerItem _ => true
  | .weightLoadOperation _ => true
  | .completionObjectLanding _ => true
  | .queueAccept _ => true
  | .queueHeadRemove _ => true
  | .heathRefill _ _ => true
  | .queueMappingTick _ => true
  | .gangEnd _ _ => true
  | .gangIdFree _ _ => true
  | .launch _ _ => true
  | .graphNodeStart _ _ => true
  | .graphNodeComplete _ _ => true
  | .sliceDeadline _ => true
  | .ckwaitExpiry _ => true
  | .groupSave _ => true
  | .restorePlacement _ => true
  | .groupRestore _ _ => true
  | .packetSend _ _ => true
  | .packetArrival _ => true
  | .refusedResend _ _ => true
  | .landingEntryMove _ _ => true
  | .remoteOperationPerform _ _ => true
  | .remoteAckArrival _ _ => true
  | .remoteFailure _ _ _ => true
  | .revokeArrival _ _ _ => true
  | .purseDecay => true
  | .shareWindowStart _ => true
  | .shareExhausted _ _ _ => true
  | .gleanBlockWrite => true
  | .estateCreate _ => true
  | .estateDestroy _ => true
  | .plotCreate _ => true
  | .plotDestroy _ => true
  | .policyWrite _ => true
  | .policyRead _ => true
  | .grant _ => true
  | .ungrant _ => true
  | .root _ => true
  | .inval _ => true
  | .handle _ => true
  | .unhandle _ => true
  | .rights _ => true
  | .preempt _ => true
  | .pair _ => true
  | .qcreate _ => true
  | .attest _ => true
  | .timeset _ => true
  | .kreg _ => true
  | .kunreg _ => true
  | .greg _ => true
  | .gunreg _ => true
  | .mcmdUnknownOp _ => true
  | .frelResume _ => true
  | .frelRefuse _ => true
  | .flogConsWrite _ _ => true
  | .floglostClear _ _ => true
  | .patrolueClear _ => true
  | .registerWrite _ _ _ _ _ => true
  | .hostWindowAccess _ _ _ => true
  | .vfEnableClear => true
  | .vfEnableSet => true
  | .functionLevelReset _ => true
  | .powerOn => true
  | .startWarmRequest => true
  | .startColdRequest => true
  | .fundamentalReset => true
  | .clockLowering _ => true
  | .landingFullReplyArrival _ _ => true
  | .wearManagementMigration _ => true
  | .msixVectorUnmask _ _ => true
  | .clockRestore _ => true

end Sys2Proof
end

