-- ==== Sys2Proof/Decode.lean ====
section
/-!
DEFINITION. Reading the bits of a slot, and writing them: the operand numbers of R61 and R64, the formats of R66 to R74,
the opcode maps of R75 to R80. The encoder stands after the decoder and is written from the same tables.
-/
namespace Sys2Proof

/-! ### Bit fields -/

/-- The fields of a word, widths given from the most significant one down. -/
def unpack : List Nat → Nat → List Nat
  | [], _ => []
  | n :: ws, w => w / 2 ^ ws.sum % 2 ^ n :: unpack ws w

/-- The word made of fields given as (value, width), the most significant first. -/
def pack : List (Nat × Nat) → Nat
  | [] => 0
  | (v, _) :: fs => v * 2 ^ (fs.map Prod.snd).sum + pack fs

/-- Why the bits of a slot are not an instruction: the registration checks of R84 that concern one slot. -/
inductive Reject where
  /-- check 0x04 -/
  | unassignedOpcode
  /-- check 0x05 -/
  | reservedField
  /-- check 0x06 -/
  | badOperand
  /-- check 0x07 -/
  | badWriteBack
  /-- check 0x09 -/
  | unlistedCsr
deriving DecidableEq, Repr

/-- The check number of R84. -/
def Reject.check : Reject → Nat
  | .unassignedOpcode => 0x04
  | .reservedField => 0x05
  | .badOperand => 0x06
  | .badWriteBack => 0x07
  | .unlistedCsr => 0x09

/-- The outcome of decoding a slot: what its reader makes of the operands, or the check that rejects the bits. -/
abbrev Dec (α : Type) := Except Reject α

/-- Go on when the condition holds, else reject. -/
def need {α : Type} (c : Bool) (r : Reject) (k : Dec α) : Dec α := if c then k else .error r

/-- Go on with the value, or reject. -/
def opt {α β : Type} (o : Option β) (r : Reject) (k : β → Dec α) : Dec α :=
  match o with
  | some x => k x
  | none => .error r

/-- A number below n. -/
def fin (n : Nat) (v : Nat) : Option (Fin n) := if h : v < n then some ⟨v, h⟩ else none

/-! ### Operand numbers -/

def guardEnc (g : Guard) : Nat := pack [(g.reg, 6), (g.bit, 6), (g.sense.toNat, 1)]

def guardDec (v : Nat) : Guard :=
  ⟨Fin.ofNat 64 (v / 128), Fin.ofNat 64 (v / 2), v % 2 == 1⟩

/-- The number of a scalar or address source (R61). -/
def srcEnc : Src → Nat
  | .g r => r
  | .b n => 64 + n
  | .s n => 80 + n
  | .k n => 96 + n
  | .pool => 127

/-- The source that a number names (R61); the pool only where `second` says so. -/
def srcDec (second : Bool) (v : Nat) : Option Src :=
  if v < 64 then some (.g (Fin.ofNat 64 v))
  else if v < 80 then some (.b (Fin.ofNat 16 (v - 64)))
  else if v < 96 then some (.s (Fin.ofNat 16 (v - 80)))
  else if v < 104 then some (.k (Fin.ofNat 8 (v - 96)))
  else if v = 127 ∧ second then some .pool
  else none

/-- W and D of a destination (R62). -/
def dstW : Dst → Nat
  | .latch _ => 0
  | _ => 1

def dstEnc : Dst → Nat
  | .g r => r
  | .s n => 80 + n
  | .k n => 96 + n
  | .latch n => n

/-- Whether a number may stand in field D (R61). -/
def dstNumOk (v : Nat) : Bool := v < 64 || (80 ≤ v && v < 104)

def dstDec (w v : Nat) : Option Dst :=
  if w = 1 then
    if v < 64 then some (.g (Fin.ofNat 64 v))
    else if 80 ≤ v ∧ v < 96 then some (.s (Fin.ofNat 16 (v - 80)))
    else if 96 ≤ v ∧ v < 104 then some (.k (Fin.ofNat 8 (v - 96)))
    else none
  else if v < 4 then some (.latch (Fin.ofNat 4 v))
  else none

/-- A destination field with its write-back bit: the number first (check 0x06), then W (check 0x07). -/
def withDst {α : Type} (w d : Nat) (k : Dst → Dec α) : Dec α :=
  need (dstNumOk d) .badOperand (opt (dstDec w d) .badWriteBack k)

/-- A destination that must be a general register with W = 1 (R62, R95). -/
def withGDst {α : Type} (w d : Nat) (k : GReg → Dec α) : Dec α :=
  opt (fin 64 d) .badOperand fun r => need (w == 1) .badWriteBack (k r)

/-- The number of a vector source (R64). -/
def vsrcEnc : VSrc → Nat
  | .v r => r
  | .vb n => 128 + n
  | .s n => 144 + n
  | .k n => 160 + n
  | .bc r => 168 + r
  | .vck t => 232 + t
  | .pool => 255

def vsrcDec (second : Bool) (v : Nat) : Option VSrc :=
  if v < 128 then some (.v (Fin.ofNat 128 v))
  else if v < 144 then some (.vb (Fin.ofNat 16 (v - 128)))
  else if v < 160 then some (.s (Fin.ofNat 16 (v - 144)))
  else if v < 168 then some (.k (Fin.ofNat 8 (v - 160)))
  else if v < 232 then some (.bc (Fin.ofNat 64 (v - 168)))
  else if v < 234 then some (.vck (Fin.ofNat 2 (v - 232)))
  else if v = 255 ∧ second then some .pool
  else none

def vdstW : VDst → Nat
  | .latch _ => 0
  | _ => 1

def vdstEnc : VDst → Nat
  | .v r => r
  | .s n => 144 + n
  | .k n => 160 + n
  | .latch n => n

def vdstNumOk (v : Nat) : Bool := v < 128 || (144 ≤ v && v < 168)

def vdstDec (w v : Nat) : Option VDst :=
  if w = 1 then
    if v < 128 then some (.v (Fin.ofNat 128 v))
    else if 144 ≤ v ∧ v < 160 then some (.s (Fin.ofNat 16 (v - 144)))
    else if 160 ≤ v ∧ v < 168 then some (.k (Fin.ofNat 8 (v - 160)))
    else none
  else if v < 8 then some (.latch (Fin.ofNat 8 v))
  else none

def withVDst {α : Type} (w d : Nat) (k : VDst → Dec α) : Dec α :=
  need (vdstNumOk d) .badOperand (opt (vdstDec w d) .badWriteBack k)

def withVReg {α : Type} (w d : Nat) (k : VReg → Dec α) : Dec α :=
  opt (fin 128 d) .badOperand fun r => need (w == 1) .badWriteBack (k r)

def withSrc1 {α : Type} (v : Nat) (k : Src → Dec α) : Dec α := opt (srcDec false v) .badOperand k
def withSrc2 {α : Type} (v : Nat) (k : Src → Dec α) : Dec α := opt (srcDec true v) .badOperand k
def withVSrc1 {α : Type} (v : Nat) (k : VSrc → Dec α) : Dec α := opt (vsrcDec false v) .badOperand k
def withVSrc2 {α : Type} (v : Nat) (k : VSrc → Dec α) : Dec α := opt (vsrcDec true v) .badOperand k
def withG {α : Type} (v : Nat) (k : GReg → Dec α) : Dec α := opt (fin 64 v) .badOperand k
def withV {α : Type} (v : Nat) (k : VReg → Dec α) : Dec α := opt (fin 128 v) .badOperand k
/-- A broadcast general register named 168 + N (R64, R170). -/
def withBc {α : Type} (v : Nat) (k : GReg → Dec α) : Dec α := opt (if 168 ≤ v then fin 64 (v - 168) else none) .badOperand k
/-- A register that must be a multiple of eight (R80). -/
def withOct {α : Type} (v : Nat) (k : Oct → Dec α) : Dec α :=
  opt (if v % 8 = 0 then fin 8 (v / 8) else none) .badOperand k
/-- An even register (R80). -/
def withEven {α : Type} (v : Nat) (k : EvenReg → Dec α) : Dec α :=
  opt (if v % 2 = 0 then fin 32 (v / 2) else none) .badOperand k

/-- A literal field below n, out of range a reserved field (check 0x05). -/
def lit {α : Type} (n v : Nat) (k : Fin n → Dec α) : Dec α := opt (fin n v) .reservedField k
/-- A field that must be zero (check 0x05). -/
def zero {α : Type} (v : Nat) (k : Dec α) : Dec α := need (v == 0) .reservedField k
def flag {α : Type} (v : Nat) (k : Bool → Dec α) : Dec α := opt (if v < 2 then some (v == 1) else none) .reservedField k

/-- The rounding codes of R69. -/
def rndEnc : Rnd → Nat
  | .dyn => 0 | .rne => 1 | .rtz => 2 | .rdn => 3 | .rup => 4 | .sr => 5

def rndDec : Nat → Option Rnd
  | 0 => some .dyn | 1 => some .rne | 2 => some .rtz | 3 => some .rdn | 4 => some .rup | 5 => some .sr
  | _ => none

def withRnd {α : Type} (v : Nat) (k : Rnd → Dec α) : Dec α := opt (rndDec v) .reservedField k

/-- The type codes of R157. -/
def ttEnc : TileType → Nat
  | .i32 => 0 | .f32 => 1 | .f32a => 2 | .i16 => 3 | .bf16 => 4 | .fp16 => 5 | .i64 => 6

def ttDec : Nat → Option TileType
  | 0 => some .i32 | 1 => some .f32 | 2 => some .f32a | 3 => some .i16 | 4 => some .bf16 | 5 => some .fp16
  | 6 => some .i64
  | _ => none

/-- The scope codes of R74. -/
def scopeEnc : Scope → Nat
  | .strand => 0 | .group => 1 | .die => 2 | .module => 3 | .tenant => 4 | .system => 5

def scopeDec : Nat → Option Scope
  | 0 => some .strand | 1 => some .group | 2 => some .die | 3 => some .module | 4 => some .tenant | 5 => some .system
  | _ => none

/-- The order codes of R74. -/
def ordEnc : Ord4 → Nat
  | .rlx => 0 | .acq => 1 | .rel => 2 | .ar => 3

def ordDec : Nat → Option Ord4
  | 0 => some .rlx | 1 => some .acq | 2 => some .rel | 3 => some .ar
  | _ => none

/-- PM of a memory operand (R71). -/
def amodePM : AMode → Nat
  | .off _ => 0 | .post _ => 1 | .postM _ => 2 | .preM _ => 3

def amodeOff : AMode → Nat
  | .off n => n.toNat | .post n => n.toNat | .postM m => m | .preM m => m

/-- A memory operand from PM and OFF: under PM 10 and 11, OFF[7:4] is 0 (R71). -/
def amodeDec (pm off : Nat) : Option AMode :=
  match pm with
  | 0 => some (.off (BitVec.ofNat 8 off))
  | 1 => some (.post (BitVec.ofNat 8 off))
  | 2 => (fin 16 off).map .postM
  | 3 => (fin 16 off).map .preM
  | _ => none

def withAMode {α : Type} (pm off : Nat) (k : AMode → Dec α) : Dec α := opt (amodeDec pm off) .reservedField k

/-! ### Formats (R66 to R74): widths of the fields, most significant first -/

def fmtSR : List Nat := [13, 6, 1, 7, 7, 7, 7]
def fmtSC : List Nat := [13, 6, 6, 6, 6, 4, 6, 1]
def fmtSI : List Nat := [13, 6, 1, 7, 21]
def fmtSK : List Nat := [13, 6, 1, 7, 2, 16, 3]
def fmtSX : List Nat := [13, 6, 1, 7, 7, 12, 2]
def fmtAD : List Nat := [13, 5, 1, 7, 4, 2, 8]
def fmtVX : List Nat := [13, 7, 1, 8, 8, 8, 3, 1, 7]
def fmtTA : List Nat := [13, 6, 7, 7, 3, 2, 2]
def fmtTE : List Nat := [13, 6, 7, 7, 7]

/-- The word of a format: its widths with the values of its fields. -/
def word (fmt : List Nat) (vs : List Nat) : Nat := pack (vs.zip fmt)

def bad {α : Type} : Dec α := .error .reservedField

/-- The optional count register of VCOMPRESS and VEXPAND in ARG (R170). -/
def optGEnc : OptG → Nat
  | none => 0
  | some r => 64 + r

/-- P of CNTRD and KSTAT: a general register, or with W = 0 a latch (R80, R62). -/
def tdstEnc : Dst → Nat
  | .g r => r
  | .latch n => n
  | .s _ => 0
  | .k _ => 0

def tdstDec (w v : Nat) : Option Dst :=
  if w = 1 then some (.g (Fin.ofNat 64 v)) else if v < 4 then some (.latch (Fin.ofNat 4 v)) else none

def withTDst {α : Type} (w v : Nat) (k : Dst → Dec α) : Dec α :=
  need (v < 64) .badOperand (opt (tdstDec w v) .badWriteBack k)


/-! ### The branch slot -/

def dB0 {α : Type} (c : α) (w : Nat) : Dec α :=
  match unpack [4, 28] w with
  | [_, z] => zero z <| .ok c
  | _ => bad

def eB0 (op : Nat) : Nat :=
  word [4, 28] [op, 0]

def dBC {α : Type} (c : GReg → BitNo → Bool → Off15 → α) (w : Nat) : Dec α :=
  match unpack [4, 6, 6, 1, 15] w with
  | [_, r, b, s, o] => .ok (c (Fin.ofNat 64 r) (Fin.ofNat 64 b) (s == 1) (BitVec.ofNat 15 o))
  | _ => bad

def eBC (op : Nat) (cr : GReg) (cb : BitNo) (cs : Bool) (off : Off15) : Nat :=
  word [4, 6, 6, 1, 15] [op, cr, cb, cs.toNat, off.toNat]

def dBCR {α : Type} (c : GReg → BitNo → Bool → GReg → α) (w : Nat) : Dec α :=
  match unpack [4, 6, 6, 1, 6, 9] w with
  | [_, r, b, s, t, z] => zero z <| .ok (c (Fin.ofNat 64 r) (Fin.ofNat 64 b) (s == 1) (Fin.ofNat 64 t))
  | _ => bad

def eBCR (op : Nat) (cr : GReg) (cb : BitNo) (cs : Bool) (tr : GReg) : Nat :=
  word [4, 6, 6, 1, 6, 9] [op, cr, cb, cs.toNat, tr, 0]

def dBCALL {α : Type} (c : GReg → Off15 → α) (w : Nat) : Dec α :=
  match unpack [4, 6, 7, 15] w with
  | [_, r, z, o] => zero z <| .ok (c (Fin.ofNat 64 r) (BitVec.ofNat 15 o))
  | _ => bad

def eBCALL (op : Nat) (lr : GReg) (off : Off15) : Nat :=
  word [4, 6, 7, 15] [op, lr, 0, off.toNat]

def dBCALLR {α : Type} (c : GReg → GReg → α) (w : Nat) : Dec α :=
  match unpack [4, 6, 7, 6, 9] w with
  | [_, r, z, t, y] => zero z <| zero y <| .ok (c (Fin.ofNat 64 r) (Fin.ofNat 64 t))
  | _ => bad

def eBCALLR (op : Nat) (lr : GReg) (tr : GReg) : Nat :=
  word [4, 6, 7, 6, 9] [op, lr, 0, tr, 0]

def dBV {α : Type} (c : VReg → Bool → Off15 → α) (w : Nat) : Dec α :=
  match unpack [4, 7, 5, 1, 15] w with
  | [_, v, z, s, o] => zero z <| .ok (c (Fin.ofNat 128 v) (s == 1) (BitVec.ofNat 15 o))
  | _ => bad

def eBV (op : Nat) (vr : VReg) (cs : Bool) (off : Off15) : Nat :=
  word [4, 7, 5, 1, 15] [op, vr, 0, cs.toNat, off.toNat]

def dBLOOP {α : Type} (c : GReg → Off15 → α) (w : Nat) : Dec α :=
  match unpack [4, 6, 7, 15] w with
  | [_, r, z, o] => zero z <| .ok (c (Fin.ofNat 64 r) (BitVec.ofNat 15 o))
  | _ => bad

def eBLOOP (op : Nat) (tg : GReg) (off : Off15) : Nat :=
  word [4, 6, 7, 15] [op, tg, 0, off.toNat]

def dBLOOPI {α : Type} (c : Trip → Off15 → α) (w : Nat) : Dec α :=
  match unpack [4, 12, 1, 15] w with
  | [_, t, z, o] => zero z <| .ok (c (BitVec.ofNat 12 t) (BitVec.ofNat 15 o))
  | _ => bad

def eBLOOPI (op : Nat) (trip : Trip) (off : Off15) : Nat :=
  word [4, 12, 1, 15] [op, trip.toNat, 0, off.toNat]

def dBLOOPM {α : Type} (c : GReg → Ii → Sc → α) (w : Nat) : Dec α :=
  match unpack [4, 6, 8, 3, 11] w with
  | [_, r, i, k, z] => zero z <| .ok (c (Fin.ofNat 64 r) (BitVec.ofNat 8 i) (Fin.ofNat 8 k))
  | _ => bad

def eBLOOPM (op : Nat) (tg : GReg) (ii : Ii) (sc : Sc) : Nat :=
  word [4, 6, 8, 3, 11] [op, tg, ii.toNat, sc, 0]

def dBLOOPMI {α : Type} (c : Trip → Ii → Sc → α) (w : Nat) : Dec α :=
  match unpack [4, 12, 8, 3, 5] w with
  | [_, t, i, k, z] => zero z <| .ok (c (BitVec.ofNat 12 t) (BitVec.ofNat 8 i) (Fin.ofNat 8 k))
  | _ => bad

def eBLOOPMI (op : Nat) (trip : Trip) (ii : Ii) (sc : Sc) : Nat :=
  word [4, 12, 8, 3, 5] [op, trip.toNat, ii.toNat, sc, 0]

def dBLX {α : Type} (c : GReg → BitNo → Bool → α) (w : Nat) : Dec α :=
  match unpack [4, 6, 6, 1, 15] w with
  | [_, r, b, s, z] => zero z <| .ok (c (Fin.ofNat 64 r) (Fin.ofNat 64 b) (s == 1))
  | _ => bad

def eBLX (op : Nat) (cr : GReg) (cb : BitNo) (cs : Bool) : Nat :=
  word [4, 6, 6, 1, 15] [op, cr, cb, cs.toNat, 0]

def dBTRAP {α : Type} (c : Imm16 → α) (w : Nat) : Dec α :=
  match unpack [4, 12, 16] w with
  | [_, z, k] => zero z <| .ok (c (BitVec.ofNat 16 k))
  | _ => bad

def eBTRAP (op : Nat) (code : Imm16) : Nat :=
  word [4, 12, 16] [op, 0, code.toNat]

/-! ### The scalar slot -/

/-- The no-operation is the all-zero word (R60). -/
def dSNOP {α : Type} (c : α) (w : Nat) : Dec α :=
  match unpack fmtSR w with
  | [g, _, W, d, a, b, f] => zero g <| zero W <| zero d <| zero a <| zero b <| zero f <| .ok c
  | _ => bad

def eSNOP (op : Nat) : Nat :=
  word fmtSR [0, op, 0, 0, 0, 0, 0]

def dS2 {α : Type} (c : Guard → Dst → Src → Src → α) (w : Nat) : Dec α :=
  match unpack fmtSR w with
  | [g, _, W, d, a, b, f] => zero f <| withSrc1 a fun a => withSrc2 b fun b => withDst W d fun d => .ok (c (guardDec g) d a b)
  | _ => bad

def eS2 (op : Nat) (g : Guard) (d : Dst) (a : Src) (b : Src) : Nat :=
  word fmtSR [guardEnc g, op, dstW d, dstEnc d, srcEnc a, srcEnc b, 0]

def dSCAR {α : Type} (c : Guard → GReg → GReg → GReg → CarryReg → BitNo → Bool → α) (w : Nat) : Dec α :=
  match unpack fmtSC w with
  | [g, _, d, a, b, cf, p, z] => .ok (c (guardDec g) (Fin.ofNat 64 d) (Fin.ofNat 64 a) (Fin.ofNat 64 b) (Fin.ofNat 16 cf) (Fin.ofNat 64 p) (z == 1))
  | _ => bad

def eSCAR (op : Nat) (g : Guard) (d : GReg) (a : GReg) (b : GReg) (cy : CarryReg) (p : BitNo) (z : Bool) : Nat :=
  word fmtSC [guardEnc g, op, d, a, b, cy, p, z.toNat]

def dSMADC {α : Type} (c : Guard → GReg → GReg → GReg → CarryReg → BitNo → Bool → α) (w : Nat) : Dec α :=
  match unpack fmtSC w with
  | [g, _, d, a, b, cf, p, z] => need (d % 2 == 0) .badOperand <| .ok (c (guardDec g) (Fin.ofNat 64 d) (Fin.ofNat 64 a) (Fin.ofNat 64 b) (Fin.ofNat 16 cf) (Fin.ofNat 64 p) (z == 1))
  | _ => bad

def eSMADC (op : Nat) (g : Guard) (d : GReg) (a : GReg) (b : GReg) (cy : CarryReg) (p : BitNo) (z : Bool) : Nat :=
  word fmtSC [guardEnc g, op, d, a, b, cy, p, z.toNat]

def dS1 {α : Type} (c : Guard → Dst → Src → α) (w : Nat) : Dec α :=
  match unpack fmtSR w with
  | [g, _, W, d, a, b, f] => zero f <| zero b <| withSrc1 a fun a => withDst W d fun d => .ok (c (guardDec g) d a)
  | _ => bad

def eS1 (op : Nat) (g : Guard) (d : Dst) (a : Src) : Nat :=
  word fmtSR [guardEnc g, op, dstW d, dstEnc d, srcEnc a, 0, 0]

def dSBEXT {α : Type} (c : Guard → Dst → Src → Src → BitNo → α) (w : Nat) : Dec α :=
  match unpack fmtSR w with
  | [g, _, W, d, a, b, f] => lit 64 f fun f => withSrc1 a fun a => withSrc2 b fun b => withDst W d fun d => .ok (c (guardDec g) d a b f)
  | _ => bad

def eSBEXT (op : Nat) (g : Guard) (d : Dst) (a : Src) (b : Src) (f : BitNo) : Nat :=
  word fmtSR [guardEnc g, op, dstW d, dstEnc d, srcEnc a, srcEnc b, f]

def dSBINS {α : Type} (c : Guard → GReg → Src → Src → BitNo → α) (w : Nat) : Dec α :=
  match unpack fmtSR w with
  | [g, _, W, d, a, b, f] => lit 64 f fun f => withSrc1 a fun a => withSrc2 b fun b => withGDst W d fun d => .ok (c (guardDec g) d a b f)
  | _ => bad

def eSBINS (op : Nat) (g : Guard) (d : GReg) (a : Src) (b : Src) (f : BitNo) : Nat :=
  word fmtSR [guardEnc g, op, 1, d, srcEnc a, srcEnc b, f]

def dSEXF {α : Type} (c : Guard → Dst → Src → BitNo → α) (w : Nat) : Dec α :=
  match unpack fmtSR w with
  | [g, _, W, d, a, b, f] => lit 64 f fun f => zero b <| withSrc1 a fun a => withDst W d fun d => .ok (c (guardDec g) d a f)
  | _ => bad

def eSEXF (op : Nat) (g : Guard) (d : Dst) (a : Src) (f : BitNo) : Nat :=
  word fmtSR [guardEnc g, op, dstW d, dstEnc d, srcEnc a, 0, f]

def dSCMP {α : Type} (c : Guard → GReg → BitNo → Src → Src → α) (w : Nat) : Dec α :=
  match unpack fmtSR w with
  | [g, _, W, d, a, b, f] => lit 64 f fun n => withSrc1 a fun a => withSrc2 b fun b => withGDst W d fun d => .ok (c (guardDec g) d n a b)
  | _ => bad

def eSCMP (op : Nat) (g : Guard) (d : GReg) (n : BitNo) (a : Src) (b : Src) : Nat :=
  word fmtSR [guardEnc g, op, 1, d, srcEnc a, srcEnc b, n]

def dSMOVI {α : Type} (c : Guard → Dst → Imm21 → α) (w : Nat) : Dec α :=
  match unpack fmtSI w with
  | [g, _, W, d, i] => withDst W d fun d => .ok (c (guardDec g) d (BitVec.ofNat 21 i))
  | _ => bad

def eSMOVI (op : Nat) (g : Guard) (d : Dst) (imm : Imm21) : Nat :=
  word fmtSI [guardEnc g, op, dstW d, dstEnc d, imm.toNat]

def dSMOVK {α : Type} (c : Guard → GReg → Code4 → Imm16 → α) (w : Nat) : Dec α :=
  match unpack fmtSK w with
  | [g, _, W, d, h, i, z] => zero z <| withGDst W d fun d => .ok (c (guardDec g) d (Fin.ofNat 16 h) (BitVec.ofNat 16 i))
  | _ => bad

def eSMOVK (op : Nat) (g : Guard) (d : GReg) (hw : Code4) (imm : Imm16) : Nat :=
  word fmtSK [guardEnc g, op, 1, d, hw, imm.toNat, 0]

def dSMFS {α : Type} (c : Guard → Dst → CsrNo → α) (w : Nat) : Dec α :=
  match unpack fmtSX w with
  | [g, _, W, d, a, n, z] => zero z <| zero a <| withDst W d fun d => need (csrListed (BitVec.ofNat 12 n)) .unlistedCsr <| .ok (c (guardDec g) d (BitVec.ofNat 12 n))
  | _ => bad

def eSMFS (op : Nat) (g : Guard) (d : Dst) (csr : CsrNo) : Nat :=
  word fmtSX [guardEnc g, op, dstW d, dstEnc d, 0, csr.toNat, 0]

def dSMTS {α : Type} (c : Guard → Src → CsrNo → α) (w : Nat) : Dec α :=
  match unpack fmtSX w with
  | [g, _, W, d, a, n, z] => zero z <| zero d <| zero W <| withSrc1 a fun a => need (csrListed (BitVec.ofNat 12 n)) .unlistedCsr <| .ok (c (guardDec g) a (BitVec.ofNat 12 n))
  | _ => bad

def eSMTS (op : Nat) (g : Guard) (a : Src) (csr : CsrNo) : Nat :=
  word fmtSX [guardEnc g, op, 0, 0, srcEnc a, csr.toNat, 0]

def dSMOVB {α : Type} (c : Guard → GReg → BitNo → Bool → Src → BitNo → α) (w : Nat) : Dec α :=
  match unpack fmtSR w with
  | [g, _, W, d, a, b, f] => lit 64 b fun bit => withSrc1 a fun a => withGDst W d fun d => .ok (c (guardDec g) d (Fin.ofNat 64 f) (f / 64 == 1) a bit)
  | _ => bad

def eSMOVB (op : Nat) (g : Guard) (d : GReg) (n : BitNo) (inv : Bool) (a : Src) (bit : BitNo) : Nat :=
  word fmtSR [guardEnc g, op, 1, d, srcEnc a, bit, inv.toNat * 64 + n]

def dSF2 {α : Type} (c : Guard → Dst → Src → Src → Rnd → α) (w : Nat) : Dec α :=
  match unpack fmtSR w with
  | [g, _, W, d, a, b, f] => withRnd f fun r => withSrc1 a fun a => withSrc2 b fun b => withDst W d fun d => .ok (c (guardDec g) d a b r)
  | _ => bad

def eSF2 (op : Nat) (g : Guard) (d : Dst) (a : Src) (b : Src) (r : Rnd) : Nat :=
  word fmtSR [guardEnc g, op, dstW d, dstEnc d, srcEnc a, srcEnc b, rndEnc r]

def dSFMA {α : Type} (c : Guard → GReg → Src → Src → Rnd → α) (w : Nat) : Dec α :=
  match unpack fmtSR w with
  | [g, _, W, d, a, b, f] => withRnd f fun r => withSrc1 a fun a => withSrc2 b fun b => withGDst W d fun d => .ok (c (guardDec g) d a b r)
  | _ => bad

def eSFMA (op : Nat) (g : Guard) (d : GReg) (a : Src) (b : Src) (r : Rnd) : Nat :=
  word fmtSR [guardEnc g, op, 1, d, srcEnc a, srcEnc b, rndEnc r]

def dSF1 {α : Type} (c : Guard → Dst → Src → Rnd → α) (w : Nat) : Dec α :=
  match unpack fmtSR w with
  | [g, _, W, d, a, b, f] => withRnd f fun r => zero b <| withSrc1 a fun a => withDst W d fun d => .ok (c (guardDec g) d a r)
  | _ => bad

def eSF1 (op : Nat) (g : Guard) (d : Dst) (a : Src) (r : Rnd) : Nat :=
  word fmtSR [guardEnc g, op, dstW d, dstEnc d, srcEnc a, 0, rndEnc r]

def dSFCVTF {α : Type} (c : Guard → Dst → Src → Code4 → Rnd → α) (w : Nat) : Dec α :=
  match unpack fmtSR w with
  | [g, _, W, d, a, b, f] => zero (f / 32) <| withRnd (f % 8) fun r => zero b <| withSrc1 a fun a => withDst W d fun d => .ok (c (guardDec g) d a (Fin.ofNat 16 (f / 8 % 4)) r)
  | _ => bad

def eSFCVTF (op : Nat) (g : Guard) (d : Dst) (a : Src) (k : Code4) (r : Rnd) : Nat :=
  word fmtSR [guardEnc g, op, dstW d, dstEnc d, srcEnc a, 0, k % 4 * 8 + rndEnc r]

/-! ### The address slot -/

/-- The no-operation is the all-zero word (R60). -/
def dANOP {α : Type} (c : α) (w : Nat) : Dec α :=
  match unpack fmtAD w with
  | [g, _, W, d, a, pm, o] => zero g <| zero W <| zero d <| zero a <| zero pm <| zero o <| .ok c
  | _ => bad

def eANOP (op : Nat) : Nat :=
  word fmtAD [0, op, 0, 0, 0, 0, 0]

def dALD {α : Type} (c : Guard → Dst → AReg → AMode → α) (w : Nat) : Dec α :=
  match unpack fmtAD w with
  | [g, _, W, d, a, pm, o] => withAMode pm o fun m => withDst W d fun d => .ok (c (guardDec g) d (Fin.ofNat 16 a) m)
  | _ => bad

def eALD (op : Nat) (g : Guard) (d : Dst) (a : AReg) (m : AMode) : Nat :=
  word fmtAD [guardEnc g, op, dstW d, dstEnc d, a, amodePM m, amodeOff m]

/-- W = 1 on a store is check 0x07 (R84; DESIGN CHOICE, log entry 160). -/
def dAST {α : Type} (c : Guard → Src → AReg → AMode → α) (w : Nat) : Dec α :=
  match unpack fmtAD w with
  | [g, _, W, d, a, pm, o] => withAMode pm o fun m => withSrc2 d fun x => need (W == 0) .badWriteBack <| .ok (c (guardDec g) x (Fin.ofNat 16 a) m)
  | _ => bad

def eAST (op : Nat) (g : Guard) (x : Src) (a : AReg) (m : AMode) : Nat :=
  word fmtAD [guardEnc g, op, 0, srcEnc x, a, amodePM m, amodeOff m]

def dAVL {α : Type} (c : Guard → VReg → AReg → AMode → α) (w : Nat) : Dec α :=
  match unpack fmtAD w with
  | [g, _, W, d, a, pm, o] => withAMode pm o fun m => need (W == 1) .badWriteBack <| .ok (c (guardDec g) (Fin.ofNat 128 d) (Fin.ofNat 16 a) m)
  | _ => bad

def eAVL (op : Nat) (g : Guard) (v : VReg) (a : AReg) (m : AMode) : Nat :=
  word fmtAD [guardEnc g, op, 1, v, a, amodePM m, amodeOff m]

def dAVS {α : Type} (c : Guard → VReg → AReg → AMode → α) (w : Nat) : Dec α :=
  match unpack fmtAD w with
  | [g, _, W, d, a, pm, o] => withAMode pm o fun m => need (W == 0) .badWriteBack <| .ok (c (guardDec g) (Fin.ofNat 128 d) (Fin.ofNat 16 a) m)
  | _ => bad

def eAVS (op : Nat) (g : Guard) (v : VReg) (a : AReg) (m : AMode) : Nat :=
  word fmtAD [guardEnc g, op, 0, v, a, amodePM m, amodeOff m]

def dAAX {α : Type} (c : Guard → AReg → Src → α) (w : Nat) : Dec α :=
  match unpack fmtAD w with
  | [g, _, W, d, a, pm, o] => zero pm <| zero o <| withSrc2 d fun x => need (W == 0) .badWriteBack <| .ok (c (guardDec g) (Fin.ofNat 16 a) x)
  | _ => bad

def eAAX (op : Nat) (g : Guard) (a : AReg) (x : Src) : Nat :=
  word fmtAD [guardEnc g, op, 0, srcEnc x, a, 0, 0]

def dAGETS {α : Type} (c : Guard → Dst → AReg → α) (w : Nat) : Dec α :=
  match unpack fmtAD w with
  | [g, _, W, d, a, pm, o] => zero pm <| zero o <| withDst W d fun d => .ok (c (guardDec g) d (Fin.ofNat 16 a))
  | _ => bad

def eAGETS (op : Nat) (g : Guard) (d : Dst) (a : AReg) : Nat :=
  word fmtAD [guardEnc g, op, dstW d, dstEnc d, a, 0, 0]

def dAMSET {α : Type} (c : Guard → MReg → Src → α) (w : Nat) : Dec α :=
  match unpack fmtAD w with
  | [g, _, W, d, a, pm, o] => zero a <| zero pm <| lit 16 o fun m => withSrc2 d fun x => need (W == 0) .badWriteBack <| .ok (c (guardDec g) m x)
  | _ => bad

def eAMSET (op : Nat) (g : Guard) (m : MReg) (x : Src) : Nat :=
  word fmtAD [guardEnc g, op, 0, srcEnc x, 0, 0, m]

def dAMGET {α : Type} (c : Guard → Dst → MReg → α) (w : Nat) : Dec α :=
  match unpack fmtAD w with
  | [g, _, W, d, a, pm, o] => zero a <| zero pm <| lit 16 o fun m => withDst W d fun d => .ok (c (guardDec g) d m)
  | _ => bad

def eAMGET (op : Nat) (g : Guard) (d : Dst) (m : MReg) : Nat :=
  word fmtAD [guardEnc g, op, dstW d, dstEnc d, 0, 0, m]

def dACMP {α : Type} (c : Guard → GReg → BitNo → AReg → α) (w : Nat) : Dec α :=
  match unpack fmtAD w with
  | [g, _, W, d, a, pm, o] => zero pm <| lit 64 o fun n => withGDst W d fun d => .ok (c (guardDec g) d n (Fin.ofNat 16 a))
  | _ => bad

def eACMP (op : Nat) (g : Guard) (d : GReg) (n : BitNo) (a : AReg) : Nat :=
  word fmtAD [guardEnc g, op, 1, d, a, 0, n]

def dACLR {α : Type} (c : Guard → AReg → AMode → α) (w : Nat) : Dec α :=
  match unpack fmtAD w with
  | [g, _, W, d, a, pm, o] => zero W <| zero d <| withAMode pm o fun m => .ok (c (guardDec g) (Fin.ofNat 16 a) m)
  | _ => bad

def eACLR (op : Nat) (g : Guard) (a : AReg) (m : AMode) : Nat :=
  word fmtAD [guardEnc g, op, 0, 0, a, amodePM m, amodeOff m]

/-! ### The vector slot -/

/-- The no-operation is the all-zero word (R60). -/
def dVNOP {α : Type} (c : α) (w : Nat) : Dec α :=
  match unpack fmtVX w with
  | [g, _, W, d, a, b, r, t, x] => zero g <| zero W <| zero d <| zero a <| zero b <| zero r <| zero t <| zero x <| .ok c
  | _ => bad

def eVNOP (op : Nat) : Nat :=
  word fmtVX [0, op, 0, 0, 0, 0, 0, 0, 0]

def dV1 {α : Type} (c : Guard → VDst → VSrc → α) (w : Nat) : Dec α :=
  match unpack fmtVX w with
  | [g, _, W, d, a, b, r, t, x] => zero r <| zero t <| zero x <| zero b <| withVSrc1 a fun a => withVDst W d fun d => .ok (c (guardDec g) d a)
  | _ => bad

def eV1 (op : Nat) (g : Guard) (d : VDst) (a : VSrc) : Nat :=
  word fmtVX [guardEnc g, op, vdstW d, vdstEnc d, vsrcEnc a, 0, 0, 0, 0]

def dV2 {α : Type} (c : Guard → VDst → VSrc → VSrc → α) (w : Nat) : Dec α :=
  match unpack fmtVX w with
  | [g, _, W, d, a, b, r, t, x] => zero r <| zero t <| zero x <| withVSrc1 a fun a => withVSrc2 b fun b => withVDst W d fun d => .ok (c (guardDec g) d a b)
  | _ => bad

def eV2 (op : Nat) (g : Guard) (d : VDst) (a : VSrc) (b : VSrc) : Nat :=
  word fmtVX [guardEnc g, op, vdstW d, vdstEnc d, vsrcEnc a, vsrcEnc b, 0, 0, 0]

def dV2S {α : Type} (c : Guard → VDst → VSrc → VSrc → Bool → α) (w : Nat) : Dec α :=
  match unpack fmtVX w with
  | [g, _, W, d, a, b, r, t, x] => zero r <| zero x <| withVSrc1 a fun a => withVSrc2 b fun b => withVDst W d fun d => .ok (c (guardDec g) d a b (t == 1))
  | _ => bad

def eV2S (op : Nat) (g : Guard) (d : VDst) (a : VSrc) (b : VSrc) (sat : Bool) : Nat :=
  word fmtVX [guardEnc g, op, vdstW d, vdstEnc d, vsrcEnc a, vsrcEnc b, 0, sat.toNat, 0]

def dVMULWS {α : Type} (c : Guard → VDst → VSrc → VSrc → Bool → Bool → α) (w : Nat) : Dec α :=
  match unpack fmtVX w with
  | [g, _, W, d, a, b, r, t, x] => zero r <| zero t <| zero (x / 4) <| withVSrc1 a fun a => withVSrc2 b fun b => withVDst W d fun d => .ok (c (guardDec g) d a b (x % 2 == 1) (x / 2 == 1))
  | _ => bad

def eVMULWS (op : Nat) (g : Guard) (d : VDst) (a : VSrc) (b : VSrc) (h : Bool) (u : Bool) : Nat :=
  word fmtVX [guardEnc g, op, vdstW d, vdstEnc d, vsrcEnc a, vsrcEnc b, 0, 0, u.toNat * 2 + h.toNat]

def dVMACWS {α : Type} (c : Guard → VReg → VSrc → VSrc → Bool → Bool → Bool → α) (w : Nat) : Dec α :=
  match unpack fmtVX w with
  | [g, _, W, d, a, b, r, t, x] => zero r <| zero (x / 4) <| withVSrc1 a fun a => withVSrc2 b fun b => withVReg W d fun d => .ok (c (guardDec g) d a b (x % 2 == 1) (x / 2 == 1) (t == 1))
  | _ => bad

def eVMACWS (op : Nat) (g : Guard) (d : VReg) (a : VSrc) (b : VSrc) (h : Bool) (u : Bool) (sat : Bool) : Nat :=
  word fmtVX [guardEnc g, op, 1, d, vsrcEnc a, vsrcEnc b, 0, sat.toNat, u.toNat * 2 + h.toNat]

def dVMADCS {α : Type} (c : Guard → VReg → VSrc → VSrc → VReg → Bool → α) (w : Nat) : Dec α :=
  match unpack fmtVX w with
  | [g, _, W, d, a, b, r, t, x] => flag r fun z => zero t <| withVSrc1 a fun a => withVSrc2 b fun b => need (d % 2 == 0) .badOperand <| withVReg W d fun d => .ok (c (guardDec g) d a b (Fin.ofNat 128 x) z)
  | _ => bad

def eVMADCS (op : Nat) (g : Guard) (d : VReg) (a : VSrc) (b : VSrc) (cy : VReg) (z : Bool) : Nat :=
  word fmtVX [guardEnc g, op, 1, d, vsrcEnc a, vsrcEnc b, z.toNat, 0, cy]

def dVCAR {α : Type} (c : Guard → VDst → VSrc → VSrc → VReg → Bool → α) (w : Nat) : Dec α :=
  match unpack fmtVX w with
  | [g, _, W, d, a, b, r, t, x] => flag r fun z => zero t <| withVSrc1 a fun a => withVSrc2 b fun b => withVDst W d fun d => .ok (c (guardDec g) d a b (Fin.ofNat 128 x) z)
  | _ => bad

def eVCAR (op : Nat) (g : Guard) (d : VDst) (a : VSrc) (b : VSrc) (cy : VReg) (z : Bool) : Nat :=
  word fmtVX [guardEnc g, op, vdstW d, vdstEnc d, vsrcEnc a, vsrcEnc b, z.toNat, 0, cy]

def dV1S {α : Type} (c : Guard → VDst → VSrc → Bool → α) (w : Nat) : Dec α :=
  match unpack fmtVX w with
  | [g, _, W, d, a, b, r, t, x] => zero r <| zero x <| zero b <| withVSrc1 a fun a => withVDst W d fun d => .ok (c (guardDec g) d a (t == 1))
  | _ => bad

def eV1S (op : Nat) (g : Guard) (d : VDst) (a : VSrc) (sat : Bool) : Nat :=
  word fmtVX [guardEnc g, op, vdstW d, vdstEnc d, vsrcEnc a, 0, 0, sat.toNat, 0]

def dV3 {α : Type} (c : Guard → VReg → VSrc → VSrc → α) (w : Nat) : Dec α :=
  match unpack fmtVX w with
  | [g, _, W, d, a, b, r, t, x] => zero r <| zero t <| zero x <| withVSrc1 a fun a => withVSrc2 b fun b => withVReg W d fun d => .ok (c (guardDec g) d a b)
  | _ => bad

def eV3 (op : Nat) (g : Guard) (d : VReg) (a : VSrc) (b : VSrc) : Nat :=
  word fmtVX [guardEnc g, op, 1, d, vsrcEnc a, vsrcEnc b, 0, 0, 0]

def dVBEXTS {α : Type} (c : Guard → VDst → VSrc → VSrc → BitNo → α) (w : Nat) : Dec α :=
  match unpack fmtVX w with
  | [g, _, W, d, a, b, r, t, x] => zero r <| zero t <| lit 64 x fun f => withVSrc1 a fun a => withVSrc2 b fun b => withVDst W d fun d => .ok (c (guardDec g) d a b f)
  | _ => bad

def eVBEXTS (op : Nat) (g : Guard) (d : VDst) (a : VSrc) (b : VSrc) (f : BitNo) : Nat :=
  word fmtVX [guardEnc g, op, vdstW d, vdstEnc d, vsrcEnc a, vsrcEnc b, 0, 0, f]

def dVBINSS {α : Type} (c : Guard → VReg → VSrc → VSrc → BitNo → α) (w : Nat) : Dec α :=
  match unpack fmtVX w with
  | [g, _, W, d, a, b, r, t, x] => zero r <| zero t <| lit 64 x fun f => withVSrc1 a fun a => withVSrc2 b fun b => withVReg W d fun d => .ok (c (guardDec g) d a b f)
  | _ => bad

def eVBINSS (op : Nat) (g : Guard) (d : VReg) (a : VSrc) (b : VSrc) (f : BitNo) : Nat :=
  word fmtVX [guardEnc g, op, 1, d, vsrcEnc a, vsrcEnc b, 0, 0, f]

def dVEXF {α : Type} (c : Guard → VDst → VSrc → BitNo → α) (w : Nat) : Dec α :=
  match unpack fmtVX w with
  | [g, _, W, d, a, b, r, t, x] => zero r <| zero t <| lit 64 x fun f => zero b <| withVSrc1 a fun a => withVDst W d fun d => .ok (c (guardDec g) d a f)
  | _ => bad

def eVEXF (op : Nat) (g : Guard) (d : VDst) (a : VSrc) (f : BitNo) : Nat :=
  word fmtVX [guardEnc g, op, vdstW d, vdstEnc d, vsrcEnc a, 0, 0, 0, f]

def dVF2 {α : Type} (c : Guard → VDst → VSrc → VSrc → Rnd → α) (w : Nat) : Dec α :=
  match unpack fmtVX w with
  | [g, _, W, d, a, b, r, t, x] => withRnd r fun r => zero t <| zero x <| withVSrc1 a fun a => withVSrc2 b fun b => withVDst W d fun d => .ok (c (guardDec g) d a b r)
  | _ => bad

def eVF2 (op : Nat) (g : Guard) (d : VDst) (a : VSrc) (b : VSrc) (r : Rnd) : Nat :=
  word fmtVX [guardEnc g, op, vdstW d, vdstEnc d, vsrcEnc a, vsrcEnc b, rndEnc r, 0, 0]

def dVF3 {α : Type} (c : Guard → VReg → VSrc → VSrc → Rnd → α) (w : Nat) : Dec α :=
  match unpack fmtVX w with
  | [g, _, W, d, a, b, r, t, x] => withRnd r fun r => zero t <| zero x <| withVSrc1 a fun a => withVSrc2 b fun b => withVReg W d fun d => .ok (c (guardDec g) d a b r)
  | _ => bad

def eVF3 (op : Nat) (g : Guard) (d : VReg) (a : VSrc) (b : VSrc) (r : Rnd) : Nat :=
  word fmtVX [guardEnc g, op, 1, d, vsrcEnc a, vsrcEnc b, rndEnc r, 0, 0]

def dVFMAWS {α : Type} (c : Guard → VReg → VSrc → VSrc → Bool → Bool → Rnd → α) (w : Nat) : Dec α :=
  match unpack fmtVX w with
  | [g, _, W, d, a, b, r, t, x] => withRnd r fun r => zero t <| zero (x / 4) <| withVSrc1 a fun a => withVSrc2 b fun b => withVReg W d fun d => .ok (c (guardDec g) d a b (x % 2 == 1) (x / 2 == 1) r)
  | _ => bad

def eVFMAWS (op : Nat) (g : Guard) (d : VReg) (a : VSrc) (b : VSrc) (h : Bool) (f : Bool) (r : Rnd) : Nat :=
  word fmtVX [guardEnc g, op, 1, d, vsrcEnc a, vsrcEnc b, rndEnc r, 0, f.toNat * 2 + h.toNat]

def dVF1 {α : Type} (c : Guard → VDst → VSrc → Rnd → α) (w : Nat) : Dec α :=
  match unpack fmtVX w with
  | [g, _, W, d, a, b, r, t, x] => withRnd r fun r => zero t <| zero x <| zero b <| withVSrc1 a fun a => withVDst W d fun d => .ok (c (guardDec g) d a r)
  | _ => bad

def eVF1 (op : Nat) (g : Guard) (d : VDst) (a : VSrc) (r : Rnd) : Nat :=
  word fmtVX [guardEnc g, op, vdstW d, vdstEnc d, vsrcEnc a, 0, rndEnc r, 0, 0]

def dVCVT {α : Type} (c : Guard → VDst → VSrc → Bool → Bool → Rnd → α) (w : Nat) : Dec α :=
  match unpack fmtVX w with
  | [g, _, W, d, a, b, r, t, x] => withRnd r fun r => zero t <| zero (x / 4) <| zero b <| withVSrc1 a fun a => withVDst W d fun d => .ok (c (guardDec g) d a (x % 2 == 1) (x / 2 == 1) r)
  | _ => bad

def eVCVT (op : Nat) (g : Guard) (d : VDst) (a : VSrc) (f : Bool) (u : Bool) (r : Rnd) : Nat :=
  word fmtVX [guardEnc g, op, vdstW d, vdstEnc d, vsrcEnc a, 0, rndEnc r, 0, u.toNat * 2 + f.toNat]

/-- A widening form accepts any RND (R165, R178; DESIGN CHOICE, log entry 170). -/
def dVCVTFFS {α : Type} (c : Guard → VDst → VSrc → Code4 → Bool → Rnd → α) (w : Nat) : Dec α :=
  match unpack fmtVX w with
  | [g, _, W, d, a, b, r, t, x] => withRnd r fun r => zero t <| zero (x / 8) <| zero b <| withVSrc1 a fun a => need (2 ≤ x % 4 || d < 128) .badOperand <| need (2 ≤ x % 4 || W == 1) .badWriteBack <| withVDst W d fun d => .ok (c (guardDec g) d a (Fin.ofNat 16 (x % 4)) (x / 4 == 1) r)
  | _ => bad

def eVCVTFFS (op : Nat) (g : Guard) (d : VDst) (a : VSrc) (k : Code4) (h : Bool) (r : Rnd) : Nat :=
  word fmtVX [guardEnc g, op, vdstW d, vdstEnc d, vsrcEnc a, 0, rndEnc r, 0, h.toNat * 4 + k % 4]

def dVCVTIIS {α : Type} (c : Guard → VDst → VSrc → Code4 → Bool → Bool → Bool → α) (w : Nat) : Dec α :=
  match unpack fmtVX w with
  | [g, _, W, d, a, b, r, t, x] => zero r <| zero (x / 16) <| zero b <| withVSrc1 a fun a => need (x % 2 == 1 || d < 128) .badOperand <| need (x % 2 == 1 || W == 1) .badWriteBack <| withVDst W d fun d => .ok (c (guardDec g) d a (Fin.ofNat 16 (x % 4)) (x / 4 % 2 == 1) (x / 8 == 1) (t == 1))
  | _ => bad

def eVCVTIIS (op : Nat) (g : Guard) (d : VDst) (a : VSrc) (k : Code4) (h : Bool) (u : Bool) (sat : Bool) : Nat :=
  word fmtVX [guardEnc g, op, vdstW d, vdstEnc d, vsrcEnc a, 0, 0, sat.toNat, u.toNat * 8 + h.toNat * 4 + k % 4]

def dVPACKS {α : Type} (c : Guard → VReg → VSrc → Code4 → Bool → Bool → α) (w : Nat) : Dec α :=
  match unpack fmtVX w with
  | [g, _, W, d, a, b, r, t, x] => zero r <| zero (x / 8) <| zero b <| withVSrc1 a fun a => withVReg W d fun d => .ok (c (guardDec g) d a (Fin.ofNat 16 (x % 4)) (x / 4 == 1) (t == 1))
  | _ => bad

def eVPACKS (op : Nat) (g : Guard) (d : VReg) (a : VSrc) (q : Code4) (u : Bool) (sat : Bool) : Nat :=
  word fmtVX [guardEnc g, op, 1, d, vsrcEnc a, 0, 0, sat.toNat, u.toNat * 4 + q % 4]

def dVQU {α : Type} (c : Guard → VDst → VSrc → Code4 → Bool → α) (w : Nat) : Dec α :=
  match unpack fmtVX w with
  | [g, _, W, d, a, b, r, t, x] => zero r <| zero t <| zero (x / 8) <| zero b <| withVSrc1 a fun a => withVDst W d fun d => .ok (c (guardDec g) d a (Fin.ofNat 16 (x % 4)) (x / 4 == 1))
  | _ => bad

def eVQU (op : Nat) (g : Guard) (d : VDst) (a : VSrc) (q : Code4) (u : Bool) : Nat :=
  word fmtVX [guardEnc g, op, vdstW d, vdstEnc d, vsrcEnc a, 0, 0, 0, u.toNat * 4 + q % 4]

def dVQNQ {α : Type} (c : Guard → VDst → VSrc → Code4 → Rnd → α) (w : Nat) : Dec α :=
  match unpack fmtVX w with
  | [g, _, W, d, a, b, r, t, x] => withRnd r fun r => zero t <| zero (x / 4) <| zero b <| withVSrc1 a fun a => withVDst W d fun d => .ok (c (guardDec g) d a (Fin.ofNat 16 x) r)
  | _ => bad

def eVQNQ (op : Nat) (g : Guard) (d : VDst) (a : VSrc) (ty : Code4) (r : Rnd) : Nat :=
  word fmtVX [guardEnc g, op, vdstW d, vdstEnc d, vsrcEnc a, 0, rndEnc r, 0, ty]

def dVSCA {α : Type} (c : Guard → VReg → VReg → VSrc → GReg → α) (w : Nat) : Dec α :=
  match unpack fmtVX w with
  | [g, _, W, d, a, b, r, t, x] => zero r <| zero t <| lit 64 x fun ga => opt (fin 64 a) .badOperand fun a => withVSrc2 b fun b => need (64 ≤ d) .badOperand <| withVReg W d fun d => .ok (c (guardDec g) d ⟨a.val, by omega⟩ b ga)
  | _ => bad

def eVSCA (op : Nat) (g : Guard) (d : VReg) (a : VReg) (b : VSrc) (ga : GReg) : Nat :=
  word fmtVX [guardEnc g, op, 1, d, a, vsrcEnc b, 0, 0, ga]

def dVCK {α : Type} (c : Guard → TileNo → α) (w : Nat) : Dec α :=
  match unpack fmtVX w with
  | [g, _, W, d, a, b, r, t, x] => zero r <| zero t <| zero x <| zero W <| zero d <| zero b <| need (a == 232 || a == 233) .badOperand <| .ok (c (guardDec g) (Fin.ofNat 2 (a - 232)))
  | _ => bad

def eVCK (op : Nat) (g : Guard) (t : TileNo) : Nat :=
  word fmtVX [guardEnc g, op, 0, 0, 232 + t, 0, 0, 0, 0]

def dVRU {α : Type} (c : Guard → VDst → VSrc → Bool → α) (w : Nat) : Dec α :=
  match unpack fmtVX w with
  | [g, _, W, d, a, b, r, t, x] => zero r <| zero t <| zero (x / 2) <| zero b <| withVSrc1 a fun a => withVDst W d fun d => .ok (c (guardDec g) d a (x == 1))
  | _ => bad

def eVRU (op : Nat) (g : Guard) (d : VDst) (a : VSrc) (u : Bool) : Nat :=
  word fmtVX [guardEnc g, op, vdstW d, vdstEnc d, vsrcEnc a, 0, 0, 0, u.toNat]

def dV2H {α : Type} (c : Guard → VDst → VSrc → VSrc → Bool → α) (w : Nat) : Dec α :=
  match unpack fmtVX w with
  | [g, _, W, d, a, b, r, t, x] => zero r <| zero t <| zero (x / 2) <| withVSrc1 a fun a => withVSrc2 b fun b => withVDst W d fun d => .ok (c (guardDec g) d a b (x == 1))
  | _ => bad

def eV2H (op : Nat) (g : Guard) (d : VDst) (a : VSrc) (b : VSrc) (h : Bool) : Nat :=
  word fmtVX [guardEnc g, op, vdstW d, vdstEnc d, vsrcEnc a, vsrcEnc b, 0, 0, h.toNat]

def dVCE {α : Type} (c : Guard → VDst → VSrc → VSrc → OptG → α) (w : Nat) : Dec α :=
  match unpack fmtVX w with
  | [g, _, W, d, a, b, r, t, x] => zero r <| zero t <| need (64 ≤ x || x == 0) .reservedField <| withVSrc1 a fun a => withVSrc2 b fun b => withVDst W d fun d => .ok (c (guardDec g) d a b (if 64 ≤ x then some (Fin.ofNat 64 x) else none))
  | _ => bad

def eVCE (op : Nat) (g : Guard) (d : VDst) (a : VSrc) (b : VSrc) (n : OptG) : Nat :=
  word fmtVX [guardEnc g, op, vdstW d, vdstEnc d, vsrcEnc a, vsrcEnc b, 0, 0, optGEnc n]

def dVIOTA {α : Type} (c : Guard → VDst → VSrc → Bool → α) (w : Nat) : Dec α :=
  match unpack fmtVX w with
  | [g, _, W, d, a, b, r, t, x] => zero r <| zero t <| zero (x / 2) <| zero b <| need (x == 1 || a == 0) .reservedField <| withVSrc1 a fun a => withVDst W d fun d => .ok (c (guardDec g) d a (x == 1))
  | _ => bad

def eVIOTA (op : Nat) (g : Guard) (d : VDst) (a : VSrc) (u : Bool) : Nat :=
  word fmtVX [guardEnc g, op, vdstW d, vdstEnc d, vsrcEnc a, 0, 0, 0, u.toNat]

def dVANYS {α : Type} (c : Guard → GReg → BitNo → VSrc → α) (w : Nat) : Dec α :=
  match unpack fmtVX w with
  | [g, _, W, d, a, b, r, t, x] => zero r <| zero t <| lit 64 x fun bt => zero W <| zero d <| withVSrc1 a fun a => withBc b fun gn => .ok (c (guardDec g) gn bt a)
  | _ => bad

def eVANYS (op : Nat) (g : Guard) (gn : GReg) (b : BitNo) (a : VSrc) : Nat :=
  word fmtVX [guardEnc g, op, 0, 0, vsrcEnc a, 168 + gn, 0, 0, b]

def dVMCNT {α : Type} (c : Guard → GReg → VSrc → α) (w : Nat) : Dec α :=
  match unpack fmtVX w with
  | [g, _, W, d, a, b, r, t, x] => zero r <| zero t <| zero x <| zero W <| zero d <| withVSrc1 a fun a => withBc b fun gn => .ok (c (guardDec g) gn a)
  | _ => bad

def eVMCNT (op : Nat) (g : Guard) (gn : GReg) (a : VSrc) : Nat :=
  word fmtVX [guardEnc g, op, 0, 0, vsrcEnc a, 168 + gn, 0, 0, 0]

def dVMSKGS {α : Type} (c : Guard → GReg → VSrc → Code4 → α) (w : Nat) : Dec α :=
  match unpack fmtVX w with
  | [g, _, W, d, a, b, r, t, x] => zero r <| zero t <| lit 4 x fun q => zero W <| zero d <| withVSrc1 a fun a => withBc b fun gn => .ok (c (guardDec g) gn a ⟨q.val, by omega⟩)
  | _ => bad

def eVMSKGS (op : Nat) (g : Guard) (gn : GReg) (a : VSrc) (q : Code4) : Nat :=
  word fmtVX [guardEnc g, op, 0, 0, vsrcEnc a, 168 + gn, 0, 0, q]

def dVGMSKS {α : Type} (c : Guard → VReg → GReg → Code4 → α) (w : Nat) : Dec α :=
  match unpack fmtVX w with
  | [g, _, W, d, a, b, r, t, x] => zero r <| zero t <| lit 4 x fun q => zero b <| withBc a fun gs => withVReg W d fun d => .ok (c (guardDec g) d gs ⟨q.val, by omega⟩)
  | _ => bad

def eVGMSKS (op : Nat) (g : Guard) (d : VReg) (gs : GReg) (q : Code4) : Nat :=
  word fmtVX [guardEnc g, op, 1, d, 168 + gs, 0, 0, 0, q]

def dVINSS {α : Type} (c : Guard → VReg → GReg → VSrc → α) (w : Nat) : Dec α :=
  match unpack fmtVX w with
  | [g, _, W, d, a, b, r, t, x] => zero r <| zero t <| zero x <| withBc a fun gs => withVSrc2 b fun b => withVReg W d fun d => .ok (c (guardDec g) d gs b)
  | _ => bad

def eVINSS (op : Nat) (g : Guard) (d : VReg) (gs : GReg) (t : VSrc) : Nat :=
  word fmtVX [guardEnc g, op, 1, d, 168 + gs, vsrcEnc t, 0, 0, 0]

def dVEXTS {α : Type} (c : Guard → GReg → VSrc → VSrc → α) (w : Nat) : Dec α :=
  match unpack fmtVX w with
  | [g, _, W, d, a, b, r, t, x] => zero r <| zero t <| need (64 ≤ x) .reservedField <| zero W <| zero d <| withVSrc1 a fun a => withVSrc2 b fun b => .ok (c (guardDec g) (Fin.ofNat 64 x) a b)
  | _ => bad

def eVEXTS (op : Nat) (g : Guard) (gn : GReg) (a : VSrc) (t : VSrc) : Nat :=
  word fmtVX [guardEnc g, op, 0, 0, vsrcEnc a, vsrcEnc t, 0, 0, 64 + gn]

def dVTCFG {α : Type} (c : Guard → TileNo → TileType → α) (w : Nat) : Dec α :=
  match unpack fmtVX w with
  | [g, _, W, d, a, b, r, t, x] => zero r <| zero t <| zero (x / 32) <| zero W <| zero d <| zero a <| zero b <| opt (ttDec (x % 16)) .reservedField fun ty => .ok (c (guardDec g) (Fin.ofNat 2 (x / 16)) ty)
  | _ => bad

def eVTCFG (op : Nat) (g : Guard) (t : TileNo) (ty : TileType) : Nat :=
  word fmtVX [guardEnc g, op, 0, 0, 0, 0, 0, 0, t * 16 + ttEnc ty]

def dVCVT8S {α : Type} (c : Guard → VReg → VSrc → Code4 → Bool → Rnd → α) (w : Nat) : Dec α :=
  match unpack fmtVX w with
  | [g, _, W, d, a, b, r, t, x] => withRnd r fun r => zero t <| zero (x / 8) <| zero b <| withVSrc1 a fun a => withVReg W d fun d => .ok (c (guardDec g) d a (Fin.ofNat 16 (x % 4)) (x / 4 == 1) r)
  | _ => bad

def eVCVT8S (op : Nat) (g : Guard) (d : VReg) (a : VSrc) (q : Code4) (e : Bool) (r : Rnd) : Nat :=
  word fmtVX [guardEnc g, op, 1, d, vsrcEnc a, 0, rndEnc r, 0, e.toNat * 4 + q % 4]

/-! ### The matrix slot -/

/-- MNOP and MSWAP (R201): the rest of the word is 0. -/
def dM0 {α : Type} (c : α) (w : Nat) : Dec α :=
  match unpack [4, 28] w with
  | [_, z] => zero z <| .ok c
  | _ => bad

def eM0 (op : Nat) : Nat :=
  word [4, 28] [op, 0]

/-- MCLR (R201): SET. -/
def dMSET1 {α : Type} (c : Bool → α) (w : Nat) : Dec α :=
  match unpack [4, 1, 27] w with
  | [_, s, z] => zero z <| .ok (c (s == 1))
  | _ => bad

def eMSET1 (op : Nat) (set : Bool) : Nat :=
  word [4, 1, 27] [op, set.toNat, 0]

/-- A beat (R201): W, SA and SB; the rest is 0. -/
def dMBEAT {α : Type} (c : Wt → SReg → SReg → α) (w : Nat) : Dec α :=
  match unpack [4, 3, 4, 4, 17] w with
  | [_, w, a, b, z] => zero z <| .ok (c (Fin.ofNat 8 w) (Fin.ofNat 16 a) (Fin.ofNat 16 b))
  | _ => bad

def eMBEAT (op : Nat) (w : Wt) (sa : SReg) (sb : SReg) : Nat :=
  word [4, 3, 4, 4, 17] [op, w, sa, sb, 0]

/-- MSHIFT (R201): a beat with W = 0. -/
def dMSH {α : Type} (c : SReg → SReg → α) (w : Nat) : Dec α :=
  match unpack [4, 3, 4, 4, 17] w with
  | [_, w, a, b, z] => zero w <| zero z <| .ok (c (Fin.ofNat 16 a) (Fin.ofNat 16 b))
  | _ => bad

def eMSH (op : Nat) (sa : SReg) (sb : SReg) : Nat :=
  word [4, 3, 4, 4, 17] [op, 0, sa, sb, 0]

/-- MDRAIN (R201): the array row and the T0 row, six bits each, so that no other row can be named. -/
def dMDR {α : Type} (c : Row64 → Row64 → α) (w : Nat) : Dec α :=
  match unpack [4, 6, 6, 16] w with
  | [_, a, t, z] => zero z <| .ok (c (Fin.ofNat 64 a) (Fin.ofNat 64 t))
  | _ => bad

def eMDR (op : Nat) (arow : Row64) (t : Row64) : Nat :=
  word [4, 6, 6, 16] [op, arow, t, 0]

/-- MCFG (R201): PA and PB. -/
def dMCF {α : Type} (c : Code4 → Code4 → α) (w : Nat) : Dec α :=
  match unpack [4, 2, 2, 24] w with
  | [_, a, b, z] => zero z <| .ok (c (Fin.ofNat 16 a) (Fin.ofNat 16 b))
  | _ => bad

def eMCF (op : Nat) (pa : Code4) (pb : Code4) : Nat :=
  word [4, 2, 2, 24] [op, pa % 4, pb % 4, 0]

/-! ### The transfer slot -/

/-- The no-operation is the all-zero word (R60). -/
def dXNOP {α : Type} (c : α) (w : Nat) : Dec α :=
  match unpack fmtTE w with
  | [g, _, p, q, x] => zero g <| zero p <| zero q <| zero x <| .ok c
  | _ => bad

def eXNOP (op : Nat) : Nat :=
  word fmtTE [0, op, 0, 0, 0]

def dXLD {α : Type} (c : Guard → GReg → GReg → Code4 → Bool → Scope → α) (w : Nat) : Dec α :=
  match unpack fmtTA w with
  | [g, _, d, s, sc, o, z] => opt (scopeDec sc) .reservedField fun sc => need (o == 0 || o == 1) .reservedField <| need (o != 0 || sc == .strand) .reservedField <| withG d fun d => withG s fun s => .ok (c (guardDec g) d s (Fin.ofNat 16 z) (o == 1) sc)
  | _ => bad

def eXLD (op : Nat) (g : Guard) (d : GReg) (s : GReg) (size : Code4) (acq : Bool) (scope : Scope) : Nat :=
  word fmtTA [guardEnc g, op, d, s, scopeEnc scope, acq.toNat, size % 4]

def dXST {α : Type} (c : Guard → GReg → GReg → Code4 → Bool → Scope → α) (w : Nat) : Dec α :=
  match unpack fmtTA w with
  | [g, _, d, s, sc, o, z] => opt (scopeDec sc) .reservedField fun sc => need (o == 0 || o == 2) .reservedField <| need (o != 0 || sc == .strand) .reservedField <| withG d fun d => withG s fun s => .ok (c (guardDec g) d s (Fin.ofNat 16 z) (o == 2) sc)
  | _ => bad

def eXST (op : Nat) (g : Guard) (d : GReg) (s : GReg) (size : Code4) (rel : Bool) (scope : Scope) : Nat :=
  word fmtTA [guardEnc g, op, d, s, scopeEnc scope, rel.toNat * 2, size % 4]

def dXLDV {α : Type} (c : Guard → VReg → GReg → Bool → Scope → α) (w : Nat) : Dec α :=
  match unpack fmtTA w with
  | [g, _, d, s, sc, o, z] => opt (scopeDec sc) .reservedField fun sc => need (o == 0 || o == 1) .reservedField <| need (o != 0 || sc == .strand) .reservedField <| zero z <| withV d fun d => withG s fun s => .ok (c (guardDec g) d s (o == 1) sc)
  | _ => bad

def eXLDV (op : Nat) (g : Guard) (v : VReg) (s : GReg) (acq : Bool) (scope : Scope) : Nat :=
  word fmtTA [guardEnc g, op, v, s, scopeEnc scope, acq.toNat, 0]

def dXSTV {α : Type} (c : Guard → VReg → GReg → Bool → Scope → α) (w : Nat) : Dec α :=
  match unpack fmtTA w with
  | [g, _, d, s, sc, o, z] => opt (scopeDec sc) .reservedField fun sc => need (o == 0 || o == 2) .reservedField <| need (o != 0 || sc == .strand) .reservedField <| zero z <| withV d fun d => withG s fun s => .ok (c (guardDec g) d s (o == 2) sc)
  | _ => bad

def eXSTV (op : Nat) (g : Guard) (v : VReg) (s : GReg) (rel : Bool) (scope : Scope) : Nat :=
  word fmtTA [guardEnc g, op, v, s, scopeEnc scope, rel.toNat * 2, 0]

def dXPF {α : Type} (c : Guard → GReg → α) (w : Nat) : Dec α :=
  match unpack fmtTA w with
  | [g, _, d, s, sc, o, z] => zero sc <| zero o <| zero z <| zero d <| withG s fun s => .ok (c (guardDec g) s)
  | _ => bad

def eXPF (op : Nat) (g : Guard) (s : GReg) : Nat :=
  word fmtTA [guardEnc g, op, 0, s, 0, 0, 0]

def dXAT {α : Type} (c : Guard → GReg → GReg → Bool → Ord4 → Scope → α) (w : Nat) : Dec α :=
  match unpack fmtTA w with
  | [g, _, d, s, sc, o, z] => opt (scopeDec sc) .reservedField fun sc => opt (ordDec o) .reservedField fun o => need (o != .rlx || sc == .strand) .reservedField <| need (2 ≤ z) .reservedField <| withG d fun d => withG s fun s => .ok (c (guardDec g) d s (z == 3) o sc)
  | _ => bad

def eXAT (op : Nat) (g : Guard) (d : GReg) (s : GReg) (wide : Bool) (ord : Ord4) (scope : Scope) : Nat :=
  word fmtTA [guardEnc g, op, d, s, scopeEnc scope, ordEnc ord, 2 + wide.toNat]

def dXATCAS {α : Type} (c : Guard → GReg → GReg → Bool → Ord4 → Scope → α) (w : Nat) : Dec α :=
  match unpack fmtTA w with
  | [g, _, d, s, sc, o, z] => opt (scopeDec sc) .reservedField fun sc => opt (ordDec o) .reservedField fun o => need (o != .rlx || sc == .strand) .reservedField <| need (2 ≤ z) .reservedField <| withG d fun d => need (d.val % 2 == 0) .badOperand <| withG s fun s => .ok (c (guardDec g) d s (z == 3) o sc)
  | _ => bad

def eXATCAS (op : Nat) (g : Guard) (d : GReg) (s : GReg) (wide : Bool) (ord : Ord4) (scope : Scope) : Nat :=
  word fmtTA [guardEnc g, op, d, s, scopeEnc scope, ordEnc ord, 2 + wide.toNat]

def dXATF {α : Type} (c : Guard → GReg → GReg → Ord4 → Scope → α) (w : Nat) : Dec α :=
  match unpack fmtTA w with
  | [g, _, d, s, sc, o, z] => opt (scopeDec sc) .reservedField fun sc => opt (ordDec o) .reservedField fun o => need (o != .rlx || sc == .strand) .reservedField <| need (z == 2) .reservedField <| withG d fun d => withG s fun s => .ok (c (guardDec g) d s o sc)
  | _ => bad

def eXATF (op : Nat) (g : Guard) (d : GReg) (s : GReg) (ord : Ord4) (scope : Scope) : Nat :=
  word fmtTA [guardEnc g, op, d, s, scopeEnc scope, ordEnc ord, 2]

def dXFENCE {α : Type} (c : Guard → Ord4 → Scope → α) (w : Nat) : Dec α :=
  match unpack fmtTA w with
  | [g, _, d, s, sc, o, z] => zero z <| zero d <| zero s <| opt (scopeDec sc) .reservedField fun sc => opt (ordDec o) .reservedField fun o => need (o != .rlx) .reservedField <| .ok (c (guardDec g) o sc)
  | _ => bad

def eXFENCE (op : Nat) (g : Guard) (ord : Ord4) (scope : Scope) : Nat :=
  word fmtTA [guardEnc g, op, 0, 0, scopeEnc scope, ordEnc ord, 0]

def dXLDFE {α : Type} (c : Guard → GReg → GReg → Code4 → Bool → α) (w : Nat) : Dec α :=
  match unpack fmtTE w with
  | [g, _, p, q, x] => zero (x / 8) <| withG p fun p => withG q fun q => .ok (c (guardDec g) p q (Fin.ofNat 16 (x / 2)) (x % 2 == 1))
  | _ => bad

def eXLDFE (op : Nat) (g : Guard) (p : GReg) (q : GReg) (size : Code4) (clear : Bool) : Nat :=
  word fmtTE [guardEnc g, op, p, q, size % 4 * 2 + clear.toNat]

def dXSTFE {α : Type} (c : Guard → GReg → GReg → Code4 → α) (w : Nat) : Dec α :=
  match unpack fmtTE w with
  | [g, _, p, q, x] => zero (x / 8) <| zero (x % 2) <| withG p fun p => withG q fun q => .ok (c (guardDec g) p q (Fin.ofNat 16 (x / 2)))
  | _ => bad

def eXSTFE (op : Nat) (g : Guard) (p : GReg) (q : GReg) (size : Code4) : Nat :=
  word fmtTE [guardEnc g, op, p, q, size % 4 * 2]

def dXFESET {α : Type} (c : Guard → GReg → GReg → Bool → α) (w : Nat) : Dec α :=
  match unpack fmtTE w with
  | [g, _, p, q, x] => flag x fun v => withG p fun p => withG q fun q => .ok (c (guardDec g) p q v)
  | _ => bad

def eXFESET (op : Nat) (g : Guard) (p : GReg) (q : GReg) (v : Bool) : Nat :=
  word fmtTE [guardEnc g, op, p, q, v.toNat]

def dXTEST {α : Type} (c : Guard → GReg → BitNo → GReg → α) (w : Nat) : Dec α :=
  match unpack fmtTE w with
  | [g, _, p, q, x] => need (64 ≤ x) .badWriteBack <| withG p fun p => withG q fun q => .ok (c (guardDec g) p (Fin.ofNat 64 x) q)
  | _ => bad

def eXTEST (op : Nat) (g : Guard) (p : GReg) (b : BitNo) (q : GReg) : Nat :=
  word fmtTE [guardEnc g, op, p, q, 64 + b]

def dXG {α : Type} (c : Guard → α) (w : Nat) : Dec α :=
  match unpack fmtTE w with
  | [g, _, p, q, x] => zero p <| zero q <| zero x <| .ok (c (guardDec g))
  | _ => bad

def eXG (op : Nat) (g : Guard) : Nat :=
  word fmtTE [guardEnc g, op, 0, 0, 0]

def dXSB {α : Type} (c : Guard → SReg → Oct → α) (w : Nat) : Dec α :=
  match unpack fmtTE w with
  | [g, _, p, q, x] => zero x <| lit 16 p fun n => withOct q fun q => .ok (c (guardDec g) n q)
  | _ => bad

def eXSB (op : Nat) (g : Guard) (n : SReg) (q : Oct) : Nat :=
  word fmtTE [guardEnc g, op, n, 8 * q, 0]

def dXSU {α : Type} (c : Guard → SReg → α) (w : Nat) : Dec α :=
  match unpack fmtTE w with
  | [g, _, p, q, x] => zero x <| zero q <| lit 16 p fun n => .ok (c (guardDec g) n)
  | _ => bad

def eXSU (op : Nat) (g : Guard) (n : SReg) : Nat :=
  word fmtTE [guardEnc g, op, n, 0, 0]

def dXTR {α : Type} (c : Guard → TEntry → Oct → α) (w : Nat) : Dec α :=
  match unpack fmtTE w with
  | [g, _, p, q, x] => zero x <| lit 32 p fun e => withOct q fun q => .ok (c (guardDec g) e q)
  | _ => bad

def eXTR (op : Nat) (g : Guard) (e : TEntry) (q : Oct) : Nat :=
  word fmtTE [guardEnc g, op, e, 8 * q, 0]

def dXTU {α : Type} (c : Guard → TEntry → α) (w : Nat) : Dec α :=
  match unpack fmtTE w with
  | [g, _, p, q, x] => zero x <| zero q <| lit 32 p fun e => .ok (c (guardDec g) e)
  | _ => bad

def eXTU (op : Nat) (g : Guard) (e : TEntry) : Nat :=
  word fmtTE [guardEnc g, op, e, 0, 0]

def dXEN {α : Type} (c : Guard → Oct → GReg → α) (w : Nat) : Dec α :=
  match unpack fmtTE w with
  | [g, _, p, q, x] => zero x <| withOct p fun p => withG q fun q => .ok (c (guardDec g) p q)
  | _ => bad

def eXEN (op : Nat) (g : Guard) (p : Oct) (q : GReg) : Nat :=
  word fmtTE [guardEnc g, op, 8 * p, q, 0]

def dXQ {α : Type} (c : Guard → GReg → α) (w : Nat) : Dec α :=
  match unpack fmtTE w with
  | [g, _, p, q, x] => zero x <| zero p <| withG q fun q => .ok (c (guardDec g) q)
  | _ => bad

def eXQ (op : Nat) (g : Guard) (q : GReg) : Nat :=
  word fmtTE [guardEnc g, op, 0, q, 0]

def dXPQ {α : Type} (c : Guard → GReg → GReg → α) (w : Nat) : Dec α :=
  match unpack fmtTE w with
  | [g, _, p, q, x] => zero x <| withG p fun p => withG q fun q => .ok (c (guardDec g) p q)
  | _ => bad

def eXPQ (op : Nat) (g : Guard) (p : GReg) (q : GReg) : Nat :=
  word fmtTE [guardEnc g, op, p, q, 0]

def dXCNTRD {α : Type} (c : Guard → Dst → α) (w : Nat) : Dec α :=
  match unpack fmtTE w with
  | [g, _, p, q, x] => zero (x % 64) <| zero q <| withTDst (x / 64) p fun d => .ok (c (guardDec g) d)
  | _ => bad

def eXCNTRD (op : Nat) (g : Guard) (d : Dst) : Nat :=
  word fmtTE [guardEnc g, op, tdstEnc d, 0, 64 * dstW d]

def dXKB {α : Type} (c : Guard → KReg → EvenReg → α) (w : Nat) : Dec α :=
  match unpack fmtTE w with
  | [g, _, p, q, x] => zero x <| lit 8 p fun n => withEven q fun q => .ok (c (guardDec g) n q)
  | _ => bad

def eXKB (op : Nat) (g : Guard) (n : KReg) (q : EvenReg) : Nat :=
  word fmtTE [guardEnc g, op, n, 2 * q, 0]

def dXKU {α : Type} (c : Guard → KReg → α) (w : Nat) : Dec α :=
  match unpack fmtTE w with
  | [g, _, p, q, x] => zero x <| zero q <| lit 8 p fun n => .ok (c (guardDec g) n)
  | _ => bad

def eXKU (op : Nat) (g : Guard) (n : KReg) : Nat :=
  word fmtTE [guardEnc g, op, n, 0, 0]

def dXKS {α : Type} (c : Guard → Dst → KReg → α) (w : Nat) : Dec α :=
  match unpack fmtTE w with
  | [g, _, p, q, x] => zero (x % 64) <| lit 8 q fun n => withTDst (x / 64) p fun d => .ok (c (guardDec g) d n)
  | _ => bad

def eXKS (op : Nat) (g : Guard) (d : Dst) (n : KReg) : Nat :=
  word fmtTE [guardEnc g, op, tdstEnc d, n, 64 * dstW d]

def dXP8 {α : Type} (c : Guard → Oct → α) (w : Nat) : Dec α :=
  match unpack fmtTE w with
  | [g, _, p, q, x] => zero x <| zero q <| withOct p fun p => .ok (c (guardDec g) p)
  | _ => bad

def eXP8 (op : Nat) (g : Guard) (p : Oct) : Nat :=
  word fmtTE [guardEnc g, op, 8 * p, 0, 0]

/-- VCSUM has two forms under one opcode (R188): D = 232 + T replaces the stored sums, and any other D receives a row
of sums of the tile that S1 names. -/
def dVCSUM {α : Type} (c : Guard → TileNo → α) (c2 : Guard → VDst → TileNo → Code4 → α) (w : Nat) : Dec α :=
  match unpack fmtVX w with
  | [g, _, W, d, a, b, r, t, x] =>
    if d = 232 ∨ d = 233 then
      zero r <| zero t <| zero x <| zero a <| zero b <| need (W == 1) .badWriteBack <|
        .ok (c (guardDec g) (Fin.ofNat 2 (d - 232)))
    else
      zero r <| zero t <| zero b <| lit 3 x fun sel => need (a == 232 || a == 233) .badOperand <|
        need (d < 128) .badOperand <| withVDst W d fun d =>
        .ok (c2 (guardDec g) d (Fin.ofNat 2 (a - 232)) ⟨sel.val, by omega⟩)
  | _ => bad

def eVCS0 (op : Nat) (g : Guard) (t : TileNo) : Nat :=
  word fmtVX [guardEnc g, op, 1, 232 + t, 0, 0, 0, 0, 0]

def eVCSR (op : Nat) (g : Guard) (d : VDst) (t : TileNo) (sel : Code4) : Nat :=
  word fmtVX [guardEnc g, op, vdstW d, vdstEnc d, 232 + t, 0, 0, 0, sel]

/-- The six kinds of slot with an encoding of their own (R57). -/
inductive SlotClass where
  | branch | scalar | address | vector | matrix | transfer
deriving DecidableEq, Repr


/-- The branch slot: the opcode chooses the format (R75, R116 to R126); an unassigned value is rejected (R83). -/
def decodeBranch (w : Nat) : Except Reject Instr :=
  match unpack [4, 28] w with
  | [op, _] =>
    match op with
    | 0x00 => dB0 .bnop w
    | 0x01 => dBC .b w
    | 0x02 => dBC .bA w
    | 0x03 => dBCR .br w
    | 0x04 => dBCR .brA w
    | 0x05 => dBCALL .call w
    | 0x06 => dBCALLR .callr w
    | 0x07 => dBV .bvu w
    | 0x08 => dBV .bvuA w
    | 0x09 => dBLOOP .loop w
    | 0x0A => dBLOOPI .loopi w
    | 0x0B => dBLOOPM .loopm w
    | 0x0C => dBLOOPMI .loopmi w
    | 0x0D => dBLX .lexit w
    | 0x0E => dB0 .exit w
    | 0x0F => dBTRAP .trap w
    | _ => .error .unassignedOpcode
  | _ => .error .unassignedOpcode

/-- The scalar slot: the opcode chooses the format (R76, R92 to R105); an unassigned value is rejected (R83). -/
def decodeScalar (w : Nat) : Except Reject Instr :=
  match unpack [13, 6, 29] w with
  | [_, op, _] =>
    match op with
    | 0x00 => dSNOP .snop w
    | 0x01 => dS2 .add w
    | 0x02 => dS2 .sub w
    | 0x03 => dS2 .adds w
    | 0x04 => dS2 .subs w
    | 0x05 => dS2 .addus w
    | 0x06 => dS2 .subus w
    | 0x07 => dSCAR .adc w
    | 0x08 => dSCAR .sbc w
    | 0x09 => dS2 .mul w
    | 0x0A => dS2 .mulh w
    | 0x0B => dS2 .mulhu w
    | 0x0C => dSMADC .madc w
    | 0x0D => dS2 .div w
    | 0x0E => dS2 .divu w
    | 0x0F => dS2 .rem w
    | 0x10 => dS2 .remu w
    | 0x11 => dS2 .and w
    | 0x12 => dS2 .or w
    | 0x13 => dS2 .xor w
    | 0x14 => dS2 .andn w
    | 0x15 => dS2 .orn w
    | 0x16 => dS2 .shl w
    | 0x17 => dS2 .shr w
    | 0x18 => dS2 .sra w
    | 0x19 => dS2 .rol w
    | 0x1A => dS1 .clz w
    | 0x1B => dS1 .ctz w
    | 0x1C => dS1 .popc w
    | 0x1D => dSBEXT .bext w
    | 0x1E => dSBINS .bins w
    | 0x1F => dSEXF .sext w
    | 0x20 => dSEXF .zext w
    | 0x21 => dSCMP .cmpeq w
    | 0x22 => dSCMP .cmpne w
    | 0x23 => dSCMP .cmplt w
    | 0x24 => dSCMP .cmple w
    | 0x25 => dSCMP .cmpltu w
    | 0x26 => dSCMP .cmpleu w
    | 0x27 => dS2 .min w
    | 0x28 => dS2 .max w
    | 0x29 => dS2 .minu w
    | 0x2A => dS2 .maxu w
    | 0x2B => dSMOVI .movi w
    | 0x2C => dSMOVK .movk w
    | 0x2D => dSMFS .mfs w
    | 0x2E => dSMTS .mts w
    | 0x2F => dSMOVB .movb w
    | 0x30 => dSF2 .fadd w
    | 0x31 => dSF2 .fsub w
    | 0x32 => dSF2 .fmul w
    | 0x33 => dSFMA .fma w
    | 0x34 => dSF2 .fmin w
    | 0x35 => dSF2 .fmax w
    | 0x36 => dSF2 .fminnum w
    | 0x37 => dSF2 .fmaxnum w
    | 0x38 => dSCMP .fcmpeq w
    | 0x39 => dSCMP .fcmplt w
    | 0x3A => dSCMP .fcmple w
    | 0x3B => dSCMP .fcmpun w
    | 0x3C => dSF1 .fcvtif w
    | 0x3D => dSF1 .fcvtfi w
    | 0x3E => dSFCVTF .fcvtf w
    | 0x3F => dS1 .fclass w
    | _ => .error .unassignedOpcode
  | _ => .error .unassignedOpcode

/-- The address slot: the opcode chooses the format (R77, R106 to R115); an unassigned value is rejected (R83). -/
def decodeAddress (w : Nat) : Except Reject Instr :=
  match unpack [13, 5, 22] w with
  | [_, op, _] =>
    match op with
    | 0x00 => dANOP .anop w
    | 0x01 => dALD .lds w
    | 0x02 => dALD .ldw w
    | 0x03 => dALD .ldwu w
    | 0x04 => dALD .ldh w
    | 0x05 => dALD .ldhu w
    | 0x06 => dALD .ldb w
    | 0x07 => dALD .ldbu w
    | 0x08 => dAST .sts w
    | 0x09 => dAST .stw w
    | 0x0A => dAST .sth w
    | 0x0B => dAST .stb w
    | 0x0C => dAVL .ldv w
    | 0x0D => dAVS .stv w
    | 0x0E => dALD .wlds w
    | 0x0F => dAVL .wldv w
    | 0x10 => dAAX .aadd w
    | 0x11 => dAAX .amov w
    | 0x12 => dAGETS .aget w
    | 0x13 => dAMSET .mset w
    | 0x14 => dAMGET .mget w
    | 0x15 => dALD .lea w
    | 0x16 => dACMP .acmplt w
    | 0x17 => dACLR .clrv w
    | _ => .error .unassignedOpcode
  | _ => .error .unassignedOpcode

/-- The vector slot: the opcode chooses the format (R78, R156 to R190); an unassigned value is rejected (R83). -/
def decodeVector (w : Nat) : Except Reject Instr :=
  match unpack [13, 7, 36] w with
  | [_, op, _] =>
    match op with
    | 0x00 => dVNOP .vnop w
    | 0x01 => dV1 .vmov w
    | 0x02 => dV2 .vadd w
    | 0x03 => dV2 .vsub w
    | 0x04 => dV2 .vadds w
    | 0x05 => dV2 .vsubs w
    | 0x06 => dV2 .vaddus w
    | 0x07 => dV2 .vsubus w
    | 0x08 => dV2S .vmul w
    | 0x09 => dV2 .vmulh w
    | 0x0A => dV2 .vmulhu w
    | 0x0B => dVMULWS .vmulw w
    | 0x0C => dVMACWS .vmacw w
    | 0x0D => dVMACWS .vdot4 w
    | 0x0E => dVMADCS .vmadc w
    | 0x0F => dVCAR .vadc w
    | 0x10 => dVCAR .vsbc w
    | 0x11 => dV1S .vabs w
    | 0x12 => dV1S .vneg w
    | 0x13 => dV2 .vmini w
    | 0x14 => dV2 .vmaxi w
    | 0x15 => dV2 .vminu w
    | 0x16 => dV2 .vmaxu w
    | 0x17 => dV2 .vclamp w
    | 0x18 => dV2 .vavg w
    | 0x19 => dV2 .vavgu w
    | 0x1A => dV2 .vabd w
    | 0x1B => dV2 .vabdu w
    | 0x1C => dV2 .vand w
    | 0x1D => dV2 .vor w
    | 0x1E => dV2 .vxor w
    | 0x1F => dV2 .vandn w
    | 0x20 => dV3 .vbitsel w
    | 0x21 => dV2S .vshl w
    | 0x22 => dV2 .vshr w
    | 0x23 => dV2 .vsra w
    | 0x24 => dV2 .vrol w
    | 0x25 => dV1 .vclz w
    | 0x26 => dV1 .vpopc w
    | 0x27 => dVBEXTS .vbext w
    | 0x28 => dVBINSS .vbins w
    | 0x29 => dVEXF .vsext w
    | 0x2A => dVEXF .vzext w
    | 0x2B => dV1 .vrev w
    | 0x2C => dV1 .vbswap w
    | 0x2D => dV2 .vcmpeq w
    | 0x2E => dV2 .vcmpne w
    | 0x2F => dV2 .vcmplt w
    | 0x30 => dV2 .vcmple w
    | 0x31 => dV2 .vcmpltu w
    | 0x32 => dV2 .vcmpleu w
    | 0x33 => dV3 .vsel w
    | 0x34 => dVF2 .vfadd w
    | 0x35 => dVF2 .vfsub w
    | 0x36 => dVF2 .vfmul w
    | 0x37 => dVF3 .vfma w
    | 0x38 => dVF3 .vfms w
    | 0x39 => dVF3 .vfnma w
    | 0x3A => dVFMAWS .vfmaw w
    | 0x3B => dV1 .vfabs w
    | 0x3C => dV1 .vfneg w
    | 0x3D => dV2 .vmin w
    | 0x3E => dV2 .vmax w
    | 0x3F => dV2 .vminnum w
    | 0x40 => dV2 .vmaxnum w
    | 0x41 => dV2 .vfclamp w
    | 0x42 => dVF1 .vfrnd w
    | 0x43 => dV1 .vfclass w
    | 0x44 => dV2 .vfcopys w
    | 0x45 => dVF2 .vfscale w
    | 0x46 => dV2 .vfcmpeq w
    | 0x47 => dV2 .vfcmplt w
    | 0x48 => dV2 .vfcmple w
    | 0x49 => dV2 .vfcmpun w
    | 0x4A => dVCVT .vcvtfi w
    | 0x4B => dVCVT .vcvtif w
    | 0x4C => dVCVTFFS .vcvtff w
    | 0x4D => dVCVTIIS .vcvtii w
    | 0x4E => dVPACKS .vpack w
    | 0x4F => dVQU .vunpack w
    | 0x50 => dVQNQ .vqnq4 w
    | 0x51 => dV1 .vdqnq4 w
    | 0x52 => dVF1 .vrcp w
    | 0x53 => dVF1 .vrsqrt w
    | 0x54 => dVF1 .vexp2 w
    | 0x55 => dVF1 .vlog2 w
    | 0x56 => dVSCA .vscacc w
    | 0x57 => dVCSUM .vcsum .vcsumRow w

    | 0x58 => dVCK .vcchk w
    | 0x59 => dV1 .vredadd w
    | 0x5A => dVRU .vredaddw w
    | 0x5B => dVF1 .vredfadd w
    | 0x5C => dVRU .vredmin w
    | 0x5D => dVRU .vredmax w
    | 0x5E => dV1 .vredfmin w
    | 0x5F => dV1 .vredfmax w
    | 0x60 => dV1 .vredand w
    | 0x61 => dV1 .vredor w
    | 0x62 => dV2 .vbcast w
    | 0x63 => dV2 .vperm w
    | 0x64 => dV3 .vshuf w
    | 0x65 => dV2 .vrotl w
    | 0x66 => dV2 .vslide w
    | 0x67 => dV2H .vzip w
    | 0x68 => dV2H .vunzip w
    | 0x69 => dV1 .vrevl w
    | 0x6A => dVCE .vcompress w
    | 0x6B => dVCE .vexpand w
    | 0x6C => dV2H .vtopk w
    | 0x6D => dVIOTA .viota w
    | 0x6E => dVANYS .vany w
    | 0x6F => dVANYS .vall w
    | 0x70 => dVMCNT .vmcount w
    | 0x71 => dVMSKGS .vmskg w
    | 0x72 => dVGMSKS .vgmsk w
    | 0x73 => dVINSS .vins w
    | 0x74 => dVEXTS .vext w
    | 0x75 => dVTCFG .tcfg w
    | 0x76 => dVCVT8S .vcvt8 w
    | 0x77 => dVQU .vcvt8w w
    | _ => .error .unassignedOpcode
  | _ => .error .unassignedOpcode

/-- The matrix slot: the opcode chooses the format (R79, R201); an unassigned value is rejected (R83). -/
def decodeMatrix (w : Nat) : Except Reject Instr :=
  match unpack [4, 28] w with
  | [op, _] =>
    match op with
    | 0x00 => dM0 .mnop w
    | 0x01 => dMSET1 .mclr w
    | 0x02 => dMBEAT .mpush w
    | 0x03 => dMBEAT .macc w
    | 0x04 => dMSH .mshift w
    | 0x05 => dMDR .mdrain w
    | 0x06 => dM0 .mswap w
    | 0x07 => dMCF .mcfg w
    | _ => .error .unassignedOpcode
  | _ => .error .unassignedOpcode

/-- The transfer slot: the opcode chooses the format (R80); an unassigned value is rejected (R83). -/
noncomputable def decodeTransfer (w : Nat) : Except Reject Instr :=
  match unpack [13, 6, 21] w with
  | [_, op, _] =>
    match op with
    | 0x00 => dXNOP .xnop w
    | 0x01 => dXLD .ldg w
    | 0x02 => dXLD .ldgu w
    | 0x03 => dXLD .ldgnc w
    | 0x04 => dXST .stg w
    | 0x05 => dXLDV .ldgv w
    | 0x06 => dXSTV .stgv w
    | 0x07 => dXPF .prefg w
    | 0x08 => dXAT .atadd w
    | 0x09 => dXAT .atmin w
    | 0x0A => dXAT .atmax w
    | 0x0B => dXAT .atminu w
    | 0x0C => dXAT .atmaxu w
    | 0x0D => dXAT .atand w
    | 0x0E => dXAT .ator w
    | 0x0F => dXAT .atxor w
    | 0x10 => dXAT .atxchg w
    | 0x11 => dXATCAS .atcas w
    | 0x12 => dXATF .atfadd w
    | 0x13 => dXATF .atfmax w
    | 0x14 => dXFENCE .fence w
    | 0x15 => dXLDFE .ldfe w
    | 0x16 => dXSTFE .stfe w
    | 0x17 => dXFESET .feset w
    | 0x18 => dXTEST .fetest w
    | 0x19 => dXG .gbar w
    | 0x1A => dXSB .sbind w
    | 0x1B => dXSU .sunbind w
    | 0x1C => dXTR .treg w
    | 0x1D => dXTU .tunreg w
    | 0x1E => dXEN .ecopy w
    | 0x1F => dXEN .emcast w
    | 0x20 => dXEN .egather w
    | 0x21 => dXEN .escatter w
    | 0x22 => dXEN .eplane w
    | 0x23 => dXEN .efeed w
    | 0x24 => dXQ .ewait w
    | 0x25 => dXTEST .etest w
    | 0x26 => dXEN .qpush w
    | 0x27 => dXEN .qpop w
    | 0x28 => dXPQ .qlen w
    | 0x29 => dXQ .cntadd w
    | 0x2A => dXCNTRD .cntrd w
    | 0x2B => dXKB .kbind w
    | 0x2C => dXKU .kunbind w
    | 0x2D => dXKS .kstat w
    | 0x2E => dXQ .susp w
    | 0x2F => dXQ .cres w
    | 0x30 => dXPQ .cresT w
    | 0x31 => dXPQ .ccopy w
    | 0x32 => dXQ .cdrop w
    | 0x33 => dXEN .cinfo w
    | 0x34 => dXEN .kslotld w
    | 0x35 => dXQ .kslotz w
    | 0x36 => dXP8 .glean w
    | 0x37 => dXQ .notify w
    | _ => .error .unassignedOpcode
  | _ => .error .unassignedOpcode

/-- The slot whose format an instruction has; none for a machine step. -/
def Instr.slotClass : Instr → Option SlotClass
  | .bnop => some .branch
  | .b _ _ _ _ => some .branch
  | .bA _ _ _ _ => some .branch
  | .br _ _ _ _ => some .branch
  | .brA _ _ _ _ => some .branch
  | .call _ _ => some .branch
  | .callr _ _ => some .branch
  | .bvu _ _ _ => some .branch
  | .bvuA _ _ _ => some .branch
  | .loop _ _ => some .branch
  | .loopi _ _ => some .branch
  | .loopm _ _ _ => some .branch
  | .loopmi _ _ _ => some .branch
  | .lexit _ _ _ => some .branch
  | .exit => some .branch
  | .trap _ => some .branch
  | .snop => some .scalar
  | .add _ _ _ _ => some .scalar
  | .sub _ _ _ _ => some .scalar
  | .adds _ _ _ _ => some .scalar
  | .subs _ _ _ _ => some .scalar
  | .addus _ _ _ _ => some .scalar
  | .subus _ _ _ _ => some .scalar
  | .adc _ _ _ _ _ _ _ => some .scalar
  | .sbc _ _ _ _ _ _ _ => some .scalar
  | .mul _ _ _ _ => some .scalar
  | .mulh _ _ _ _ => some .scalar
  | .mulhu _ _ _ _ => some .scalar
  | .madc _ _ _ _ _ _ _ => some .scalar
  | .div _ _ _ _ => some .scalar
  | .divu _ _ _ _ => some .scalar
  | .rem _ _ _ _ => some .scalar
  | .remu _ _ _ _ => some .scalar
  | .and _ _ _ _ => some .scalar
  | .or _ _ _ _ => some .scalar
  | .xor _ _ _ _ => some .scalar
  | .andn _ _ _ _ => some .scalar
  | .orn _ _ _ _ => some .scalar
  | .shl _ _ _ _ => some .scalar
  | .shr _ _ _ _ => some .scalar
  | .sra _ _ _ _ => some .scalar
  | .rol _ _ _ _ => some .scalar
  | .clz _ _ _ => some .scalar
  | .ctz _ _ _ => some .scalar
  | .popc _ _ _ => some .scalar
  | .bext _ _ _ _ _ => some .scalar
  | .bins _ _ _ _ _ => some .scalar
  | .sext _ _ _ _ => some .scalar
  | .zext _ _ _ _ => some .scalar
  | .cmpeq _ _ _ _ _ => some .scalar
  | .cmpne _ _ _ _ _ => some .scalar
  | .cmplt _ _ _ _ _ => some .scalar
  | .cmple _ _ _ _ _ => some .scalar
  | .cmpltu _ _ _ _ _ => some .scalar
  | .cmpleu _ _ _ _ _ => some .scalar
  | .min _ _ _ _ => some .scalar
  | .max _ _ _ _ => some .scalar
  | .minu _ _ _ _ => some .scalar
  | .maxu _ _ _ _ => some .scalar
  | .movi _ _ _ => some .scalar
  | .movk _ _ _ _ => some .scalar
  | .mfs _ _ _ => some .scalar
  | .mts _ _ _ => some .scalar
  | .movb _ _ _ _ _ _ => some .scalar
  | .fadd _ _ _ _ _ => some .scalar
  | .fsub _ _ _ _ _ => some .scalar
  | .fmul _ _ _ _ _ => some .scalar
  | .fma _ _ _ _ _ => some .scalar
  | .fmin _ _ _ _ _ => some .scalar
  | .fmax _ _ _ _ _ => some .scalar
  | .fminnum _ _ _ _ _ => some .scalar
  | .fmaxnum _ _ _ _ _ => some .scalar
  | .fcmpeq _ _ _ _ _ => some .scalar
  | .fcmplt _ _ _ _ _ => some .scalar
  | .fcmple _ _ _ _ _ => some .scalar
  | .fcmpun _ _ _ _ _ => some .scalar
  | .fcvtif _ _ _ _ => some .scalar
  | .fcvtfi _ _ _ _ => some .scalar
  | .fcvtf _ _ _ _ _ => some .scalar
  | .fclass _ _ _ => some .scalar
  | .anop => some .address
  | .lds _ _ _ _ => some .address
  | .ldw _ _ _ _ => some .address
  | .ldwu _ _ _ _ => some .address
  | .ldh _ _ _ _ => some .address
  | .ldhu _ _ _ _ => some .address
  | .ldb _ _ _ _ => some .address
  | .ldbu _ _ _ _ => some .address
  | .sts _ _ _ _ => some .address
  | .stw _ _ _ _ => some .address
  | .sth _ _ _ _ => some .address
  | .stb _ _ _ _ => some .address
  | .ldv _ _ _ _ => some .address
  | .stv _ _ _ _ => some .address
  | .wlds _ _ _ _ => some .address
  | .wldv _ _ _ _ => some .address
  | .aadd _ _ _ => some .address
  | .amov _ _ _ => some .address
  | .aget _ _ _ => some .address
  | .mset _ _ _ => some .address
  | .mget _ _ _ => some .address
  | .lea _ _ _ _ => some .address
  | .acmplt _ _ _ _ => some .address
  | .clrv _ _ _ => some .address
  | .vnop => some .vector
  | .vmov _ _ _ => some .vector
  | .vadd _ _ _ _ => some .vector
  | .vsub _ _ _ _ => some .vector
  | .vadds _ _ _ _ => some .vector
  | .vsubs _ _ _ _ => some .vector
  | .vaddus _ _ _ _ => some .vector
  | .vsubus _ _ _ _ => some .vector
  | .vmul _ _ _ _ _ => some .vector
  | .vmulh _ _ _ _ => some .vector
  | .vmulhu _ _ _ _ => some .vector
  | .vmulw _ _ _ _ _ _ => some .vector
  | .vmacw _ _ _ _ _ _ _ => some .vector
  | .vdot4 _ _ _ _ _ _ _ => some .vector
  | .vmadc _ _ _ _ _ _ => some .vector
  | .vadc _ _ _ _ _ _ => some .vector
  | .vsbc _ _ _ _ _ _ => some .vector
  | .vabs _ _ _ _ => some .vector
  | .vneg _ _ _ _ => some .vector
  | .vmini _ _ _ _ => some .vector
  | .vmaxi _ _ _ _ => some .vector
  | .vminu _ _ _ _ => some .vector
  | .vmaxu _ _ _ _ => some .vector
  | .vclamp _ _ _ _ => some .vector
  | .vavg _ _ _ _ => some .vector
  | .vavgu _ _ _ _ => some .vector
  | .vabd _ _ _ _ => some .vector
  | .vabdu _ _ _ _ => some .vector
  | .vand _ _ _ _ => some .vector
  | .vor _ _ _ _ => some .vector
  | .vxor _ _ _ _ => some .vector
  | .vandn _ _ _ _ => some .vector
  | .vbitsel _ _ _ _ => some .vector
  | .vshl _ _ _ _ _ => some .vector
  | .vshr _ _ _ _ => some .vector
  | .vsra _ _ _ _ => some .vector
  | .vrol _ _ _ _ => some .vector
  | .vclz _ _ _ => some .vector
  | .vpopc _ _ _ => some .vector
  | .vbext _ _ _ _ _ => some .vector
  | .vbins _ _ _ _ _ => some .vector
  | .vsext _ _ _ _ => some .vector
  | .vzext _ _ _ _ => some .vector
  | .vrev _ _ _ => some .vector
  | .vbswap _ _ _ => some .vector
  | .vcmpeq _ _ _ _ => some .vector
  | .vcmpne _ _ _ _ => some .vector
  | .vcmplt _ _ _ _ => some .vector
  | .vcmple _ _ _ _ => some .vector
  | .vcmpltu _ _ _ _ => some .vector
  | .vcmpleu _ _ _ _ => some .vector
  | .vsel _ _ _ _ => some .vector
  | .vfadd _ _ _ _ _ => some .vector
  | .vfsub _ _ _ _ _ => some .vector
  | .vfmul _ _ _ _ _ => some .vector
  | .vfma _ _ _ _ _ => some .vector
  | .vfms _ _ _ _ _ => some .vector
  | .vfnma _ _ _ _ _ => some .vector
  | .vfmaw _ _ _ _ _ _ _ => some .vector
  | .vfabs _ _ _ => some .vector
  | .vfneg _ _ _ => some .vector
  | .vmin _ _ _ _ => some .vector
  | .vmax _ _ _ _ => some .vector
  | .vminnum _ _ _ _ => some .vector
  | .vmaxnum _ _ _ _ => some .vector
  | .vfclamp _ _ _ _ => some .vector
  | .vfrnd _ _ _ _ => some .vector
  | .vfclass _ _ _ => some .vector
  | .vfcopys _ _ _ _ => some .vector
  | .vfscale _ _ _ _ _ => some .vector
  | .vfcmpeq _ _ _ _ => some .vector
  | .vfcmplt _ _ _ _ => some .vector
  | .vfcmple _ _ _ _ => some .vector
  | .vfcmpun _ _ _ _ => some .vector
  | .vcvtfi _ _ _ _ _ _ => some .vector
  | .vcvtif _ _ _ _ _ _ => some .vector
  | .vcvtff _ _ _ _ _ _ => some .vector
  | .vcvtii _ _ _ _ _ _ _ => some .vector
  | .vpack _ _ _ _ _ _ => some .vector
  | .vunpack _ _ _ _ _ => some .vector
  | .vqnq4 _ _ _ _ _ => some .vector
  | .vdqnq4 _ _ _ => some .vector
  | .vrcp _ _ _ _ => some .vector
  | .vrsqrt _ _ _ _ => some .vector
  | .vexp2 _ _ _ _ => some .vector
  | .vlog2 _ _ _ _ => some .vector
  | .vscacc _ _ _ _ _ => some .vector
  | .vcsum _ _ => some .vector
  | .vcsumRow _ _ _ _ => some .vector
  | .vcchk _ _ => some .vector
  | .vredadd _ _ _ => some .vector
  | .vredaddw _ _ _ _ => some .vector
  | .vredfadd _ _ _ _ => some .vector
  | .vredmin _ _ _ _ => some .vector
  | .vredmax _ _ _ _ => some .vector
  | .vredfmin _ _ _ => some .vector
  | .vredfmax _ _ _ => some .vector
  | .vredand _ _ _ => some .vector
  | .vredor _ _ _ => some .vector
  | .vbcast _ _ _ _ => some .vector
  | .vperm _ _ _ _ => some .vector
  | .vshuf _ _ _ _ => some .vector
  | .vrotl _ _ _ _ => some .vector
  | .vslide _ _ _ _ => some .vector
  | .vzip _ _ _ _ _ => some .vector
  | .vunzip _ _ _ _ _ => some .vector
  | .vrevl _ _ _ => some .vector
  | .vcompress _ _ _ _ _ => some .vector
  | .vexpand _ _ _ _ _ => some .vector
  | .vtopk _ _ _ _ _ => some .vector
  | .viota _ _ _ _ => some .vector
  | .vany _ _ _ _ => some .vector
  | .vall _ _ _ _ => some .vector
  | .vmcount _ _ _ => some .vector
  | .vmskg _ _ _ _ => some .vector
  | .vgmsk _ _ _ _ => some .vector
  | .vins _ _ _ _ => some .vector
  | .vext _ _ _ _ => some .vector
  | .tcfg _ _ _ => some .vector
  | .vcvt8 _ _ _ _ _ _ => some .vector
  | .vcvt8w _ _ _ _ _ => some .vector
  | .mnop => some .matrix
  | .mclr _ => some .matrix
  | .mpush _ _ _ => some .matrix
  | .macc _ _ _ => some .matrix
  | .mshift _ _ => some .matrix
  | .mdrain _ _ => some .matrix
  | .mswap => some .matrix
  | .mcfg _ _ => some .matrix
  | .xnop => some .transfer
  | .ldg _ _ _ _ _ _ => some .transfer
  | .ldgu _ _ _ _ _ _ => some .transfer
  | .ldgnc _ _ _ _ _ _ => some .transfer
  | .stg _ _ _ _ _ _ => some .transfer
  | .ldgv _ _ _ _ _ => some .transfer
  | .stgv _ _ _ _ _ => some .transfer
  | .prefg _ _ => some .transfer
  | .atadd _ _ _ _ _ _ => some .transfer
  | .atmin _ _ _ _ _ _ => some .transfer
  | .atmax _ _ _ _ _ _ => some .transfer
  | .atminu _ _ _ _ _ _ => some .transfer
  | .atmaxu _ _ _ _ _ _ => some .transfer
  | .atand _ _ _ _ _ _ => some .transfer
  | .ator _ _ _ _ _ _ => some .transfer
  | .atxor _ _ _ _ _ _ => some .transfer
  | .atxchg _ _ _ _ _ _ => some .transfer
  | .atcas _ _ _ _ _ _ => some .transfer
  | .atfadd _ _ _ _ _ => some .transfer
  | .atfmax _ _ _ _ _ => some .transfer
  | .fence _ _ _ => some .transfer
  | .ldfe _ _ _ _ _ => some .transfer
  | .stfe _ _ _ _ => some .transfer
  | .feset _ _ _ _ => some .transfer
  | .fetest _ _ _ _ => some .transfer
  | .gbar _ => some .transfer
  | .sbind _ _ _ => some .transfer
  | .sunbind _ _ => some .transfer
  | .treg _ _ _ => some .transfer
  | .tunreg _ _ => some .transfer
  | .ecopy _ _ _ => some .transfer
  | .emcast _ _ _ => some .transfer
  | .egather _ _ _ => some .transfer
  | .escatter _ _ _ => some .transfer
  | .eplane _ _ _ => some .transfer
  | .efeed _ _ _ => some .transfer
  | .ewait _ _ => some .transfer
  | .etest _ _ _ _ => some .transfer
  | .qpush _ _ _ => some .transfer
  | .qpop _ _ _ => some .transfer
  | .qlen _ _ _ => some .transfer
  | .cntadd _ _ => some .transfer
  | .cntrd _ _ => some .transfer
  | .kbind _ _ _ => some .transfer
  | .kunbind _ _ => some .transfer
  | .kstat _ _ _ => some .transfer
  | .susp _ _ => some .transfer
  | .cres _ _ => some .transfer
  | .cresT _ _ _ => some .transfer
  | .ccopy _ _ _ => some .transfer
  | .cdrop _ _ => some .transfer
  | .cinfo _ _ _ => some .transfer
  | .kslotld _ _ _ => some .transfer
  | .kslotz _ _ => some .transfer
  | .glean _ _ => some .transfer
  | .notify _ _ => some .transfer
  | .issueBundle _ => none
  | .fixedLatencyLanding _ => none
  | .loadValueLanding _ _ => none
  | .checkpointCommit _ => none
  | .commitQueuePerform _ _ => none
  | .yield _ => none
  | .idleCoreChoice _ => none
  | .spinlimPark _ => none
  | .parkEnd _ => none
  | .qpushRetry _ => none
  | .takeRecord _ _ _ _ => none
  | .loadingComplete _ => none
  | .groupPlacement _ _ _ => none
  | .releaseAsRecord _ => none
  | .drainingEnd _ => none
  | .dataErrorVerification _ => none
  | .streamFetch _ _ => none
  | .refreshWindowAdvance _ => none
  | .patrolScrub _ => none
  | .hbmCalibration _ => none
  | .linkCalibration _ => none
  | .translationWalk _ _ _ => none
  | .homeStackPerform _ _ => none
  | .dieUpdateApply _ _ => none
  | .copyEngineTransfer _ => none
  | .planeBuildSlice _ => none
  | .feedLoaderItem _ => none
  | .feedStorerItem _ => none
  | .weightLoadOperation _ => none
  | .completionObjectLanding _ => none
  | .queueAccept _ => none
  | .queueHeadRemove _ => none
  | .heathRefill _ _ => none
  | .queueMappingTick _ => none
  | .gangEnd _ _ => none
  | .gangIdFree _ _ => none
  | .launch _ _ => none
  | .graphNodeStart _ _ => none
  | .graphNodeComplete _ _ => none
  | .sliceDeadline _ => none
  | .ckwaitExpiry _ => none
  | .groupSave _ => none
  | .restorePlacement _ => none
  | .groupRestore _ _ => none
  | .packetSend _ _ => none
  | .packetArrival _ => none
  | .refusedResend _ _ => none
  | .landingEntryMove _ _ => none
  | .remoteOperationPerform _ _ => none
  | .remoteAckArrival _ _ => none
  | .remoteFailure _ _ _ => none
  | .revokeArrival _ _ _ => none
  | .purseDecay => none
  | .shareWindowStart _ => none
  | .shareExhausted _ _ _ => none
  | .gleanBlockWrite => none
  | .estateCreate _ => none
  | .estateDestroy _ => none
  | .plotCreate _ => none
  | .plotDestroy _ => none
  | .policyWrite _ => none
  | .policyRead _ => none
  | .grant _ => none
  | .ungrant _ => none
  | .root _ => none
  | .inval _ => none
  | .handle _ => none
  | .unhandle _ => none
  | .rights _ => none
  | .preempt _ => none
  | .pair _ => none
  | .qcreate _ => none
  | .attest _ => none
  | .timeset _ => none
  | .kreg _ => none
  | .kunreg _ => none
  | .greg _ => none
  | .gunreg _ => none
  | .mcmdUnknownOp _ => none
  | .frelResume _ => none
  | .frelRefuse _ => none
  | .flogConsWrite _ _ => none
  | .floglostClear _ _ => none
  | .patrolueClear _ => none
  | .registerWrite _ _ _ _ _ => none
  | .hostWindowAccess _ _ _ => none
  | .vfEnableClear => none
  | .vfEnableSet => none
  | .functionLevelReset _ => none
  | .powerOn => none
  | .startWarmRequest => none
  | .startColdRequest => none
  | .fundamentalReset => none
  | .clockLowering _ => none
  | .landingFullReplyArrival _ _ => none
  | .wearManagementMigration _ => none
  | .msixVectorUnmask _ _ => none
  | .clockRestore _ => none

/-- The bits of an instruction in its slot (R66 to R80); 0 for a machine step, which has none. -/
def encode : Instr → Nat
  | .bnop => eB0 0x00
  | .b cr cb cs off => eBC 0x01 cr cb cs off
  | .bA cr cb cs off => eBC 0x02 cr cb cs off
  | .br cr cb cs tr => eBCR 0x03 cr cb cs tr
  | .brA cr cb cs tr => eBCR 0x04 cr cb cs tr
  | .call lr off => eBCALL 0x05 lr off
  | .callr lr tr => eBCALLR 0x06 lr tr
  | .bvu vr cs off => eBV 0x07 vr cs off
  | .bvuA vr cs off => eBV 0x08 vr cs off
  | .loop tg off => eBLOOP 0x09 tg off
  | .loopi trip off => eBLOOPI 0x0A trip off
  | .loopm tg ii sc => eBLOOPM 0x0B tg ii sc
  | .loopmi trip ii sc => eBLOOPMI 0x0C trip ii sc
  | .lexit cr cb cs => eBLX 0x0D cr cb cs
  | .exit => eB0 0x0E
  | .trap code => eBTRAP 0x0F code
  | .snop => eSNOP 0x00
  | .add g d a b => eS2 0x01 g d a b
  | .sub g d a b => eS2 0x02 g d a b
  | .adds g d a b => eS2 0x03 g d a b
  | .subs g d a b => eS2 0x04 g d a b
  | .addus g d a b => eS2 0x05 g d a b
  | .subus g d a b => eS2 0x06 g d a b
  | .adc g d a b cy p z => eSCAR 0x07 g d a b cy p z
  | .sbc g d a b cy p z => eSCAR 0x08 g d a b cy p z
  | .mul g d a b => eS2 0x09 g d a b
  | .mulh g d a b => eS2 0x0A g d a b
  | .mulhu g d a b => eS2 0x0B g d a b
  | .madc g d a b cy p z => eSMADC 0x0C g d a b cy p z
  | .div g d a b => eS2 0x0D g d a b
  | .divu g d a b => eS2 0x0E g d a b
  | .rem g d a b => eS2 0x0F g d a b
  | .remu g d a b => eS2 0x10 g d a b
  | .and g d a b => eS2 0x11 g d a b
  | .or g d a b => eS2 0x12 g d a b
  | .xor g d a b => eS2 0x13 g d a b
  | .andn g d a b => eS2 0x14 g d a b
  | .orn g d a b => eS2 0x15 g d a b
  | .shl g d a b => eS2 0x16 g d a b
  | .shr g d a b => eS2 0x17 g d a b
  | .sra g d a b => eS2 0x18 g d a b
  | .rol g d a b => eS2 0x19 g d a b
  | .clz g d a => eS1 0x1A g d a
  | .ctz g d a => eS1 0x1B g d a
  | .popc g d a => eS1 0x1C g d a
  | .bext g d a b f => eSBEXT 0x1D g d a b f
  | .bins g d a b f => eSBINS 0x1E g d a b f
  | .sext g d a f => eSEXF 0x1F g d a f
  | .zext g d a f => eSEXF 0x20 g d a f
  | .cmpeq g d n a b => eSCMP 0x21 g d n a b
  | .cmpne g d n a b => eSCMP 0x22 g d n a b
  | .cmplt g d n a b => eSCMP 0x23 g d n a b
  | .cmple g d n a b => eSCMP 0x24 g d n a b
  | .cmpltu g d n a b => eSCMP 0x25 g d n a b
  | .cmpleu g d n a b => eSCMP 0x26 g d n a b
  | .min g d a b => eS2 0x27 g d a b
  | .max g d a b => eS2 0x28 g d a b
  | .minu g d a b => eS2 0x29 g d a b
  | .maxu g d a b => eS2 0x2A g d a b
  | .movi g d imm => eSMOVI 0x2B g d imm
  | .movk g d hw imm => eSMOVK 0x2C g d hw imm
  | .mfs g d csr => eSMFS 0x2D g d csr
  | .mts g a csr => eSMTS 0x2E g a csr
  | .movb g d n inv a bit => eSMOVB 0x2F g d n inv a bit
  | .fadd g d a b r => eSF2 0x30 g d a b r
  | .fsub g d a b r => eSF2 0x31 g d a b r
  | .fmul g d a b r => eSF2 0x32 g d a b r
  | .fma g d a b r => eSFMA 0x33 g d a b r
  | .fmin g d a b r => eSF2 0x34 g d a b r
  | .fmax g d a b r => eSF2 0x35 g d a b r
  | .fminnum g d a b r => eSF2 0x36 g d a b r
  | .fmaxnum g d a b r => eSF2 0x37 g d a b r
  | .fcmpeq g d n a b => eSCMP 0x38 g d n a b
  | .fcmplt g d n a b => eSCMP 0x39 g d n a b
  | .fcmple g d n a b => eSCMP 0x3A g d n a b
  | .fcmpun g d n a b => eSCMP 0x3B g d n a b
  | .fcvtif g d a r => eSF1 0x3C g d a r
  | .fcvtfi g d a r => eSF1 0x3D g d a r
  | .fcvtf g d a k r => eSFCVTF 0x3E g d a k r
  | .fclass g d a => eS1 0x3F g d a
  | .anop => eANOP 0x00
  | .lds g d a m => eALD 0x01 g d a m
  | .ldw g d a m => eALD 0x02 g d a m
  | .ldwu g d a m => eALD 0x03 g d a m
  | .ldh g d a m => eALD 0x04 g d a m
  | .ldhu g d a m => eALD 0x05 g d a m
  | .ldb g d a m => eALD 0x06 g d a m
  | .ldbu g d a m => eALD 0x07 g d a m
  | .sts g x a m => eAST 0x08 g x a m
  | .stw g x a m => eAST 0x09 g x a m
  | .sth g x a m => eAST 0x0A g x a m
  | .stb g x a m => eAST 0x0B g x a m
  | .ldv g v a m => eAVL 0x0C g v a m
  | .stv g v a m => eAVS 0x0D g v a m
  | .wlds g d a m => eALD 0x0E g d a m
  | .wldv g v a m => eAVL 0x0F g v a m
  | .aadd g a x => eAAX 0x10 g a x
  | .amov g a x => eAAX 0x11 g a x
  | .aget g d a => eAGETS 0x12 g d a
  | .mset g m x => eAMSET 0x13 g m x
  | .mget g d m => eAMGET 0x14 g d m
  | .lea g d a m => eALD 0x15 g d a m
  | .acmplt g d n a => eACMP 0x16 g d n a
  | .clrv g a m => eACLR 0x17 g a m
  | .vnop => eVNOP 0x00
  | .vmov g d a => eV1 0x01 g d a
  | .vadd g d a b => eV2 0x02 g d a b
  | .vsub g d a b => eV2 0x03 g d a b
  | .vadds g d a b => eV2 0x04 g d a b
  | .vsubs g d a b => eV2 0x05 g d a b
  | .vaddus g d a b => eV2 0x06 g d a b
  | .vsubus g d a b => eV2 0x07 g d a b
  | .vmul g d a b sat => eV2S 0x08 g d a b sat
  | .vmulh g d a b => eV2 0x09 g d a b
  | .vmulhu g d a b => eV2 0x0A g d a b
  | .vmulw g d a b h u => eVMULWS 0x0B g d a b h u
  | .vmacw g d a b h u sat => eVMACWS 0x0C g d a b h u sat
  | .vdot4 g d a b h u sat => eVMACWS 0x0D g d a b h u sat
  | .vmadc g d a b cy z => eVMADCS 0x0E g d a b cy z
  | .vadc g d a b cy z => eVCAR 0x0F g d a b cy z
  | .vsbc g d a b cy z => eVCAR 0x10 g d a b cy z
  | .vabs g d a sat => eV1S 0x11 g d a sat
  | .vneg g d a sat => eV1S 0x12 g d a sat
  | .vmini g d a b => eV2 0x13 g d a b
  | .vmaxi g d a b => eV2 0x14 g d a b
  | .vminu g d a b => eV2 0x15 g d a b
  | .vmaxu g d a b => eV2 0x16 g d a b
  | .vclamp g d a b => eV2 0x17 g d a b
  | .vavg g d a b => eV2 0x18 g d a b
  | .vavgu g d a b => eV2 0x19 g d a b
  | .vabd g d a b => eV2 0x1A g d a b
  | .vabdu g d a b => eV2 0x1B g d a b
  | .vand g d a b => eV2 0x1C g d a b
  | .vor g d a b => eV2 0x1D g d a b
  | .vxor g d a b => eV2 0x1E g d a b
  | .vandn g d a b => eV2 0x1F g d a b
  | .vbitsel g d a b => eV3 0x20 g d a b
  | .vshl g d a b sat => eV2S 0x21 g d a b sat
  | .vshr g d a b => eV2 0x22 g d a b
  | .vsra g d a b => eV2 0x23 g d a b
  | .vrol g d a b => eV2 0x24 g d a b
  | .vclz g d a => eV1 0x25 g d a
  | .vpopc g d a => eV1 0x26 g d a
  | .vbext g d a b f => eVBEXTS 0x27 g d a b f
  | .vbins g d a b f => eVBINSS 0x28 g d a b f
  | .vsext g d a f => eVEXF 0x29 g d a f
  | .vzext g d a f => eVEXF 0x2A g d a f
  | .vrev g d a => eV1 0x2B g d a
  | .vbswap g d a => eV1 0x2C g d a
  | .vcmpeq g d a b => eV2 0x2D g d a b
  | .vcmpne g d a b => eV2 0x2E g d a b
  | .vcmplt g d a b => eV2 0x2F g d a b
  | .vcmple g d a b => eV2 0x30 g d a b
  | .vcmpltu g d a b => eV2 0x31 g d a b
  | .vcmpleu g d a b => eV2 0x32 g d a b
  | .vsel g d a b => eV3 0x33 g d a b
  | .vfadd g d a b r => eVF2 0x34 g d a b r
  | .vfsub g d a b r => eVF2 0x35 g d a b r
  | .vfmul g d a b r => eVF2 0x36 g d a b r
  | .vfma g d a b r => eVF3 0x37 g d a b r
  | .vfms g d a b r => eVF3 0x38 g d a b r
  | .vfnma g d a b r => eVF3 0x39 g d a b r
  | .vfmaw g d a b h f r => eVFMAWS 0x3A g d a b h f r
  | .vfabs g d a => eV1 0x3B g d a
  | .vfneg g d a => eV1 0x3C g d a
  | .vmin g d a b => eV2 0x3D g d a b
  | .vmax g d a b => eV2 0x3E g d a b
  | .vminnum g d a b => eV2 0x3F g d a b
  | .vmaxnum g d a b => eV2 0x40 g d a b
  | .vfclamp g d a b => eV2 0x41 g d a b
  | .vfrnd g d a r => eVF1 0x42 g d a r
  | .vfclass g d a => eV1 0x43 g d a
  | .vfcopys g d a b => eV2 0x44 g d a b
  | .vfscale g d a b r => eVF2 0x45 g d a b r
  | .vfcmpeq g d a b => eV2 0x46 g d a b
  | .vfcmplt g d a b => eV2 0x47 g d a b
  | .vfcmple g d a b => eV2 0x48 g d a b
  | .vfcmpun g d a b => eV2 0x49 g d a b
  | .vcvtfi g d a f u r => eVCVT 0x4A g d a f u r
  | .vcvtif g d a f u r => eVCVT 0x4B g d a f u r
  | .vcvtff g d a k h r => eVCVTFFS 0x4C g d a k h r
  | .vcvtii g d a k h u sat => eVCVTIIS 0x4D g d a k h u sat
  | .vpack g d a q u sat => eVPACKS 0x4E g d a q u sat
  | .vunpack g d a q u => eVQU 0x4F g d a q u
  | .vqnq4 g d a ty r => eVQNQ 0x50 g d a ty r
  | .vdqnq4 g d a => eV1 0x51 g d a
  | .vrcp g d a r => eVF1 0x52 g d a r
  | .vrsqrt g d a r => eVF1 0x53 g d a r
  | .vexp2 g d a r => eVF1 0x54 g d a r
  | .vlog2 g d a r => eVF1 0x55 g d a r
  | .vscacc g d a b ga => eVSCA 0x56 g d a b ga
  | .vcsum g t => eVCS0 0x57 g t
  | .vcsumRow g d t sel => eVCSR 0x57 g d t sel
  | .vcchk g t => eVCK 0x58 g t
  | .vredadd g d a => eV1 0x59 g d a
  | .vredaddw g d a u => eVRU 0x5A g d a u
  | .vredfadd g d a r => eVF1 0x5B g d a r
  | .vredmin g d a u => eVRU 0x5C g d a u
  | .vredmax g d a u => eVRU 0x5D g d a u
  | .vredfmin g d a => eV1 0x5E g d a
  | .vredfmax g d a => eV1 0x5F g d a
  | .vredand g d a => eV1 0x60 g d a
  | .vredor g d a => eV1 0x61 g d a
  | .vbcast g d a b => eV2 0x62 g d a b
  | .vperm g d a b => eV2 0x63 g d a b
  | .vshuf g d a b => eV3 0x64 g d a b
  | .vrotl g d a b => eV2 0x65 g d a b
  | .vslide g d a b => eV2 0x66 g d a b
  | .vzip g d a b h => eV2H 0x67 g d a b h
  | .vunzip g d a b h => eV2H 0x68 g d a b h
  | .vrevl g d a => eV1 0x69 g d a
  | .vcompress g d a b n => eVCE 0x6A g d a b n
  | .vexpand g d a b n => eVCE 0x6B g d a b n
  | .vtopk g d a b h => eV2H 0x6C g d a b h
  | .viota g d a u => eVIOTA 0x6D g d a u
  | .vany g gn b a => eVANYS 0x6E g gn b a
  | .vall g gn b a => eVANYS 0x6F g gn b a
  | .vmcount g gn a => eVMCNT 0x70 g gn a
  | .vmskg g gn a q => eVMSKGS 0x71 g gn a q
  | .vgmsk g d gs q => eVGMSKS 0x72 g d gs q
  | .vins g d gs t => eVINSS 0x73 g d gs t
  | .vext g gn a t => eVEXTS 0x74 g gn a t
  | .tcfg g t ty => eVTCFG 0x75 g t ty
  | .vcvt8 g d a q e r => eVCVT8S 0x76 g d a q e r
  | .vcvt8w g d a q u => eVQU 0x77 g d a q u
  | .mnop => eM0 0x00
  | .mclr set => eMSET1 0x01 set
  | .mpush w sa sb => eMBEAT 0x02 w sa sb
  | .macc w sa sb => eMBEAT 0x03 w sa sb
  | .mshift sa sb => eMSH 0x04 sa sb
  | .mdrain arow t => eMDR 0x05 arow t
  | .mswap => eM0 0x06
  | .mcfg pa pb => eMCF 0x07 pa pb
  | .xnop => eXNOP 0x00
  | .ldg g d s size acq scope => eXLD 0x01 g d s size acq scope
  | .ldgu g d s size acq scope => eXLD 0x02 g d s size acq scope
  | .ldgnc g d s size acq scope => eXLD 0x03 g d s size acq scope
  | .stg g d s size rel scope => eXST 0x04 g d s size rel scope
  | .ldgv g v s acq scope => eXLDV 0x05 g v s acq scope
  | .stgv g v s rel scope => eXSTV 0x06 g v s rel scope
  | .prefg g s => eXPF 0x07 g s
  | .atadd g d s wide ord scope => eXAT 0x08 g d s wide ord scope
  | .atmin g d s wide ord scope => eXAT 0x09 g d s wide ord scope
  | .atmax g d s wide ord scope => eXAT 0x0A g d s wide ord scope
  | .atminu g d s wide ord scope => eXAT 0x0B g d s wide ord scope
  | .atmaxu g d s wide ord scope => eXAT 0x0C g d s wide ord scope
  | .atand g d s wide ord scope => eXAT 0x0D g d s wide ord scope
  | .ator g d s wide ord scope => eXAT 0x0E g d s wide ord scope
  | .atxor g d s wide ord scope => eXAT 0x0F g d s wide ord scope
  | .atxchg g d s wide ord scope => eXAT 0x10 g d s wide ord scope
  | .atcas g d s wide ord scope => eXATCAS 0x11 g d s wide ord scope
  | .atfadd g d s ord scope => eXATF 0x12 g d s ord scope
  | .atfmax g d s ord scope => eXATF 0x13 g d s ord scope
  | .fence g ord scope => eXFENCE 0x14 g ord scope
  | .ldfe g p q size clear => eXLDFE 0x15 g p q size clear
  | .stfe g p q size => eXSTFE 0x16 g p q size
  | .feset g p q v => eXFESET 0x17 g p q v
  | .fetest g p b q => eXTEST 0x18 g p b q
  | .gbar g => eXG 0x19 g
  | .sbind g n q => eXSB 0x1A g n q
  | .sunbind g n => eXSU 0x1B g n
  | .treg g e q => eXTR 0x1C g e q
  | .tunreg g e => eXTU 0x1D g e
  | .ecopy g p q => eXEN 0x1E g p q
  | .emcast g p q => eXEN 0x1F g p q
  | .egather g p q => eXEN 0x20 g p q
  | .escatter g p q => eXEN 0x21 g p q
  | .eplane g p q => eXEN 0x22 g p q
  | .efeed g p q => eXEN 0x23 g p q
  | .ewait g q => eXQ 0x24 g q
  | .etest g p b q => eXTEST 0x25 g p b q
  | .qpush g p q => eXEN 0x26 g p q
  | .qpop g p q => eXEN 0x27 g p q
  | .qlen g p q => eXPQ 0x28 g p q
  | .cntadd g q => eXQ 0x29 g q
  | .cntrd g d => eXCNTRD 0x2A g d
  | .kbind g n q => eXKB 0x2B g n q
  | .kunbind g n => eXKU 0x2C g n
  | .kstat g d n => eXKS 0x2D g d n
  | .susp g q => eXQ 0x2E g q
  | .cres g q => eXQ 0x2F g q
  | .cresT g p q => eXPQ 0x30 g p q
  | .ccopy g p q => eXPQ 0x31 g p q
  | .cdrop g q => eXQ 0x32 g q
  | .cinfo g p q => eXEN 0x33 g p q
  | .kslotld g p q => eXEN 0x34 g p q
  | .kslotz g q => eXQ 0x35 g q
  | .glean g p => eXP8 0x36 g p
  | .notify g q => eXQ 0x37 g q
  | .issueBundle _ => 0
  | .fixedLatencyLanding _ => 0
  | .loadValueLanding _ _ => 0
  | .checkpointCommit _ => 0
  | .commitQueuePerform _ _ => 0
  | .yield _ => 0
  | .idleCoreChoice _ => 0
  | .spinlimPark _ => 0
  | .parkEnd _ => 0
  | .qpushRetry _ => 0
  | .takeRecord _ _ _ _ => 0
  | .loadingComplete _ => 0
  | .groupPlacement _ _ _ => 0
  | .releaseAsRecord _ => 0
  | .drainingEnd _ => 0
  | .dataErrorVerification _ => 0
  | .streamFetch _ _ => 0
  | .refreshWindowAdvance _ => 0
  | .patrolScrub _ => 0
  | .hbmCalibration _ => 0
  | .linkCalibration _ => 0
  | .translationWalk _ _ _ => 0
  | .homeStackPerform _ _ => 0
  | .dieUpdateApply _ _ => 0
  | .copyEngineTransfer _ => 0
  | .planeBuildSlice _ => 0
  | .feedLoaderItem _ => 0
  | .feedStorerItem _ => 0
  | .weightLoadOperation _ => 0
  | .completionObjectLanding _ => 0
  | .queueAccept _ => 0
  | .queueHeadRemove _ => 0
  | .heathRefill _ _ => 0
  | .queueMappingTick _ => 0
  | .gangEnd _ _ => 0
  | .gangIdFree _ _ => 0
  | .launch _ _ => 0
  | .graphNodeStart _ _ => 0
  | .graphNodeComplete _ _ => 0
  | .sliceDeadline _ => 0
  | .ckwaitExpiry _ => 0
  | .groupSave _ => 0
  | .restorePlacement _ => 0
  | .groupRestore _ _ => 0
  | .packetSend _ _ => 0
  | .packetArrival _ => 0
  | .refusedResend _ _ => 0
  | .landingEntryMove _ _ => 0
  | .remoteOperationPerform _ _ => 0
  | .remoteAckArrival _ _ => 0
  | .remoteFailure _ _ _ => 0
  | .revokeArrival _ _ _ => 0
  | .purseDecay => 0
  | .shareWindowStart _ => 0
  | .shareExhausted _ _ _ => 0
  | .gleanBlockWrite => 0
  | .estateCreate _ => 0
  | .estateDestroy _ => 0
  | .plotCreate _ => 0
  | .plotDestroy _ => 0
  | .policyWrite _ => 0
  | .policyRead _ => 0
  | .grant _ => 0
  | .ungrant _ => 0
  | .root _ => 0
  | .inval _ => 0
  | .handle _ => 0
  | .unhandle _ => 0
  | .rights _ => 0
  | .preempt _ => 0
  | .pair _ => 0
  | .qcreate _ => 0
  | .attest _ => 0
  | .timeset _ => 0
  | .kreg _ => 0
  | .kunreg _ => 0
  | .greg _ => 0
  | .gunreg _ => 0
  | .mcmdUnknownOp _ => 0
  | .frelResume _ => 0
  | .frelRefuse _ => 0
  | .flogConsWrite _ _ => 0
  | .floglostClear _ _ => 0
  | .patrolueClear _ => 0
  | .registerWrite _ _ _ _ _ => 0
  | .hostWindowAccess _ _ _ => 0
  | .vfEnableClear => 0
  | .vfEnableSet => 0
  | .functionLevelReset _ => 0
  | .powerOn => 0
  | .startWarmRequest => 0
  | .startColdRequest => 0
  | .fundamentalReset => 0
  | .clockLowering _ => 0
  | .landingFullReplyArrival _ _ => 0
  | .wearManagementMigration _ => 0
  | .msixVectorUnmask _ _ => 0
  | .clockRestore _ => 0

/-- The width of a slot in bits (R57). -/
def SlotClass.bits : SlotClass → Nat
  | .branch => 32 | .scalar => 48 | .address => 40 | .vector => 56 | .matrix => 32 | .transfer => 40

/-- The decoder of a slot: total, an instruction or the check that rejects the bits. -/
noncomputable def decodeSlot : SlotClass → Nat → Except Reject Instr
  | .branch, w => decodeBranch w
  | .scalar, w => decodeScalar w
  | .address, w => decodeAddress w
  | .vector, w => decodeVector w
  | .matrix, w => decodeMatrix w
  | .transfer, w => decodeTransfer w

/-! ### Bundles (R57, R58) -/

/-- The header of a bundle (R58). -/
structure Header where
  ckpt : Bool
  yield : Bool
  stage : Fin 8
  level : Fin 8
  first : Bool
  last : Bool
  live : Fin 64
deriving DecidableEq, Repr

def Header.dec (v : Nat) : Header :=
  ⟨v / 32768 % 2 == 1, v / 16384 % 2 == 1, Fin.ofNat 8 (v / 2048), Fin.ofNat 8 (v / 256), v / 128 % 2 == 1,
    v / 64 % 2 == 1, Fin.ofNat 64 v⟩

def Header.enc (h : Header) : Nat :=
  pack [(h.ckpt.toNat, 1), (h.yield.toNat, 1), (h.stage, 3), (h.level, 3), (h.first.toNat, 1), (h.last.toNat, 1), (h.live, 6)]

/-- The raw fields of a bundle (R57): header, branch, scalar A, scalar B, address, V0, V1, matrix, transfer, pool. -/
def bundleFmt : List Nat := [16, 32, 48, 48, 40, 56, 56, 32, 40, 16]

/-- A decoded bundle: the eight slots in the order of R24, and the pool. -/
structure Bundle where
  hdr : Header
  br : Instr
  scA : Instr
  scB : Instr
  ad : Instr
  v0 : Instr
  v1 : Instr
  ma : Instr
  xf : Instr
  pool : BitVec 16
deriving DecidableEq, Repr

/-- The all-zero bundle of an idle run (R51). -/
def Bundle.idle : Bundle :=
  ⟨Header.dec 0, .bnop, .snop, .snop, .anop, .vnop, .vnop, .mnop, .xnop, 0⟩

/-- The slot classes of a bundle, in the order of R24. -/
def bundleClasses : List SlotClass :=
  [.branch, .scalar, .scalar, .address, .vector, .vector, .matrix, .transfer]

/-- The outcomes of decoding each slot of a 384-bit bundle, in the order of R24. -/
noncomputable def decodeSlots (w : Nat) : List (Except Reject Instr) :=
  match unpack bundleFmt w with
  | [_, b, a0, a1, ad, v0, v1, m, x, _] =>
    [decodeBranch b, decodeScalar a0, decodeScalar a1, decodeAddress ad, decodeVector v0, decodeVector v1,
      decodeMatrix m, decodeTransfer x]
  | _ => []

/-- The bundle that 384 bits hold, or the first slot that is rejected. -/
noncomputable def decodeBundle (w : Nat) : Except Reject Bundle :=
  match decodeSlots w with
  | [.ok b, .ok a0, .ok a1, .ok ad, .ok v0, .ok v1, .ok m, .ok x] =>
    .ok ⟨Header.dec (w / 2 ^ 368), b, a0, a1, ad, v0, v1, m, x, BitVec.ofNat 16 w⟩
  | rs => .error ((rs.findSome? fun | .error e => some e | .ok _ => none).getD .unassignedOpcode)

/-- The 384 bits of a bundle (R57). -/
def encodeBundle (b : Bundle) : Nat :=
  word bundleFmt [b.hdr.enc, encode b.br, encode b.scA, encode b.scB, encode b.ad, encode b.v0, encode b.v1, encode b.ma,
    encode b.xf, b.pool.toNat]

/-- The slot that an encoding of so many bits belongs to. A 32-bit word is a branch slot or a matrix slot, and the word
alone does not say which: it is read as a branch, and as a matrix slot where the branch decoder refuses it
(DESIGN CHOICE, log entry 1: only a bundle says which slot a word stands in). -/
noncomputable def decodeTableWord (nbits w : Nat) : Option Instr :=
  match nbits with
  | 32 =>
    match decodeBranch w with
    | .ok i => some i
    | .error _ => (decodeMatrix w).toOption
  | 40 =>
    match decodeAddress w with
    | .ok i => some i
    | .error _ => (decodeTransfer w).toOption
  | 48 => (decodeScalar w).toOption
  | 56 => (decodeVector w).toOption
  | _ => none

end Sys2Proof
end

