-- ==== Sys2Proof/Machine/Matrix.lean ====
section
/-!
DEFINITION. The bit-plane matrix array (R191 to R204): slices, beats, the drain with its checks, the set operations.
-/
namespace Sys2Proof.Machine

/-! ### Slices (R192, R196) -/

/-- n signed operands of a slice whose sign plane and four magnitude planes are words of n bits, then its check word. -/
def sliceOps (n : Nat) (e : List Byte) : List Int :=
  let v := ofBytes e
  let plane (p : Nat) := bits v (n * p) n
  (List.range n).map (fun i =>
    let m : Nat := (List.range 4).foldl (fun acc p => acc + bits (plane (p + 1)) i 1 * 2 ^ p) 0
    if bitAt (plane 0) i then -(m : Int) else m) ++ [toS 64 (bits v (n * 5) 64)]

/-- SPECIAL and PLANES of a plane stream's tile, as its fetcher read them (R197, R199, R252): the mask and the count. -/
def Binding.special (b : Binding) : Nat := (b.header.map Prod.fst).getD 0
def Binding.planes (b : Binding) : Nat := (b.header.map Prod.snd).getD 0

/-! ### Parity (R194, R197, R203) -/

/-- The parity bits of a row of accumulators. -/
def parityRow (r : Vector W32 129) : BitVec 129 :=
  BitVec.ofNat 129 (r.toList.foldr (fun x acc => acc * 2 + popc 32 x.toNat % 2) 0)

/-- Whether every parity bit of a set agrees. -/
def ArraySet.parityOk (t : ArraySet) : Bool := decide (t.acc.map parityRow = t.parity)

/-! ### Beats (R197 to R199) -/

/-- A beat on a set: `f old p` is the new accumulator before the reduction modulo 2^32. -/
def ArraySet.beat (t : ArraySet) (f : Nat → Int → Int) (a b : List Int) : ArraySet :=
  let acc := Vector.ofFn fun i : Fin 65 => Vector.ofFn fun j : Fin 129 =>
    BitVec.ofNat 32 (wrap 32 (f (t.acc[i][j]).toNat (a.getD i.val 0 * b.getD j.val 0)))
  { t with acc := acc, parity := acc.map parityRow }

/-- A plane stream of a kind, bound (R198). -/
def planeStream (c : Context) (n : SReg) (kind : Nat) : Except Halt Binding :=
  match c.bind[n] with
  | none => cause 0x0B n.val
  | some b => if b.kind = kind then .ok b else cause 0x0B n.val

/-- What a beat takes: kinds and ends of both streams, slices ready, precisions (R197 to R199). -/
def beatTakes (c : Context) (sa sb : SReg) : Except Halt (Context × (Binding × List Byte) × (Binding × List Byte)) := do
  let ba ← planeStream c sa 2
  let bb ← planeStream c sb 3
  let (c, ea) ← popElement c sa ba
  let (c, eb) ← popElement c sb bb
  if 4 * (c.w.pa.val + 1) < ba.planes ∨ 4 * (c.w.pb.val + 1) < bb.planes then cause 0x0E
  else .ok (c, (ba, ea), (bb, eb))

/-- The working set after a beat: the cells and the special-value records (R197). `fresh` is MPUSH's. -/
def ArraySet.beatWith (t : ArraySet) (fresh : Bool) (f : Nat → Int → Int) (a b : Binding × List Byte) : ArraySet :=
  { t.beat f (sliceOps 64 a.2) (sliceOps 128 b.2) with
    rowsp := (if fresh then 0 else t.rowsp) ||| BitVec.ofNat 64 a.1.special
    colsp := (if fresh then 0 else t.colsp) ||| BitVec.ofNat 128 b.1.special }

/-- The three beats. A parity error of the accumulators that a beat reads comes before every cause of its operands; a beat that freezes reads
none (R197, R346). -/
def matBeat (sa sb : SReg) (fresh : Bool) (f : Nat → Int → Int) : Slot := fun _ c =>
  let r := beatTakes c sa sb
  let bad := !fresh && !c.w.work.parityOk
  match r with
  | .error (.freeze why on b) => .error (.freeze why on b)
  | .error h => .error (if bad then .dataErr 0x16 3 else h)
  | .ok (c, a, b) => if bad then .error (.dataErr 0x16 3) else .ok { c with w := { c.w with work := c.w.work.beatWith fresh f a b } }

/-! ### The drain (R203, R204) -/

/-- The sum of 32-bit words modulo 2^32. -/
def sum32 (l : List W32) : W32 := l.foldl (· + ·) 0

/-- The row check of the draining set: parity, and the row against its checksum cell. -/
def ArraySet.rowOk (t : ArraySet) (i : Row64) : Bool :=
  let r := t.acc.getD i.val (.replicate 129 0)
  parityRow r == t.parity.getD i.val 0 && sum32 (r.toList.take 128) == r[128]

/-- The set after row i has been added to the drained sums. -/
def ArraySet.addDrained (t : ArraySet) (i : Row64) : ArraySet :=
  if t.dmask.getLsbD i.val then t
  else
    let r := t.acc.getD i.val (.replicate 129 0)
    { t with dcol := Vector.ofFn fun j => t.dcol[j] + r[j], dmask := t.dmask ||| BitVec.twoPow 64 i.val }

/-- The column check, due when this drain completes the rows. -/
def ArraySet.colOk (old new : ArraySet) : Bool :=
  new.dmask != BitVec.allOnes 64 || old.dmask == BitVec.allOnes 64 || new.dcol == new.acc[64]

/-- The drained lanes with the marks of special values (R203, R205). -/
def ArraySet.drained (t : ArraySet) (i : Row64) : Row × BitVec 128 :=
  let r := t.acc.getD i.val (.replicate 129 0)
  let marks : BitVec 128 := if t.rowsp.getLsbD i.val then BitVec.allOnes 128 else t.colsp
  (ofLanes 32 ((List.range 128).map fun j => if marks.getLsbD j then 0x7FC00000 else (r.getD j 0).toNat), marks)

/-- MDRAIN: the checks first, T0's type, then the row on its way and the drained sums (R203, R204, R346). -/
def matDrain (arow t : Row64) : Slot := fun s c =>
  let d := c.w.drain
  let d1 := d.addDrained arow
  if !d.rowOk arow || !d.colOk d1 then .error (.dataErr 0x16 0)
  else if c.w.t0.ty ≠ .i32 then typeFault
  else
    let (x, marks) := d.drained arow
    let c := { c with w := { c.w with drain := d1 } }
    .ok (c.flyAdd s 2 ([.drained t x marks] ++ flagWr (if marks = 0 then 0 else flNV)))

/-! ### The meanings (R201 to R203) -/

/-- MNOP (R201). -/
def slotMnop : Slot := fun _ c => .ok c
def execMnop (s : State) : St State := runSlot slotMnop s

/-- MCLR (R202): the set with its records. -/
def slotMclr (set : Bool) : Slot := fun _ c =>
  .ok { c with w := if set then { c.w with drain := .zero } else { c.w with work := .zero } }
def execMclr (set : Bool) (s : State) : St State := runSlot (slotMclr set) s

/-- MPUSH (R197): p·2^(4W). -/
def slotMpush (w : Wt) (sa sb : SReg) : Slot := matBeat sa sb true fun _ p => p * (2 ^ (4 * w.val) : Nat)
def execMpush (w : Wt) (sa sb : SReg) (s : State) : St State := runSlot (slotMpush w sa sb) s

/-- MACC (R197): the accumulator and p·2^(4W). -/
def slotMacc (w : Wt) (sa sb : SReg) : Slot := matBeat sa sb false fun a p => (a : Int) + p * (2 ^ (4 * w.val) : Nat)
def execMacc (w : Wt) (sa sb : SReg) (s : State) : St State := runSlot (slotMacc w sa sb) s

/-- MSHIFT (R197): the accumulator times 16, and p. -/
def slotMshift (sa sb : SReg) : Slot := matBeat sa sb false fun a p => (a : Int) * 16 + p
def execMshift (sa sb : SReg) (s : State) : St State := runSlot (slotMshift sa sb) s

/-- MDRAIN (R203, R204). -/
def slotMdrain (arow t : Row64) : Slot := matDrain arow t
def execMdrain (arow t : Row64) (s : State) : St State := runSlot (slotMdrain arow t) s

/-- MSWAP (R202): the sets exchanged, the new draining set's drained sums cleared. -/
def slotMswap : Slot := fun _ c =>
  .ok { c with w := { c.w with work := c.w.drain, drain := { c.w.work with dmask := 0, dcol := .replicate 129 0 } } }
def execMswap (s : State) : St State := runSlot slotMswap s

/-- MCFG (R199, R202): precisions for the beats of later bundles. -/
def slotMcfg (pa pb : Code4) : Slot := fun _ c =>
  .ok { c with w := { c.w with pa := Fin.ofNat 4 pa.val, pb := Fin.ofNat 4 pb.val } }
def execMcfg (pa pb : Code4) (s : State) : St State := runSlot (slotMcfg pa pb) s

end Sys2Proof.Machine
end

