-- ==== Sys2Proof/Machine/Branch.lean ====
section
/-!
DEFINITION. The code stream and the program-counter queue (R33, R34, R49), the loop sequencer (R38 to R43), and the branch
slot (R75, R116 to R126).
-/
namespace Sys2Proof.Machine

/-! ### The code stream (R34, R49) -/

/-- The code word at an address; none outside the code. -/
def Kernel.at (k : Kernel) (a : Nat) : Option W16 := k.code[a]?

/-- The bundles of an idle run at an address: its count word and one more. A run cut off before its count word has one. -/
def Kernel.idleRun (k : Kernel) (a : Nat) : Nat := ((k.at (a + 1)).getD 0).toNat + 1

/-- The entry that follows in the code stream, the sequencer apart (R34). -/
def Kernel.next (k : Kernel) (e : PcEntry) : PcEntry :=
  let a := e.addr.toNat
  match k.at a with
  | some w =>
    if w = 0xFFFF then .at (e.addr + 25)
    else if w = 0xFFFE then
      if e.idle.toNat + 1 < k.idleRun a then { PcEntry.at e.addr with idle := e.idle + 1 } else .at (e.addr + 2)
    else .at (e.addr + 1)
  | none => .at (e.addr + 1)

/-! ### The sequencer (R38 to R42) -/

/-- The iterations that a level runs in all (R42). -/
def Level.total (l : Level) : Nat :=
  match l.modulo with
  | none => l.trip.toNat
  | some (_, sc) => l.trip.toNat + sc.val

/-- Bit s of the stage predicates at the start of kernel iteration k (R42). -/
def spAt (trip sc k : Nat) : BitVec 8 :=
  BitVec.ofNat 8 ((List.range 8).foldl (fun acc i => if 0 < i ∧ i ≤ sc ∧ i ≤ k ∧ k < i + trip then acc + 2 ^ i else acc) 0)

/-- Stage predicates as the level's iteration gives them; an ordinary level leaves them. -/
def Level.sp (l : Level) (old : BitVec 8) : BitVec 8 :=
  match l.modulo with
  | none => old
  | some (_, sc) => spAt l.trip.toNat sc.val l.iter

/-- What the sequencer does at the issue of the bundle at x: the levels left, the level numbers whose strides apply, and
the loop-back, if there is one (R39). Levels stand innermost first. -/
def seqStep (x : W32) : List Level → List Level × List Nat × Option W32
  | [] => ([], [], none)
  | l :: ls =>
    if l.stop = x then
      if l.iter + 1 < l.total then ({ l with iter := l.iter + 1 } :: ls, [ls.length], some l.start)
      else
        let (r, st, b) := seqStep x ls
        (r, ls.length :: st, b)
    else (l :: ls, [], none)

/-- The sequencer's steps at entries that are to issue, in order; the last one's loop-back. Entries inside an idle run
meet no level. -/
def seqAhead : List PcEntry → List Level → List Level × Option W32
  | [], ls => (ls, none)
  | e :: es, ls =>
    let (ls1, back) := if e.idle = 0 then ((seqStep e.addr ls).1, (seqStep e.addr ls).2.2) else (ls, none)
    match es with
    | [] => (ls1, back)
    | _ => seqAhead es ls1

/-- succ of the last of the queued entries, with the sequencer as it will stand when that entry issues (R34, R122). -/
def seqSucc (k : Kernel) (levels : List Level) (queue : List PcEntry) (last : PcEntry) : PcEntry :=
  let nxt := k.next last
  if nxt.idle = 0 then
    match (seqAhead queue levels.reverse).2 with
    | some b => .at b
    | none => nxt
  else nxt

/-- The sum of the strides of levels, for each address register (R39). -/
def strideSum (st : Vector W32 96) (ls : List Nat) : Vector W32 16 :=
  Vector.ofFn fun n => (ls.map fun l => st.getD (16 * l + n.val) 0).foldl (· + ·) 0

/-- The sequencer's own step at the bundle that is issuing. -/
def Context.seqIssue (c : Context) : Context :=
  if c.w.pc.idle = 0 then
    let (ls, st, back) := seqStep c.w.pc.addr c.w.levels.reverse
    let lv := ls.reverse
    let sp := match back, ls.head? with
      | some _, some l => l.sp c.w.sp
      | _, _ => c.w.sp
    { c with
      w := { c.w with levels := lv, sp := sp }
      strides := if st.isEmpty then none else some (strideSum c.w.lstride st, false) }
  else c

/-- A taken branch closes every active level whose body its target leaves, and those inside it (R40). -/
def closeLevels (target : W32) (ls : List Level) : List Level :=
  ls.takeWhile fun l => decide (l.start.toNat ≤ target.toNat ∧ target.toNat ≤ l.stop.toNat)

/-- LEXIT on the innermost level (R122). -/
def Context.lexitAct (c : Context) : Context :=
  match c.w.levels.reverse with
  | [] => c
  | l :: ls =>
    let passed := [c.w.pc, c.w.npc, c.w.nnpc].any fun e => e.addr == l.stop
    let n := l.iter + (if passed then 2 else 1)
    let l1 := { l with trip := BitVec.ofNat 32 (min l.trip.toNat n) }
    { c with w := { c.w with levels := (l1 :: ls).reverse } }

/-- The queue and the sequencer after an issue (R33 to R42): the branch slot's LEXIT, the sequencer's step, the level that
opens, the levels that a taken branch closes, and the new queue. A level is active from its LOOP's own issue (DESIGN CHOICE, log entry 161). -/
def Context.queueAfter (k : Kernel) (c : Context) : Context :=
  let old := c.w.levels
  let c := (match c.br with
    | .lexit => c.lexitAct
    | _ => c).seqIssue
  let npc := c.w.npc
  let nnpc := c.w.nnpc
  match c.br with
  | .taken t via =>
    { c with w := { c.w with
        levels := closeLevels t c.w.levels
        pc := npc, npc := nnpc, nnpc := { PcEntry.at t with viaReg := via } } }
  | .notTaken annul =>
    { c with w := { c.w with
        pc := { npc with annul := npc.annul || annul }, npc := { nnpc with annul := nnpc.annul || annul }
        nnpc := seqSucc k c.w.levels [npc, nnpc] nnpc } }
  | .loop trip stop m =>
    let start := (k.next nnpc).addr
    let stop := match m with
      | some (ii, _) => start + ii.setWidth 32
      | none => stop
    if trip = 0 then
      { c with w := { c.w with
          pc := npc, npc := nnpc, nnpc := seqSucc k c.w.levels [npc, .at stop] (.at stop) } }
    else
      let l : Level := ⟨trip, 0, start, stop, m⟩
      { c with w := { c.w with
          levels := c.w.levels ++ [l], sp := l.sp c.w.sp, pc := npc, npc := nnpc, nnpc := .at start } }
  | .lexit =>
    -- in a body of one bundle the positions behind pc were formed under the old count
    let single := match old.getLast? with
      | some l => c.w.pc.idle == 0 && c.w.pc.addr == l.stop && npc.addr == l.stop && nnpc.addr == l.stop
      | none => false
    let n1 := if single then seqSucc k c.w.levels [npc] npc else nnpc
    { c with w := { c.w with pc := npc, npc := n1, nnpc := seqSucc k c.w.levels [npc, n1] n1 } }
  | .exit => c
  | .none => { c with w := { c.w with pc := npc, npc := nnpc, nnpc := seqSucc k c.w.levels [npc, nnpc] nnpc } }

/-! ### Shapes of the branch slot -/

/-- The target of a direct branch (R116). -/
def directTarget (s : State) (off : Off15) : W32 := s.iss.caddr + off.signExtend 32

/-- A branch on a condition bit (R116, R117). -/
def condBranch (cr : GReg) (cb : BitNo) (cs annul via : Bool) (target : State → Context → Except Halt W32) : Slot := fun s c => do
  let v ← readG s c cr
  let t ← target s c
  if v.getLsbD cb.val = cs then .ok { c with br := .taken t via } else .ok { c with br := .notTaken annul }

/-- gTR[31:0]. -/
def regTarget (tr : GReg) (s : State) (c : Context) : Except Halt W32 := do
  let v ← readG s c tr
  .ok (v.setWidth 32)

/-- A call: the link is succ(nnpc) as the queue stands at issue (R75, R118). -/
def callTo (lr : GReg) (via : Bool) (target : State → Context → Except Halt W32) : Slot := fun s c => do
  let t ← target s c
  let q := c.seqIssue
  let link := (seqSucc (s.kernel c) q.w.levels [c.w.npc, c.w.nnpc] c.w.nnpc).addr
  .ok { c.flyAdd s 1 [.g lr (link.setWidth 64)] with br := .taken t via }

/-- A branch on the lanes of a row, which must agree (R119). -/
def uniformBranch (vr : VReg) (cs annul : Bool) (off : Off15) : Slot := fun s c => do
  let x ← readV s c vr
  let u := (lanes (ttWidth (c.w.tile (vTile vr)).ty) x).map (· != 0)
  let b := u.headD false
  if u.all (· == b) then
    if b = cs then .ok { c with br := .taken (directTarget s off) false } else .ok { c with br := .notTaken annul }
  else cause 0x05

/-- Open a level (R38, R120, R121, R125). -/
def openLevel (trip : State → Context → Except Halt W32) (stop : State → W32) (m : Option (Ii × Sc)) : Slot := fun s c => do
  let t ← trip s c
  if 6 ≤ c.w.levels.length then cause 0x04 else .ok { c with br := .loop t (stop s) m }

/-! ### The instructions -/

/-- BNOP (R60). -/
def slotBnop : Slot := fun _ c => .ok c
def execBnop (s : State) : St State := runSlot slotBnop s

/-- B (R117). -/
def slotB (cr : GReg) (cb : BitNo) (cs : Bool) (off : Off15) : Slot := condBranch cr cb cs false false fun s _ => .ok (directTarget s off)
def execB (cr : GReg) (cb : BitNo) (cs : Bool) (off : Off15) (s : State) : St State := runSlot (slotB cr cb cs off) s

/-- B.A (R35, R117). -/
def slotBA (cr : GReg) (cb : BitNo) (cs : Bool) (off : Off15) : Slot := condBranch cr cb cs true false fun s _ => .ok (directTarget s off)
def execBA (cr : GReg) (cb : BitNo) (cs : Bool) (off : Off15) (s : State) : St State := runSlot (slotBA cr cb cs off) s

/-- BR (R117). -/
def slotBr (cr : GReg) (cb : BitNo) (cs : Bool) (tr : GReg) : Slot := condBranch cr cb cs false true (regTarget tr)
def execBr (cr : GReg) (cb : BitNo) (cs : Bool) (tr : GReg) (s : State) : St State := runSlot (slotBr cr cb cs tr) s

/-- BR.A (R35, R117). -/
def slotBrA (cr : GReg) (cb : BitNo) (cs : Bool) (tr : GReg) : Slot := condBranch cr cb cs true true (regTarget tr)
def execBrA (cr : GReg) (cb : BitNo) (cs : Bool) (tr : GReg) (s : State) : St State := runSlot (slotBrA cr cb cs tr) s

/-- CALL (R118). -/
def slotCall (lr : GReg) (off : Off15) : Slot := callTo lr false fun s _ => .ok (directTarget s off)
def execCall (lr : GReg) (off : Off15) (s : State) : St State := runSlot (slotCall lr off) s

/-- CALLR (R118). -/
def slotCallr (lr : GReg) (tr : GReg) : Slot := callTo lr true (regTarget tr)
def execCallr (lr : GReg) (tr : GReg) (s : State) : St State := runSlot (slotCallr lr tr) s

/-- BVU (R119). -/
def slotBvu (vr : VReg) (cs : Bool) (off : Off15) : Slot := uniformBranch vr cs false off
def execBvu (vr : VReg) (cs : Bool) (off : Off15) (s : State) : St State := runSlot (slotBvu vr cs off) s

/-- BVU.A (R35, R119). -/
def slotBvuA (vr : VReg) (cs : Bool) (off : Off15) : Slot := uniformBranch vr cs true off
def execBvuA (vr : VReg) (cs : Bool) (off : Off15) (s : State) : St State := runSlot (slotBvuA vr cs off) s

/-- LOOP (R120). -/
def slotLoop (tg : GReg) (off : Off15) : Slot := openLevel (regTarget tg) (fun s => directTarget s off) .none
def execLoop (tg : GReg) (off : Off15) (s : State) : St State := runSlot (slotLoop tg off) s

/-- LOOPI (R120). -/
def slotLoopi (trip : Trip) (off : Off15) : Slot := openLevel (fun _ _ => .ok (trip.setWidth 32)) (fun s => directTarget s off) .none
def execLoopi (trip : Trip) (off : Off15) (s : State) : St State := runSlot (slotLoopi trip off) s

/-- LOOPM (R121); LEND is LSTART + II − 1. -/
def slotLoopm (tg : GReg) (ii : Ii) (sc : Sc) : Slot := openLevel (regTarget tg) (fun _ => 0) (some (ii, sc))
def execLoopm (tg : GReg) (ii : Ii) (sc : Sc) (s : State) : St State := runSlot (slotLoopm tg ii sc) s

/-- LOOPMI (R121). -/
def slotLoopmi (trip : Trip) (ii : Ii) (sc : Sc) : Slot := openLevel (fun _ _ => .ok (trip.setWidth 32)) (fun _ => 0) (some (ii, sc))
def execLoopmi (trip : Trip) (ii : Ii) (sc : Sc) (s : State) : St State := runSlot (slotLoopmi trip ii sc) s

/-- LEXIT (R122). -/
def slotLexit (cr : GReg) (cb : BitNo) (cs : Bool) : Slot := fun s c => do
  let v ← readG s c cr
  .ok (if v.getLsbD cb.val = cs then { c with br := .lexit } else c)
def execLexit (cr : GReg) (cb : BitNo) (cs : Bool) (s : State) : St State := runSlot (slotLexit cr cb cs) s

/-- EXIT (R123): the strand ends at the commit of its own bundle. -/
def slotExit : Slot := fun _ c => .ok { c with br := .exit }
def execExit (s : State) : St State := runSlot slotExit s

/-- TRAP (R124): the program trap, in place of the issue. -/
def slotTrap (code : Imm16) : Slot := fun _ _ => cause 0x06 code.toNat
def execTrap (code : Imm16) (s : State) : St State := runSlot (slotTrap code) s

end Sys2Proof.Machine
end

