-- ==== Sys2Proof/Machine/Transfer.lean ====
section
/-!
DEFINITION. The transfer slot's memory instructions (R268 to R285, R294): global loads and stores, atomics, FENCE, and the
full-empty instructions.
-/
namespace Sys2Proof.Machine

/-! ### Waiting at a checkpoint (R44 reason 7) -/

/-- The bundle freezes until the condition holds. -/
def waitUnless {α : Type} (ok : Bool) (k : Except Halt α) : Except Halt α := if ok then k else freezeFor .checkpoint

/-- Join the answers of two translations: the first fault in order, then a wait. -/
def Tr.seq {α β : Type} : Tr α → Tr β → Tr Unit
  | .fault c a, _ => .fault c a
  | .wait, .fault _ _ => .wait
  | .wait, _ => .wait
  | .ok _, .fault c a => .fault c a
  | .ok _, .wait => .wait
  | .ok _, .ok _ => .ok ()

/-- The translation of one withheld global store, or of one load of the interval (R267, R284). -/
def State.storeTr (s : State) (core : Nat) (c : Context) (st : Store) : Tr Unit :=
  if st.space = .spad then .ok ()
  else match s.trRange (dieOf core) c.plot st.at?.isSome true st.addr st.bytes.length with
    | .fault c a => .fault c a
    | .wait => .wait
    | .ok _ => .ok ()
def State.loadTr (s : State) (core : Nat) (c : Context) (l : Load) : Tr Unit :=
  if !l.kind.global || l.covered then .ok ()
  else match s.trRange (dieOf core) c.plot true false l.addr l.size with
    | .fault c a => .fault c a
    | .wait => .wait
    | .ok _ => .ok ()

/-- Whether every global access of the interval has been translated. -/
def State.translated (s : State) (core : Nat) (c : Context) : Bool :=
  (c.buf.all fun st => match s.storeTr core c st with | .ok _ => true | _ => false) &&
    c.loads.all fun l => match s.loadTr core c l with | .ok _ => true | _ => false

/-! ### Scopes (R291, R294, R402, R407) -/

/-- The scope at which a plot's ordering is performed (R294, R440). -/
def State.scopeAt (s : State) (c : Context) (sc : Scope) : Scope :=
  if sc = .system ∧ c.plot ≠ 0 ∧ (s.plot c.plot).policy.scopelim then .tenant else sc

/-- A release whose scope was narrowed sets CSTAT.SCOPE_NARROWED (R18, R294). -/
def State.narrow (s : State) (c : Context) (rel : Bool) (sc : Scope) : Context :=
  if rel ∧ s.scopeAt c sc ≠ sc then { c with cstat := c.cstat ||| 2 } else c

/-- Whether a die's writes up to a number, and the remote operations still unacknowledged that count, are performed at a scope
(R402, R407). -/
def State.reached (s : State) (core wseq : Nat) (unacked : List Nat) (sc : Scope) : Bool :=
  match sc with
  | .strand | .group | .die => true
  | .module => s.seenByAll (dieOf core) wseq
  | .tenant | .system => s.seenByAll (dieOf core) wseq && unacked.isEmpty

/-- Whether every store that a context has committed is performed at a scope (R278, R402, R407). -/
def State.performedAt (s : State) (core : Nat) (c : Context) (sc : Scope) : Bool := c.cq.isEmpty && s.reached core c.wseq c.unacked sc

/-- Whether the commit queue has room for the buffer (R341, R342); an atomic is no withheld store and takes no place (R340). -/
def Context.cqRoom (c : Context) : Bool := ((c.cq ++ c.buf).filter fun st => st.at?.isNone).length ≤ 64

/-- Whether a comparison of the interval is still to be made (R342). -/
def Context.checksDue (c : Context) : Bool := c.fly.any fun f => f.ws.any fun
  | .check .. => true
  | _ => false

/-- Whether the bundle runs in a rerun whose commit is held back (R355). -/
def State.trial (s : State) : Bool := s.cur.ver.any fun v => v.decided.isNone

/-- Whether a load counts as a global load or an atomic. -/
def Load.isGlobal (l : Load) : Bool :=
  match l.kind with
  | .mem .. => true
  | .atomic => true
  | _ => false

/-- Wait until every global load has landed and every access of the interval is translated; for a release also until
every store, those withheld in the interval included, is performed at the scope (R278, R320, R407). The interval's stores are handed over
once the rest of the commit's conditions hold (R342; DEDUCED, log entry 177); a rerun, whose commit is held back, hands nothing over
(R355). -/
def settled (s : State) (c : Context) (rel : Bool) (sc : Scope) (k : Except Halt Context) : Except Halt Context :=
  let core := s.iss.core
  if !c.loads.all (fun l => !l.isGlobal) || !s.translated core c then freezeFor .checkpoint
  else if !rel || s.trial then k
  else if c.handed then waitUnless (s.performedAt core c sc) k
  else if c.buf.all (fun st => st.space == .spad) && c.cq.isEmpty && s.reached core (s.dieSeq (dieOf core)) c.unacked sc then k
  else if s.cur.checksDue || !c.cqRoom then freezeFor .checkpoint
  else freezeFor .checkpoint none .hand

/-! ### Pending destinations (R23, R271) -/

/-- A new pending operation: an earlier value for one of its destinations is void (R271). -/
def Context.addLoad (c : Context) (l : Load) : Context :=
  { c with
    loads := (c.loads.map fun o => { o with
      gd := o.gd.filter fun d => !l.gd.any fun e => e.2 == d.2
      vd := if o.vd = l.vd then none else o.vd }) ++ [{ l with id := c.nextLoad }]
    nextLoad := c.nextLoad + 1 }

/-- A load record at the issue in progress, to be filled in. -/
def mkLoad (s : State) (k : LoadKind) : Load :=
  { id := 0, kind := k, gd := [], vd := none, shGd := [], shVd := none, addr := 0, size := 0, dev := [], own := [], acq := false, scope := .strand
    caddr := s.iss.caddr, slot := s.iss.slot, covered := false, due := 0, got := none, fail := none }

/-- A general destination: g0 is never pending (R15). -/
def gDest (d : GReg) (word : Nat := 0) : List (Nat × GReg) := if d = 0 then [] else [(word, d)]

/-- Eight consecutive destinations. -/
def octDest (p : Oct) : List (Nat × GReg) := (List.range 8).flatMap fun i => gDest (Fin.ofNat 64 (8 * p.val + i)) i

/-- Whether a store covers the byte at a global address. -/
def Store.covers (st : Store) (a : Nat) : Bool := st.space == .hbm && decide (st.addr ≤ a ∧ a < st.addr + st.bytes.length)

/-- The byte that the context's own stores, in order, put at a global address; an atomic's is known only to memory (R271, R293). -/
def ownByte (l : List Store) (a : Nat) : Option Byte :=
  l.foldl (fun acc st => if !st.covers a then acc else if st.at?.isSome then none else st.bytes[a - st.addr]?) none

/-- The bytes of the context's own stores that are not yet performed (R271). -/
def ownBytes (c : Context) (a n : Nat) : List (Option Byte) := (List.range n).map fun i => ownByte (c.cq ++ c.buf) (a + i)

/-! ### Global accesses (R269 to R273) -/

/-- The address in gS, aligned as the access requires (R270). -/
def globalAddr (s : State) (c : Context) (r : GReg) (align : Nat) : Except Halt Nat := do
  let a ← readG s c r
  if a.toNat % align ≠ 0 then cause 0x07 0 a.toNat else .ok a.toNat

/-- A global load into gD (R271). -/
def globalLoad (g : Guard) (d s_ : GReg) (size : Code4) (acq : Bool) (sc : Scope) (signed alloc : Bool) : Slot := fun s c =>
  guarded s c g do
    let n := 2 ^ size.val
    let a ← globalAddr s c s_ n
    .ok (c.addLoad { mkLoad s (.mem signed alloc) with
      gd := gDest d, addr := a, size := n, own := ownBytes c a n, acq := acq, scope := s.scopeAt c sc })

/-- A withheld global store at the issue in progress (R272). -/
def mkGlobal (s : State) (c : Context) (a : Nat) (bs : List Byte) (rel : Bool) (sc : Scope) : Store :=
  { mkStore s a bs with space := .hbm, ents := [], rel := rel, scope := s.scopeAt c sc }

/-! ### Atomics (R274 to R276) -/

/-- The new element value (R274). -/
def AtKind.new (k : AtKind) (n m a b : Nat) : Nat :=
  match k with
  | .add => (m + a) % 2 ^ n
  | .min => if toS n m ≤ toS n a then m else a
  | .max => if toS n m ≤ toS n a then a else m
  | .minu => if m ≤ a then m else a
  | .maxu => if m ≤ a then a else m
  | .and => (BitVec.ofNat 64 m &&& BitVec.ofNat 64 a).toNat
  | .or => (BitVec.ofNat 64 m ||| BitVec.ofNat 64 a).toNat
  | .xor => (BitVec.ofNat 64 m ^^^ BitVec.ofNat 64 a).toNat
  | .xchg => a
  | .cas => if m = a then b else m
  | .fadd => (fAdd fp32 .rne m a).1
  | .fmax => (fMinMax fp32 true true m a).1

/-- An atomic at issue: operands, alignment, translation with both rights, the word's health (R276, R356), then the request
behind the interval's stores and the pending old value. -/
def atomicOp (k : AtKind) (g : Guard) (d s_ : GReg) (wide : Bool) (ord : Ord4) (sc : Scope) : Slot := fun s c =>
  guarded s c g do
    let n := if wide then 8 else 4
    let a ← readG s c d
    let b ← if k = .cas then readG s c (Fin.ofNat 64 (d.val + 1)) else Except.ok 0
    let x ← globalAddr s c s_ n
    match s.trRange s.issDie c.plot true true x n with
    | .fault code fa => cause code 2 fa
    | .wait => freezeFor .checkpoint (some (.walk x n))
    | .ok ps =>
      if (ps.any fun p => s.ueHit p.1 p.2) && (ownBytes c (x / 8 * 8) 8).any Option.isNone then cause 0x15 0 x
      else
        let rel := ord == .rel || ord == .ar
        let c := s.narrow c rel sc
        let id := c.nextLoad
        let c := c.addLoad { mkLoad s .atomic with
          gd := gDest d, addr := x, size := n, acq := ord == .acq || ord == .ar, scope := s.scopeAt c sc }
        .ok (c.addStore { mkGlobal s c x (List.replicate n 0) rel sc with
          at? := some ⟨k, wide, a, b, id⟩, acq := ord == .acq || ord == .ar, after := id })

/-! ### Full-empty instructions (R279 to R283) -/

/-- The scratchpad address in gQ. -/
def spadAddr (s : State) (c : Context) (q : GReg) : Except Halt Nat := do
  let v ← readG s c q
  .ok (v.toNat % 2 ^ 32)

/-- A read of the full-empty bit into a register bit, and into the latch that D[1:0] selects (R62, R283, R303). -/
def feTest (g : Guard) (p : GReg) (b : BitNo) (q : GReg) (align : Nat) : Slot := fun s c =>
  guarded s c g do
    let a ← spadAddr s c q
    let _ ← spadCheck s c a 1 align
    let f := s.ownFull c a
    writeBit s (c.takeIn [BitVec.ofNat 64 f.toNat]) p b 1 f

/-! ### The instructions -/

/-- XNOP (R60): it reads no operand and has no effect. -/
def slotXnop : Slot := fun _ c => .ok c
def execXnop (s : State) : St State := runSlot slotXnop s

/-- LDG (R269, R271): sign-extended. -/
def slotLdg (g : Guard) (d : GReg) (ra : GReg) (size : Code4) (acq : Bool) (scope : Scope) : Slot := globalLoad g d ra size acq scope true true
def execLdg (g : Guard) (d : GReg) (ra : GReg) (size : Code4) (acq : Bool) (scope : Scope) (s : State) : St State := runSlot (slotLdg g d ra size acq scope) s

/-- LDGU (R269, R271): zero-extended. -/
def slotLdgu (g : Guard) (d : GReg) (ra : GReg) (size : Code4) (acq : Bool) (scope : Scope) : Slot := globalLoad g d ra size acq scope false true
def execLdgu (g : Guard) (d : GReg) (ra : GReg) (size : Code4) (acq : Bool) (scope : Scope) (s : State) : St State := runSlot (slotLdgu g d ra size acq scope) s

/-- LDGNC (R261, R269, R271): zero-extended, without allocation in the near cache. -/
def slotLdgnc (g : Guard) (d : GReg) (ra : GReg) (size : Code4) (acq : Bool) (scope : Scope) : Slot := globalLoad g d ra size acq scope false false
def execLdgnc (g : Guard) (d : GReg) (ra : GReg) (size : Code4) (acq : Bool) (scope : Scope) (s : State) : St State := runSlot (slotLdgnc g d ra size acq scope) s

/-- STG (R269, R272): withheld until the commit. -/
def slotStg (g : Guard) (d : GReg) (ra : GReg) (size : Code4) (rel : Bool) (scope : Scope) : Slot := fun st c =>
  guarded st c g do
    let n := 2 ^ size.val
    let v ← readG st c d
    let a ← globalAddr st c ra n
    .ok ((st.narrow c rel scope).withhold (mkGlobal st c a (toBytes n v.toNat) rel scope))
def execStg (g : Guard) (d : GReg) (ra : GReg) (size : Code4) (rel : Bool) (scope : Scope) (s : State) : St State := runSlot (slotStg g d ra size rel scope) s

/-- LDGV (R269, R271): 512 bytes into vD. -/
def slotLdgv (g : Guard) (v : VReg) (ra : GReg) (acq : Bool) (scope : Scope) : Slot := fun st c =>
  guarded st c g do
    let a ← globalAddr st c ra 16
    .ok (c.addLoad { mkLoad st (.mem false true) with
      vd := some v, addr := a, size := 512, own := ownBytes c a 512, acq := acq, scope := st.scopeAt c scope })
def execLdgv (g : Guard) (v : VReg) (ra : GReg) (acq : Bool) (scope : Scope) (s : State) : St State := runSlot (slotLdgv g v ra acq scope) s

/-- STGV (R269, R272): the 512 bytes of vD. -/
def slotStgv (g : Guard) (v : VReg) (ra : GReg) (rel : Bool) (scope : Scope) : Slot := fun st c =>
  guarded st c g do
    let x ← readV st c v
    let a ← globalAddr st c ra 16
    .ok ((st.narrow c rel scope).withhold (mkGlobal st c a (bytesOfRow x) rel scope))
def execStgv (g : Guard) (v : VReg) (ra : GReg) (rel : Bool) (scope : Scope) (s : State) : St State := runSlot (slotStgv g v ra rel scope) s

/-- PREFG (R270, R273): reads gS; no register and no value of memory changes, and nothing faults. -/
def slotPrefg (g : Guard) (ra : GReg) : Slot := fun st c =>
  guarded st c g do
    let _ ← readG st c ra
    .ok c
def execPrefg (g : Guard) (ra : GReg) (s : State) : St State := runSlot (slotPrefg g ra) s

/-- ATADD (R274 to R276). -/
def slotAtadd (g : Guard) (d : GReg) (ra : GReg) (wide : Bool) (ord : Ord4) (scope : Scope) : Slot := atomicOp .add g d ra wide ord scope
def execAtadd (g : Guard) (d : GReg) (ra : GReg) (wide : Bool) (ord : Ord4) (scope : Scope) (s : State) : St State := runSlot (slotAtadd g d ra wide ord scope) s

/-- ATMIN (R274 to R276). -/
def slotAtmin (g : Guard) (d : GReg) (ra : GReg) (wide : Bool) (ord : Ord4) (scope : Scope) : Slot := atomicOp .min g d ra wide ord scope
def execAtmin (g : Guard) (d : GReg) (ra : GReg) (wide : Bool) (ord : Ord4) (scope : Scope) (s : State) : St State := runSlot (slotAtmin g d ra wide ord scope) s

/-- ATMAX (R274 to R276). -/
def slotAtmax (g : Guard) (d : GReg) (ra : GReg) (wide : Bool) (ord : Ord4) (scope : Scope) : Slot := atomicOp .max g d ra wide ord scope
def execAtmax (g : Guard) (d : GReg) (ra : GReg) (wide : Bool) (ord : Ord4) (scope : Scope) (s : State) : St State := runSlot (slotAtmax g d ra wide ord scope) s

/-- ATMINU (R274 to R276). -/
def slotAtminu (g : Guard) (d : GReg) (ra : GReg) (wide : Bool) (ord : Ord4) (scope : Scope) : Slot := atomicOp .minu g d ra wide ord scope
def execAtminu (g : Guard) (d : GReg) (ra : GReg) (wide : Bool) (ord : Ord4) (scope : Scope) (s : State) : St State := runSlot (slotAtminu g d ra wide ord scope) s

/-- ATMAXU (R274 to R276). -/
def slotAtmaxu (g : Guard) (d : GReg) (ra : GReg) (wide : Bool) (ord : Ord4) (scope : Scope) : Slot := atomicOp .maxu g d ra wide ord scope
def execAtmaxu (g : Guard) (d : GReg) (ra : GReg) (wide : Bool) (ord : Ord4) (scope : Scope) (s : State) : St State := runSlot (slotAtmaxu g d ra wide ord scope) s

/-- ATAND (R274 to R276). -/
def slotAtand (g : Guard) (d : GReg) (ra : GReg) (wide : Bool) (ord : Ord4) (scope : Scope) : Slot := atomicOp .and g d ra wide ord scope
def execAtand (g : Guard) (d : GReg) (ra : GReg) (wide : Bool) (ord : Ord4) (scope : Scope) (s : State) : St State := runSlot (slotAtand g d ra wide ord scope) s

/-- ATOR (R274 to R276). -/
def slotAtor (g : Guard) (d : GReg) (ra : GReg) (wide : Bool) (ord : Ord4) (scope : Scope) : Slot := atomicOp .or g d ra wide ord scope
def execAtor (g : Guard) (d : GReg) (ra : GReg) (wide : Bool) (ord : Ord4) (scope : Scope) (s : State) : St State := runSlot (slotAtor g d ra wide ord scope) s

/-- ATXOR (R274 to R276). -/
def slotAtxor (g : Guard) (d : GReg) (ra : GReg) (wide : Bool) (ord : Ord4) (scope : Scope) : Slot := atomicOp .xor g d ra wide ord scope
def execAtxor (g : Guard) (d : GReg) (ra : GReg) (wide : Bool) (ord : Ord4) (scope : Scope) (s : State) : St State := runSlot (slotAtxor g d ra wide ord scope) s

/-- ATXCHG (R274 to R276). -/
def slotAtxchg (g : Guard) (d : GReg) (ra : GReg) (wide : Bool) (ord : Ord4) (scope : Scope) : Slot := atomicOp .xchg g d ra wide ord scope
def execAtxchg (g : Guard) (d : GReg) (ra : GReg) (wide : Bool) (ord : Ord4) (scope : Scope) (s : State) : St State := runSlot (slotAtxchg g d ra wide ord scope) s

/-- ATCAS (R274 to R276). -/
def slotAtcas (g : Guard) (d : GReg) (ra : GReg) (wide : Bool) (ord : Ord4) (scope : Scope) : Slot := atomicOp .cas g d ra wide ord scope
def execAtcas (g : Guard) (d : GReg) (ra : GReg) (wide : Bool) (ord : Ord4) (scope : Scope) (s : State) : St State := runSlot (slotAtcas g d ra wide ord scope) s

/-- ATFADD (R274 to R276). -/
def slotAtfadd (g : Guard) (d : GReg) (ra : GReg) (ord : Ord4) (scope : Scope) : Slot := atomicOp .fadd g d ra false ord scope
def execAtfadd (g : Guard) (d : GReg) (ra : GReg) (ord : Ord4) (scope : Scope) (s : State) : St State := runSlot (slotAtfadd g d ra ord scope) s

/-- ATFMAX (R274 to R276). -/
def slotAtfmax (g : Guard) (d : GReg) (ra : GReg) (ord : Ord4) (scope : Scope) : Slot := atomicOp .fmax g d ra false ord scope
def execAtfmax (g : Guard) (d : GReg) (ra : GReg) (ord : Ord4) (scope : Scope) (s : State) : St State := runSlot (slotAtfmax g d ra ord scope) s

/-- The updates that an acquiring FENCE waits for: those it found when it first reached pc (R403), unless its commit is held back. -/
def State.fenceOpen (s : State) (c : Context) : Bool :=
  !s.trial && (s.die s.issDie).updates.any fun u => match c.fenceWaits with
    | some l => l.contains (u.addr / 128, u.number)
    | none => true

/-- FENCE (R277, R278, R294, R403, R407). -/
def slotFence (g : Guard) (ord : Ord4) (scope : Scope) : Slot := fun s c =>
  guarded s c g (
    let sc := s.scopeAt c scope
    let acq := ord == .acq || ord == .ar
    let rel := ord == .rel || ord == .ar
    let wide := sc == .module || sc == .tenant || sc == .system
    let r := settled s c rel sc (waitUnless (!(acq && wide && s.fenceOpen c)) (.ok (s.narrow c rel scope)))
    match r with
    | .error (.freeze why on b) => .error (.freeze why on (if acq && wide && c.fenceWaits.isNone then .fence else b))
    | _ => r)
def execFence (g : Guard) (ord : Ord4) (scope : Scope) (s : State) : St State := runSlot (slotFence g ord scope) s

/-- LDFE (R279, R280): waits for its granule full; the value lands five issues on or later. -/
def slotLdfe (g : Guard) (p : GReg) (q : GReg) (size : Code4) (clear : Bool) : Slot := fun s c =>
  guarded s c g do
    let a ← spadAddr s c q
    let n := 2 ^ size.val
    let _ ← spadCheck s c a n n
    if s.ownFull c a then
      let v := BitVec.ofNat 64 (ofBytes (s.spadBytes c a n))
      let c1 := (c.addLoad { mkLoad s .ldfe with gd := gDest p, addr := a, size := n, due := 5, got := some [v] }).takeIn [1, v]
      let c2 := c1.flyMore s 5 (memErrWr s c 1 (spadBase s.iss.core) a n)
      .ok (if clear then c2.withhold { mkStore s a [] with fe := some (a / 16 * 16, 1, false) } else c2)
    else freezeFor .fullEmpty (some (.granule a true))
def execLdfe (g : Guard) (p : GReg) (q : GReg) (size : Code4) (clear : Bool) (s : State) : St State := runSlot (slotLdfe g p q size clear) s

/-- STFE (R279, R281): waits for its granule empty, then stores and sets it full at the commit. -/
def slotStfe (g : Guard) (p : GReg) (q : GReg) (size : Code4) : Slot := fun s c =>
  guarded s c g do
    let v ← readG s c p
    let a ← spadAddr s c q
    let n := 2 ^ size.val
    let _ ← spadCheck s c a n n
    if s.ownFull c a then freezeFor .fullEmpty (some (.granule a false))
    else .ok ((c.takeIn [0]).withhold { mkStore s a (toBytes n v.toNat) with fe := some (a / 16 * 16, 1, true) })
def execStfe (g : Guard) (p : GReg) (q : GReg) (size : Code4) (s : State) : St State := runSlot (slotStfe g p q size) s

/-- FESET (R279, R282): n granules from gQ on; with n = 0 it has no effect, whatever its address (DEDUCED, log entry 31). -/
def slotFeset (g : Guard) (p : GReg) (q : GReg) (v : Bool) : Slot := fun s c =>
  guarded s c g do
    let n ← readG s c p
    let a ← spadAddr s c q
    let k := n.toNat % 65536
    if k = 0 then .ok c
    else if a % 16 ≠ 0 then cause 0x07 0 a
    else if s.spadOk c.plot s.iss.core a (16 * k) then
      .ok (c.withhold { mkStore s a [] with fe := some (a, k, v) })
    else cause 0x08 0 a
def execFeset (g : Guard) (p : GReg) (q : GReg) (v : Bool) (s : State) : St State := runSlot (slotFeset g p q v) s

/-- FETEST (R279, R283): any byte address. -/
def slotFetest (g : Guard) (p : GReg) (b : BitNo) (q : GReg) : Slot := feTest g p b q 1
def execFetest (g : Guard) (p : GReg) (b : BitNo) (q : GReg) (s : State) : St State := runSlot (slotFetest g p b q) s

end Sys2Proof.Machine
end

