-- ==== Sys2Proof/Machine/Streams.lean ====
section
/-!
DEFINITION. Binding stream registers (R246 to R250, R256) and the tile table (R213 to R216).
-/
namespace Sys2Proof.Machine

/-- The eight registers from g(8q) on. -/
def readOct (s : State) (c : Context) (q : Oct) : Except Halt (List W64) :=
  (List.range 8).mapM fun i => readG s c (Fin.ofNat 64 (8 * q.val + i))

/-! ### Stream descriptors (R249, R250) -/

/-- Reserved and out-of-range fields of an affine or plane descriptor. -/
def affineBad (kind : Nat) (d : List W64) : Bool :=
  let w (i : Nat) : Nat := (d.getD i 0).toNat
  let elem := bits (w 0) 56 4
  let sx := bitAt (w 0) 55
  let few := bitAt (w 0) 46
  let nlev := bits (w 0) 48 3
  let plane := kind == 2 || kind == 3
  bits (w 0) 51 4 != 0 || bits (w 0) 32 14 != 0 || nlev == 0 || nlev == 7 ||
    (if plane then elem != 0 || sx else !(elem < 4 || elem == 9) || (sx && (elem == 3 || elem == 9 || kind == 1))) ||
    (kind == 1 && few) ||
    (List.range 7).any fun i =>
      if i < nlev then bits (w (i + 1)) 0 32 == 0 || (plane && bits (w (i + 1)) 32 32 % 16 != 0) else w (i + 1) != 0

/-- A BASE or STRIDE that is not aligned (R250). -/
def affineMisaligned (kind : Nat) (d : List W64) : Bool :=
  let w (i : Nat) : Nat := (d.getD i 0).toNat
  let base := bits (w 0) 0 32
  let al := min (2 ^ bits (w 0) 56 4) 16
  if kind = 2 ∨ kind = 3 then base % 64 != 0
  else base % al != 0 || (List.range (bits (w 0) 48 3)).any fun i => bits (w (i + 1)) 32 32 % al != 0

/-- Add one level to a set of element addresses. A level with more steps than the scratchpad has bytes either repeats or
leaves it within as many. -/
def levelAddrs (as : List Nat) (lv : Nat × Int) : List Nat :=
  if lv.2 = 0 then as
  else (List.range (min lv.1 (spadSize + 1))).foldl (fun acc i =>
    as.foldl (fun acc a => setInsert acc (wrap 32 ((a : Int) + i * lv.2))) acc) []

/-- Whether every element of a pattern lies in the plot's segments (R250): by its hull where no address wraps, else level by
level. -/
def State.patternOk (s : State) (plot core base size : Nat) (ls : List (Nat × Int)) : Bool :=
  let lo := ls.foldl (fun (a : Int) l => a + min 0 ((l.1 - 1 : Int) * l.2)) base
  let hi := ls.foldl (fun (a : Int) l => a + max 0 ((l.1 - 1 : Int) * l.2)) base
  let whole := decide (0 ≤ lo ∧ hi + size ≤ (2 ^ 32 : Nat))
  if whole && s.spadOk plot core lo.toNat ((hi - lo).toNat + size) then true
  else if whole && spadSize < hi.toNat + size then false
  else
    (ls.foldl (fun (acc : Bool × List Nat) l =>
      if acc.1 then
        let as := levelAddrs acc.2 l
        (as.all fun a => s.spadOk plot core a size, as)
      else acc) (s.spadOk plot core base size, [base])).1

/-- The checks of SBIND, in the order of precedence, and the new binding (R250). -/
def State.bindCheck (s : State) (c : Context) (n : SReg) (d : List W64) : Except Halt Binding :=
  let w (i : Nat) : Nat := (d.getD i 0).toNat
  let kind := bits (w 0) 60 4
  let b : Binding := ⟨d, 0, none, [], []⟩
  if kind < 4 then
    if affineBad kind d then cause 0x0D n.val
    else if affineMisaligned kind d then cause 0x07 0 b.base
    else if s.patternOk c.plot s.iss.core (b.addr 0) b.size b.levels then .ok b
    else cause 0x08 0 b.base
  else if kind < 6 then
    let a := bits (w 0) 0 32
    if bits (w 0) 32 28 ≠ 0 ∨ bits (w 1) 16 48 ≠ 0 ∨ (List.range 6).any (fun i => w (i + 2) != 0) then cause 0x0D n.val
    else
      let inside := s.spadOk c.plot s.iss.core a 8
      let b := { b with qcw := BitVec.ofNat 64 (s.mem.num (spadBase s.iss.core + a) 8) }
      let q := b.qcw.toNat
      if inside && (bits q 51 13 != 0 || 5 < b.esz || b.depth == 0 || 49152 < b.depth || b.qbase % 16 != 0 || b.depth ≤ b.start) then
        cause 0x0D n.val
      else if a % 8 ≠ 0 then cause 0x07 0 a
      else if !inside then cause 0x08 0 a
      else if s.spadOk c.plot s.iss.core b.qbase (b.depth * b.size) then .ok b
      else cause 0x08 0 b.qbase
  else cause 0x0D n.val

/-! ### The tile table (R213 to R216) -/

/-- The type of a code of R157. -/
def typeOfCode (n : Nat) : Option TileType :=
  match n with
  | 0 => some .i32 | 1 => some .f32 | 2 => some .f32a | 3 => some .i16 | 4 => some .bf16 | 5 => some .fp16 | 6 => some .i64
  | _ => none

/-- The byte runs of a region. -/
def TileEntry.runs (e : TileEntry) : List (Nat × Nat) := (List.range e.rows).map fun i => (e.base + i * e.pitch, 4 * e.cols)

/-- Whether two sets of byte runs have a byte in common. -/
def runsMeet (a b : List (Nat × Nat)) : Bool :=
  a.any fun x => b.any fun y => decide (max x.1 y.1 < min (x.1 + x.2) (y.1 + y.2))

/-- A region and its area. -/
def TileEntry.all (e : TileEntry) : List (Nat × Nat) := e.runs ++ [(e.area, 1024)]

/-- The tables of the other contexts of a core: their entries now and at their last checkpoints, which count until their next
commit (R216). -/
def State.othersTab (s : State) (core ctx : Nat) : List (Nat × TileEntry) :=
  (List.range 8).flatMap fun k =>
    let x := core * 8 + k
    if x = ctx then []
    else match s.ctxs.find x with
      | some c => if c.st = .free then [] else c.w.tt ++ c.sh.tt
      | none => []

/-- The checks of TREG in the order of the table, and the entry (R214, R215). -/
def State.tregCheck (s : State) (c : Context) (n : TEntry) (d : List W64) : Except Halt TileEntry :=
  let w (i : Nat) : Nat := (d.getD i 0).toNat
  let base := bits (w 0) 0 32
  let rows := bits (w 1) 0 7
  let cols := bits (w 2) 0 8
  let pitch := bits (w 3) 0 32
  let area := bits (w 5) 0 32
  let extra := bits (w 0) 32 32 + bits (w 1) 7 57 + bits (w 2) 8 56 + bits (w 3) 32 32 + bits (w 4) 4 60 + bits (w 5) 32 32 + w 6 + w 7
  if base % 16 ≠ 0 ∨ pitch % 16 ≠ 0 then cause 0x07 0 base
  else if area % 16 ≠ 0 then cause 0x07 0 area
  else if rows ≠ 0 ∧ cols ≠ 0 ∧ spadSize < base + (rows - 1) * pitch + 4 * cols then cause 0x08 0 base
  else if spadSize < area + 1024 then cause 0x08 0 area
  else
    match typeOfCode (bits (w 4) 0 4) with
    | none => cause 0x0F n.val
    | some ty =>
      let e : TileEntry := ⟨base, rows, cols, pitch, ty, area⟩
      let others := s.othersTab s.iss.core s.iss.ctx
      if rows = 0 ∨ 64 < rows ∨ cols = 0 ∨ 128 < cols ∨ pitch < 4 * cols ∨ (ty = .i64 ∧ cols % 2 = 1) ∨ extra ≠ 0 then
        cause 0x0F n.val
      else if others.any fun o => o.1 == n.val then cause 0x0F n.val
      else if runsMeet e.runs [(area, 1024)] then cause 0x0F n.val
      else if (others ++ c.w.tt.filter fun o => o.1 != n.val).any fun o => runsMeet e.all o.2.all then cause 0x0F n.val
      else .ok e

/-! ### The instructions -/

/-- SBIND (R248 to R250): the binding takes effect after the bundle's commit. -/
def slotSbind (g : Guard) (n : SReg) (q : Oct) : Slot := fun s c =>
  guarded s c g do
    let d ← readOct s c q
    let b ← s.bindCheck c n d
    .ok { c with post := c.post ++ [.bind n (some b)] }
def execSbind (g : Guard) (n : SReg) (q : Oct) (s : State) : St State := runSlot (slotSbind g n q) s

/-- SUNBIND (R256). -/
def slotSunbind (g : Guard) (n : SReg) : Slot := fun s c => guarded s c g (.ok { c with post := c.post ++ [.bind n none] })
def execSunbind (g : Guard) (n : SReg) (s : State) : St State := runSlot (slotSunbind g n) s

/-- TREG (R214, R215): tracked from the next bundle on; an own entry of that index is replaced. -/
def slotTreg (g : Guard) (e : TEntry) (q : Oct) : Slot := fun s c =>
  guarded s c g do
    let d ← readOct s c q
    let t ← s.tregCheck c e d
    .ok { c with w := { c.w with tt := c.w.tt.set e.val t, tun := c.w.tun.filter (· != e.val) } }
def execTreg (g : Guard) (e : TEntry) (q : Oct) (s : State) : St State := runSlot (slotTreg g e q) s

/-- TUNREG (R216): withheld until the next commit. -/
def slotTunreg (g : Guard) (e : TEntry) : Slot := fun s c =>
  guarded s c g (
    if (s.othersTab s.iss.core s.iss.ctx).any fun o => o.1 == e.val then cause 0x0F e.val
    else if (c.w.tt.find e.val).isSome then .ok { c with w := { c.w with tun := setInsert c.w.tun e.val } }
    else .ok c)
def execTunreg (g : Guard) (e : TEntry) (s : State) : St State := runSlot (slotTunreg g e) s

end Sys2Proof.Machine
end

