-- ==== Sys2Proof/Machine/Engines.lean ====
section
/-!
DEFINITION. The engine commands at issue (R296 to R312): endpoints, descriptors, the checks of R297; EWAIT and ETEST.
-/
namespace Sys2Proof.Machine

/-! ### Endpoints (R298, R299) -/

def endSpace (w : Nat) : Nat := bits w 62 2
def endHandle (w : Nat) : Nat := bits w 40 22
def endOff (w : Nat) : Nat := bits w 0 40

/-- A malformed endpoint, or one in a handle whose offset breaks the alignment its descriptor requires (R297, R298). -/
def endBad (w align : Nat) : Bool :=
  2 ≤ endSpace w || (endSpace w == 0 && (endHandle w != 0 || bits w 32 8 != 0)) || (endSpace w == 1 && endOff w % align != 0)

/-- A malformed NOTE word (R299). -/
def noteBad (w : Nat) : Bool := bitAt w 62 || (!bitAt w 63 && w != 0)

/-- A scratchpad range of an endpoint: offset, rows, bytes from row to row, bytes of a row. -/
structure SpadRange where
  off : Nat
  rows : Nat
  pitch : Nat
  len : Nat
deriving DecidableEq, Repr

/-- Whether every row of a range lies in the plot's segments. -/
def State.rangeOk (s : State) (plot core : Nat) (r : SpadRange) : Bool :=
  let top := r.off + (r.rows - 1) * r.pitch + r.len
  if r.rows = 0 ∨ r.len = 0 then true
  else if spadSize < top then false
  else s.spadOk plot core r.off (top - r.off) ||
    (List.range (if r.pitch = 0 then 1 else r.rows)).all fun i => s.spadOk plot core (r.off + i * r.pitch) r.len

/-- What a descriptor asks at issue: whether it is malformed, its scratchpad addresses with their alignments, its scratchpad
ranges. -/
structure EngAsk where
  bad : Bool
  aligned : List (Nat × Nat)
  ranges : List SpadRange
deriving DecidableEq, Repr

/-- An endpoint's demands when it stands in the scratchpad. -/
def endAsk (w align rows pitch len : Nat) : List (Nat × Nat) × List SpadRange :=
  if endSpace w = 0 then ([(endOff w, align)], [⟨endOff w, rows, pitch, len⟩]) else ([], [])

def EngAsk.of (bad : Bool) (l : List (List (Nat × Nat) × List SpadRange)) : EngAsk :=
  ⟨bad, l.flatMap Prod.fst, l.flatMap Prod.snd⟩

/-! ### Descriptors -/

/-- ECOPY and EMCAST (R304). -/
def copyAsk (multi : Bool) (d : List Nat) : EngAsk :=
  let w (i : Nat) : Nat := d.getD i 0
  let rows := bits (w 2) 48 16 + 1
  let len := bits (w 2) 0 32
  let sp := bits (w 3) 0 32
  let dp := bits (w 3) 32 32
  let bad := endBad (w 0) 16 || endBad (w 1) 16 || (multi && endSpace (w 1) != 0) || bits (w 2) 32 16 != 0 || len % 16 != 0 || len == 0 ||
    decide (2 ^ 24 < len) || decide (2 ^ 32 - 16 < rows * len) || sp % 16 != 0 || dp % 16 != 0 || bits (w 4) 16 48 != 0 ||
    (if multi then bits (w 4) 0 16 == 0 else w 4 != 0) || w 5 != 0 || w 6 != 0 || noteBad (w 7)
  .of bad [endAsk (w 0) 16 rows sp len, endAsk (w 1) 16 rows dp len]

/-- EGATHER and ESCATTER (R307): the table's elements are found by the engine, as their indices are. -/
def gatherAsk (d : List Nat) : EngAsk :=
  let w (i : Nat) : Nat := d.getD i 0
  let count := bits (w 2) 32 32
  let elen := bits (w 2) 0 32
  let bad := endBad (w 0) 16 || endBad (w 1) 16 || endSpace (w 1) != 0 || count == 0 || decide (2 ^ 20 < count) || elen % 16 != 0 || elen == 0 ||
    decide (4096 < elen) || bits (w 3) 32 32 != 0 || bits (w 4) 32 32 != 0 || w 4 % 16 != 0 || w 5 != 0 || w 6 != 0 || noteBad (w 7)
  .of bad [(if endSpace (w 0) = 0 then ([(endOff (w 0), 16)], []) else ([], [])), endAsk (w 1) 16 1 0 (count * elen),
    ([(bits (w 3) 0 32, 4)], [⟨bits (w 3) 0 32, 1, 0, 4 * count⟩])]

/-- The source formats of the plane builder: FMT codes of R191. -/
inductive PlaneFmt where
  | nq4 | int (bytes : Nat) | float (f : Fmt) (bytes : Nat)
deriving DecidableEq, Repr

def planeFmt (n : Nat) : Option PlaneFmt :=
  match n with
  | 0 => some .nq4 | 1 => some (.int 1) | 2 => some (.int 2) | 4 => some (.float bf16 2) | 5 => some (.float fp16 2)
  | 6 => some (.float e4m3 1) | 7 => some (.float e5m2 1)
  | _ => none

/-- Element size in bytes; NQ4 holds two elements in one. -/
def PlaneFmt.bytes : PlaneFmt → Nat
  | .nq4 => 1
  | .int n => n
  | .float _ n => n

/-- The planes that a source needs before its data is known (R193): for block float those that are asked. -/
def PlaneFmt.least : PlaneFmt → Nat
  | .nq4 => 4
  | .int n => 8 * n
  | .float .. => 0

/-- Bytes of a slice by KIND (R192). -/
def sliceBytes (kind : Nat) : Nat := if kind = 1 then 48 else 96

/-- EPLANE (R308). -/
def planeAsk (d : List Nat) : EngAsk :=
  let w (i : Nat) : Nat := d.getD i 0
  let kind := bits (w 2) 58 2
  let preq := 4 * (bits (w 2) 56 2 + 1)
  let rcnt := bits (w 2) 48 8
  let tr := bitAt (w 2) 32
  let kcnt := bits (w 2) 0 32
  let pitch := bits (w 3) 0 32
  let blocks := (kcnt + 63) / 64
  match planeFmt (bits (w 2) 60 4) with
  | none => ⟨true, [], []⟩
  | some f =>
    let nq := f == .nq4
    let fl := match f with | .float .. => true | _ => false
    let planes := max preq f.least
    let tile := 64 + kcnt * (planes / 4) * sliceBytes kind
    let bad := endBad (w 0) f.bytes || endBad (w 1) 64 || endSpace (w 1) != 0 || !(kind == 1 || kind == 2) || rcnt == 0 ||
      decide ((if kind = 1 then 64 else 128) < rcnt) || bits (w 2) 33 15 != 0 || kcnt == 0 || (nq && (tr || kcnt % 2 == 1)) ||
      bits (w 3) 32 32 != 0 || bits (w 5) 32 32 != 0 || w 6 != 0 || noteBad (w 7) || (fl && preq == 4) ||
      (if nq then endBad (w 4) 1 else if fl then endBad (w 4) 1 || endSpace (w 4) != 0 else w 4 != 0 || w 5 != 0) ||
      decide (spadSize < endOff (w 1) + tile)
    let rowLen := if nq then kcnt / 2 else kcnt * f.bytes
    let src := if tr then endAsk (w 0) f.bytes kcnt pitch (rcnt * f.bytes) else endAsk (w 0) f.bytes rcnt pitch rowLen
    let side := if nq then endAsk (w 4) 1 rcnt (bits (w 5) 0 32) blocks
      else if fl then endAsk (w 4) 1 rcnt (bits (w 5) 0 32) (2 * blocks) else ([], [])
    .of bad [src, endAsk (w 1) 64 1 0 tile, side]

/-- EFEED (R310): the queue control word's own checks count as the descriptor's. -/
def State.feedBad (s : State) (plot core : Nat) (d : List Nat) : Bool :=
  let w (i : Nat) : Nat := d.getD i 0
  let a := bits (w 0) 0 32
  let q := s.mem.num (spadBase core + a) 8
  let depth := bits q 32 16
  1 < bits (w 0) 60 4 || bits (w 0) 48 12 != 0 || a % 8 != 0 || !s.spadOk plot core a 8 || bits q 51 13 != 0 || 5 < bits q 48 3 ||
    depth == 0 || 49152 < depth || bits q 0 32 % 16 != 0 || depth ≤ bits (w 0) 32 16 ||
    !s.spadOk plot core (bits q 0 32) (depth * 16 * 2 ^ bits q 48 3) || endBad (w 1) 1 || endSpace (w 1) != 1 ||
    bits (w 2) 32 32 == 0 || bits (w 2) 16 16 != 0 || bits (w 2) 0 16 == 0 || depth < bits (w 2) 0 16 || bits (w 3) 40 24 != 0 ||
    w 3 % 16 != 0 || bits (w 4) 40 24 != 0 || w 4 % 16 != 0 || w 5 != 0 || w 6 != 0 ||
    (if bits (w 0) 60 4 = 0 then w 7 != 0 else noteBad (w 7))

/-! ### The checks at issue (R297) -/

/-- Operations of a context handed over and not yet completed. -/
def State.outstanding (s : State) (x : Nat) : Nat := (s.engines.filter fun e => e.owner == .context x).length

/-- The completion address's two checks (R297, R302, R452). -/
def State.cplCheck (s : State) (c : Context) (a : Nat) : Except Halt Unit :=
  if a % 16 ≠ 0 then cause 0x07 0 a else if s.spadOk c.plot s.iss.core a 16 then .ok () else cause 0x08 0 a

/-- An engine command at issue: registers, checks in order, and the handover that its commit makes. -/
def engineCmd (op : Nat) (g : Guard) (p : Oct) (q : GReg) (ask : State → Context → List Nat → EngAsk) : Slot := fun s c =>
  guarded s c g do
    let d ← readOct s c p
    let cpl ← spadAddr s c q
    let _ ← s.cplCheck c cpl
    let e := ask s c (d.map BitVec.toNat)
    if e.bad then cause 0x10 op
    else
      match e.aligned.find? fun x => x.1 % x.2 != 0 with
      | some x => cause 0x07 0 x.1
      | none =>
        match e.ranges.find? fun r => !s.rangeOk c.plot s.iss.core r with
        | some r => cause 0x08 0 r.off
        | none =>
          if 32 ≤ s.outstanding s.iss.ctx then cause 0x11
          else
            let qcw := BitVec.ofNat 64 (if op = 0x23 then s.mem.num (spadBase s.iss.core + bits (d.getD 0 0).toNat 0 32) 8 else 0)
            .ok { c with post := c.post ++ [.engine op d cpl qcw c.w.tole] }

/-! ### The instructions -/

/-- ECOPY (R297, R304). -/
def slotEcopy (g : Guard) (p : Oct) (q : GReg) : Slot := engineCmd 0x1E g p q (fun _ _ d => copyAsk false d)
def execEcopy (g : Guard) (p : Oct) (q : GReg) (s : State) : St State := runSlot (slotEcopy g p q) s

/-- EMCAST (R297, R304, R306). -/
def slotEmcast (g : Guard) (p : Oct) (q : GReg) : Slot := engineCmd 0x1F g p q (fun _ _ d => copyAsk true d)
def execEmcast (g : Guard) (p : Oct) (q : GReg) (s : State) : St State := runSlot (slotEmcast g p q) s

/-- EGATHER (R297, R307). -/
def slotEgather (g : Guard) (p : Oct) (q : GReg) : Slot := engineCmd 0x20 g p q (fun _ _ d => gatherAsk d)
def execEgather (g : Guard) (p : Oct) (q : GReg) (s : State) : St State := runSlot (slotEgather g p q) s

/-- ESCATTER (R297, R307). -/
def slotEscatter (g : Guard) (p : Oct) (q : GReg) : Slot := engineCmd 0x21 g p q (fun _ _ d => gatherAsk d)
def execEscatter (g : Guard) (p : Oct) (q : GReg) (s : State) : St State := runSlot (slotEscatter g p q) s

/-- EPLANE (R297, R308). -/
def slotEplane (g : Guard) (p : Oct) (q : GReg) : Slot := engineCmd 0x22 g p q (fun _ _ d => planeAsk d)
def execEplane (g : Guard) (p : Oct) (q : GReg) (s : State) : St State := runSlot (slotEplane g p q) s

/-- EFEED (R297, R310). -/
def slotEfeed (g : Guard) (p : Oct) (q : GReg) : Slot := engineCmd 0x23 g p q (fun s c d => ⟨s.feedBad c.plot s.iss.core d, [], []⟩)
def execEfeed (g : Guard) (p : Oct) (q : GReg) (s : State) : St State := runSlot (slotEfeed g p q) s

/-- EWAIT (R302): waits for the granule full. -/
def slotEwait (g : Guard) (q : GReg) : Slot := fun s c =>
  guarded s c g do
    let a ← spadAddr s c q
    let _ ← s.cplCheck c a
    if s.ownFull c a then .ok (c.takeIn [1]) else freezeFor .fullEmpty (some (.granule a true))
def execEwait (g : Guard) (q : GReg) (s : State) : St State := runSlot (slotEwait g q) s

/-- ETEST (R303): as FETEST, on an aligned address. -/
def slotEtest (g : Guard) (p : GReg) (b : BitNo) (q : GReg) : Slot := feTest g p b q 16
def execEtest (g : Guard) (p : GReg) (b : BitNo) (q : GReg) (s : State) : St State := runSlot (slotEtest g p b q) s

end Sys2Proof.Machine
end

