-- ==== Sys2Proof/Machine/Image.lean ====
section
/-!
DEFINITION. The format-1 continuation object in bytes: header and images, written and read (R366 to R370).
-/
namespace Sys2Proof.Machine

/-! ### Layout -/

/-- Pieces at rising offsets from `cur`, with zeros between them, up to a total length. -/
def layout (cur : Nat) (total : Nat) : List (Nat × List Byte) → List Byte
  | [] => List.replicate (total - cur) 0
  | (o, b) :: r => List.replicate (o - cur) 0 ++ b ++ layout (o + b.length) total r

/-- Zeros to the next multiple of 64. -/
def pad64 (l : List Byte) : List Byte := l ++ List.replicate ((64 - l.length % 64) % 64) 0

def word8 (n : Nat) : List Byte := toBytes 8 n
def word4 (n : Nat) : List Byte := toBytes 4 n

/-- n bytes at an offset of a block held as a number. -/
def at_ (v off n : Nat) : Nat := bits v (8 * off) (8 * n)

/-- Bytes of a list from an offset. -/
def slice (l : List Byte) (off n : Nat) : List Byte := (l.drop off).take n

/-! ### The fixed part (R367) -/

def Level.bytes (l : Level) : List Byte :=
  word4 l.trip.toNat ++ word4 l.iter ++ word4 l.start.toNat ++ word4 l.stop.toNat ++
    word8 (match l.modulo with
      | none => 0
      | some (ii, sc) => l.trip.toNat + ii.toNat * 2 ^ 32 + sc.val * 2 ^ 40 + 2 ^ 48) ++ word8 0

def FlagRec.bytes (f : FlagRec) : List Byte := word8 f.bits.toNat ++ f.first.toList.flatMap fun x => word4 x.toNat

def typeCode (t : TileType) : Nat :=
  match t with
  | .i32 => 0 | .f32 => 1 | .f32a => 2 | .i16 => 3 | .bf16 => 4 | .fp16 => 5 | .i64 => 6

def TileEntry.bytes (e : TileEntry) : List Byte :=
  [1, e.base, e.rows, e.cols, e.pitch, typeCode e.ty, e.area, 0].flatMap word4

/-- A stream's position as its image holds it: a queue's element, or the element of a pattern. -/
def Binding.place (b : Binding) (pos : Nat) : Nat :=
  if b.isQueue then (b.start + pos) % b.depth else if b.wrap then pos % b.total else pos

/-- The position that an image's place restores. -/
def Binding.posOf (b : Binding) (place : Nat) : Nat :=
  if b.isQueue then (place + b.depth - b.start % b.depth) % b.depth else place

def Binding.bytes (b : Binding) (pos : Nat) : List Byte :=
  (b.desc.zipIdx.flatMap fun (w, i) => word8 (if b.isQueue ∧ i = 2 then b.qcw.toNat else w.toNat)) ++ word8 (b.place pos)

def Context.fixedPart (c : Context) (le : LiveEntry) (smap len : Nat) (wc : Nat) : List Byte :=
  let a := c.w
  layout 0 4096
    [(0x000, word8 c.taskid.toNat), (0x008, word8 (smap * 2 ^ 48 + c.live.val * 2 ^ 42 + len)),
      (0x010, [a.pc, a.npc, a.nnpc].flatMap fun e => word8 e.word.toNat), (0x028, word8 wc),
      (0x030, [a.rmode.toNat, a.seed.toNat, a.tole.toNat, c.cstat.toNat].flatMap word8),
      (0x050, word8 (typeCode a.t0.ty + typeCode a.t1.ty * 2 ^ 4 + a.pa.val * 2 ^ 8 + a.pb.val * 2 ^ 10 + a.levels.length * 2 ^ 16 +
        a.sp.toNat * 2 ^ 24)),
      (0x080, a.levels.flatMap Level.bytes), (0x140, a.lstride.toList.flatMap fun x => word4 x.toNat),
      (0x2C0, (List.range 64).flatMap fun i => word8 (if le.g.getLsbD i then (a.g.getD i 0).toNat else 0)),
      (0x4C0, a.a.toList.flatMap fun x => word4 x.toNat), (0x500, a.m.toList.flatMap fun x => word8 x.toNat),
      (0x580, c.flags.toList.flatMap FlagRec.bytes), (0x680, c.fixcnt.toList.flatMap fun x => word4 x.toNat),
      (0x6A0, (List.range 32).flatMap fun i => match a.tt.find i with
        | some e => e.bytes
        | none => List.replicate 32 0),
      (0xAA0, (List.range 16).flatMap fun i => match c.bind.getD i none with
        | some b => b.bytes (a.spos.getD i 0)
        | none => List.replicate 72 0),
      (0xF20, c.chan.toList.flatMap fun k => match k.route with
        | some r => word8 r.1.toNat ++ word8 r.2.toNat
        | none => List.replicate 16 0)]

/-! ### The optional sections (R368) -/

/-- A checksum area as R213 lays it out. -/
def Tile.areaBytes (t : Tile) : List Byte :=
  layout 0 1024 [(0, bytesOfRow t.colsum), (512, t.rowsum.toList.flatMap fun x => word4 x.toNat), (768, word4 t.corner.toNat)]

def Tile.bytes (t : Tile) : List Byte := t.rows.toList.flatMap bytesOfRow ++ t.areaBytes

def Tile.markBytes (t : Tile) : List Byte := t.mark.toList.flatMap fun x => toBytes 16 x.toNat

def ArraySet.bytes (t : ArraySet) : List Byte :=
  layout 0 34112
    [(0, t.acc.toList.flatMap fun r => r.toList.flatMap fun x => word4 x.toNat), (33540, word8 t.rowsp.toNat),
      (33548, toBytes 16 t.colsp.toNat), (33564, word8 t.dmask.toNat), (33572, t.dcol.toList.flatMap fun x => word4 x.toNat)]

/-- The receive queues, each a count and 64 places. -/
def chanBytes (qs : List (List W64)) : List Byte :=
  qs.flatMap fun q => layout 0 520 [(0, word8 q.length), (8, wordBytes q)]

/-- An engine operation that continues past a stop (R368, R377). -/
structure EngEntry where
  op : Nat
  done : Bool
  cpl : Nat
  obj : List Byte
deriving DecidableEq, Repr

def EngEntry.bytes (e : EngEntry) : List Byte := word8 (e.op + e.done.toNat * 2 ^ 32) ++ word8 e.cpl ++ e.obj

/-- A scratchpad range of the image: base, bytes, full-empty bits. -/
structure PadRange where
  base : Nat
  data : List Byte
  full : List Bool
deriving DecidableEq, Repr

/-- Full-empty bits as bytes, the lowest granule in bit 0. -/
def packBits : List Bool → Nat
  | [] => 0
  | b :: l => b.toNat + 2 * packBits l

def PadRange.bytes (p : PadRange) : List Byte :=
  word8 p.base ++ word8 p.data.length ++ p.data ++ toBytes (64 * ((p.data.length + 8191) / 8192)) (packBits p.full)

/-- What an image is made of besides the context. -/
structure ImageExtra where
  chans : List (List W64)
  landing : List (List Byte)
  eng : List EngEntry
  pads : List PadRange
deriving DecidableEq, Repr

/-- Sections present, in ascending order of their bit. -/
def Context.sections (c : Context) (le : LiveEntry) (x : ImageExtra) : List (Nat × List Byte) :=
  (if le.t0 then [(0, c.w.t0.bytes ++ c.w.t0.markBytes)] else []) ++
  (if le.t1 then [(1, c.w.t1.bytes)] else []) ++
  (if le.mx then [(2, c.w.work.bytes ++ c.w.drain.bytes)] else []) ++
  (if x.chans.any (fun q => !q.isEmpty) then [(3, chanBytes x.chans)] else []) ++
  (if x.landing.isEmpty then [] else [(4, layout 0 2560 [(0, x.landing.flatten)])]) ++
  (if x.eng.isEmpty then [] else [(5, layout 0 1024 [(0, x.eng.flatMap EngEntry.bytes)])]) ++
  (if le.pads.isEmpty then [] else [(6, x.pads.flatMap PadRange.bytes)])

/-- The whole image. -/
def Context.image (c : Context) (le : LiveEntry) (x : ImageExtra) (wc : Nat) : List Byte :=
  let secs := c.sections le x
  let body := secs.foldl (fun acc p => acc ++ pad64 p.2) []
  let smap := (secs.map fun p => 2 ^ p.1).foldl (· + ·) 0
  c.fixedPart le smap (4096 + body.length) wc ++ body

/-! ### MAXIMG (R370) -/

/-- The bytes that a live list adds to an image. -/
def LiveEntry.bytes (e : LiveEntry) : Nat :=
  (if e.t0 then 34816 else 0) + (if e.t1 then 33792 else 0) + (if e.mx then 68224 else 0) +
    (e.pads.map fun p => 16 + p.2 + 64 * ((p.2 + 8191) / 8192)).foldl (· + ·) 0

def maxImg (live : List LiveEntry) : Nat := 11840 + (live.map LiveEntry.bytes).foldl max 0

/-! ### Reading an image -/

def readPc (w : Nat) : PcEntry := ⟨BitVec.ofNat 32 w, BitVec.ofNat 16 (w / 2 ^ 32), bitAt w 63, false⟩

def readLevel (v off : Nat) : Level :=
  let m := at_ v (off + 16) 8
  if bitAt m 48 then
    ⟨BitVec.ofNat 32 m, at_ v (off + 4) 4, BitVec.ofNat 32 (at_ v (off + 8) 4), BitVec.ofNat 32 (at_ v (off + 12) 4),
      some (BitVec.ofNat 8 (m / 2 ^ 32), Fin.ofNat 8 (m / 2 ^ 40))⟩
  else
    ⟨BitVec.ofNat 32 (at_ v off 4), at_ v (off + 4) 4, BitVec.ofNat 32 (at_ v (off + 8) 4), BitVec.ofNat 32 (at_ v (off + 12) 4), none⟩

def readFlag (v off : Nat) : FlagRec :=
  ⟨BitVec.ofNat 6 (at_ v off 8), Vector.ofFn fun i => BitVec.ofNat 32 (at_ v (off + 8 + 4 * i.val) 4)⟩

def readEntry (v off : Nat) : Option TileEntry :=
  match typeOfCode (at_ v (off + 20) 4) with
  | some ty =>
    if at_ v off 4 = 1 then
      some ⟨at_ v (off + 4) 4, at_ v (off + 8) 4, at_ v (off + 12) 4, at_ v (off + 16) 4, ty, at_ v (off + 24) 4⟩
    else none
  | none => none

/-- A binding as an image's record holds it; eight zero words stand for none. -/
def readBinding (v off : Nat) : Option (Binding × Nat) :=
  let ws := (List.range 8).map fun i => BitVec.ofNat 64 (at_ v (off + 8 * i) 8)
  if ws.all (· == 0) then none
  else
    let kind := bits (ws.getD 0 0).toNat 60 4
    let q := kind == 4 || kind == 5
    let b : Binding := ⟨if q then ws.set 2 0 else ws, if q then ws.getD 2 0 else 0, none, [], []⟩
    some (b, b.posOf (at_ v (off + 64) 8))

def readTile (l : List Byte) (ty : TileType) (marks : Bool) : Tile :=
  let area := ofBytes (slice l 32768 1024)
  { ty := ty, rows := Vector.ofFn fun i => rowOfBytes (slice l (512 * i.val) 512), colsum := BitVec.ofNat 4096 (at_ area 0 512)
    rowsum := Vector.ofFn fun i => BitVec.ofNat 32 (at_ area (512 + 4 * i.val) 4), corner := BitVec.ofNat 32 (at_ area 768 4)
    mark := Vector.ofFn fun i => if marks then BitVec.ofNat 128 (ofBytes (slice l (33792 + 16 * i.val) 16)) else 0 }

def readSet (l : List Byte) : ArraySet :=
  let acc : Vector (Vector W32 129) 65 := Vector.ofFn fun i =>
    let row := ofBytes (slice l (516 * i.val) 516)
    Vector.ofFn fun j => BitVec.ofNat 32 (at_ row (4 * j.val) 4)
  let t := ofBytes (slice l 33540 548)
  { acc := acc, parity := acc.map parityRow, rowsp := BitVec.ofNat 64 (at_ t 0 8), colsp := BitVec.ofNat 128 (at_ t 8 16)
    dmask := BitVec.ofNat 64 (at_ t 24 8), dcol := Vector.ofFn fun j => BitVec.ofNat 32 (at_ t (32 + 4 * j.val) 4) }

/-- An image as it is read: the context's own state, and what the core, the channels and the engines get back. -/
structure ImageIn where
  c : Context
  x : ImageExtra
deriving DecidableEq, Repr

/-- The byte ranges of the sections: (bit, offset, length). -/
def sectionAt (smap : Nat) (pads : Nat) : Nat → List (Nat × Nat) → List (Nat × Nat × Nat)
  | _, [] => []
  | off, (b, n) :: r =>
    if bitAt smap b then (b, off, if b = 6 then pads else n) :: sectionAt smap pads ((off + (if b = 6 then pads else n) + 63) / 64 * 64) r
    else sectionAt smap pads off r

def sectionSizes : List (Nat × Nat) := [(0, 34816), (1, 33792), (2, 68224), (3, 4160), (4, 2560), (5, 1024), (6, 0)]

def readPads : Nat → List Byte → List PadRange
  | 0, _ => []
  | k + 1, l =>
    let base := ofBytes (slice l 0 8)
    let len := ofBytes (slice l 8 8)
    let fb := 64 * ((len + 8191) / 8192)
    let f := ofBytes (slice l (16 + len) fb)
    ⟨base, slice l 16 len, (List.range (len / 16)).map (bitAt f)⟩ :: readPads k (l.drop (16 + len + fb))

def readEng : Nat → List Byte → List EngEntry
  | 0, _ => []
  | k + 1, l =>
    let w := ofBytes (slice l 0 8)
    let r := readEng k (l.drop 32)
    if w = 0 then r else ⟨w % 64, bitAt w 32, ofBytes (slice l 8 8), slice l 16 16⟩ :: r

/-- Read an image (R367 to R369): what its live list does not name comes back as zero. The entry test of R54 is not made again (DEDUCED, log
entry 167). -/
def readImage (kslot : BitVec 16) (plot : PlotNo) (gen : BitVec 16) (live : List LiveEntry) (l : List Byte) : ImageIn :=
  let v := ofBytes (l.take 4096)
  let w1 := at_ v 8 8
  let smap := bits w1 48 16
  let li : Fin 64 := Fin.ofNat 64 (bits w1 42 6)
  let le := live.getD li.val ⟨0, false, false, false, []⟩
  let secs := sectionAt smap ((le.pads.map fun p => 16 + p.2 + 64 * ((p.2 + 8191) / 8192)).foldl (· + ·) 0) 4096 sectionSizes
  let sec (b : Nat) : Option (List Byte) := (secs.find? fun p => p.1 == b).map fun p => slice l p.2.1 p.2.2
  let m := at_ v 0x50 8
  let ty0 := (typeOfCode (bits m 0 4)).getD .i32
  let ty1 := (typeOfCode (bits m 4 4)).getD .i32
  let binds := (List.range 16).map fun i => readBinding v (0xAA0 + 72 * i)
  let arr := sec 2
  let a : Arch :=
    { Arch.start with
      g := Vector.ofFn fun i => BitVec.ofNat 64 (at_ v (0x2C0 + 8 * i.val) 8)
      a := Vector.ofFn fun i => BitVec.ofNat 32 (at_ v (0x4C0 + 4 * i.val) 4)
      m := Vector.ofFn fun i => BitVec.ofNat 64 (at_ v (0x500 + 8 * i.val) 8)
      levels := (List.range (min (bits m 16 3) 6)).map fun i => readLevel v (0x80 + 32 * i)
      lstride := Vector.ofFn fun i => BitVec.ofNat 32 (at_ v (0x140 + 4 * i.val) 4)
      sp := BitVec.ofNat 8 (bits m 24 8)
      pc := readPc (at_ v 0x10 8), npc := readPc (at_ v 0x18 8), nnpc := readPc (at_ v 0x20 8)
      rmode := BitVec.ofNat 3 (at_ v 0x30 8), seed := BitVec.ofNat 64 (at_ v 0x38 8), tole := BitVec.ofNat 8 (at_ v 0x40 8)
      t0 := match sec 0 with
        | some b => readTile b ty0 true
        | none => { Tile.zero with ty := ty0 }
      t1 := match sec 1 with
        | some b => readTile b ty1 false
        | none => { Tile.zero with ty := ty1 }
      work := match arr with
        | some b => readSet (b.take 34112)
        | none => .zero
      drain := match arr with
        | some b => readSet (b.drop 34112)
        | none => .zero
      pa := Fin.ofNat 4 (bits m 8 2), pb := Fin.ofNat 4 (bits m 10 2)
      tt := (List.range 32).filterMap fun i => (readEntry v (0x6A0 + 32 * i)).map fun e => (i, e)
      spos := Vector.ofFn fun i => match binds.getD i.val none with
        | some (_, p) => p
        | none => 0
      wc := BitVec.ofNat 32 (at_ v 0x28 8) }
  { c := { Context.empty with
      w := a, sh := a, taskid := BitVec.ofNat 64 (at_ v 0 8), kslot := kslot, plot := plot, gen := gen, cstat := BitVec.ofNat 3 (at_ v 0x48 8)
      flags := Vector.ofFn fun i => readFlag v (0x580 + 32 * i.val)
      fixcnt := Vector.ofFn fun i => BitVec.ofNat 32 (at_ v (0x680 + 4 * i.val) 4)
      live := li
      bind := Vector.ofFn fun i => (binds.getD i.val none).map Prod.fst
      chan := Vector.ofFn fun i =>
        let r := (BitVec.ofNat 64 (at_ v (0xF20 + 16 * i.val) 8), BitVec.ofNat 64 (at_ v (0xF28 + 16 * i.val) 8))
        { Channel.zero with route := if r.1 = 0 ∧ r.2 = 0 then none else some r } }
    x :=
      { chans := match sec 3 with
          | some b => (List.range 8).map fun i =>
              bytesWords (min (ofBytes (slice b (520 * i) 8)) 64) (slice b (520 * i + 8) 512)
          | none => List.replicate 8 []
        landing := match sec 4 with
          | some b => ((List.range 8).map fun i => slice b (320 * i) 320).filter fun e => !e.all (· == 0)
          | none => []
        eng := match sec 5 with
          | some b => readEng 32 b
          | none => []
        pads := match sec 6 with
          | some b => readPads le.pads.length b
          | none => [] } }

/-! ### The header (R366) -/

/-- A header as it is read or written. -/
structure ObjHeader where
  w0 : Nat
  objid : Nat
  w2 : Nat
  w3 : Nat
  w4 : Nat
  bodylen : Nat
  w6 : Nat
  tsusp : Nat
  sealv : Nat
  dir : List Nat
deriving DecidableEq, Repr

def headerW0 : Nat := 0xC0471B0D00010100

def ObjHeader.bytes (h : ObjHeader) : List Byte :=
  layout 0 256
    [(0, [h.w0, h.objid, h.w2, h.w3, h.w4, h.bodylen, h.w6, h.tsusp].flatMap word8), (64, toBytes 16 h.sealv), (128, h.dir.flatMap word8)]

def readHeader (l : List Byte) : ObjHeader :=
  let v := ofBytes l
  ⟨at_ v 0 8, at_ v 8 8, at_ v 16 8, at_ v 24 8, at_ v 32 8, at_ v 40 8, at_ v 48 8, at_ v 56 8, at_ v 64 16,
    (List.range 16).map fun i => at_ v (128 + 8 * i) 8⟩

def ObjHeader.busy (h : ObjHeader) : Bool := bitAt h.w2 34
def ObjHeader.state (h : ObjHeader) : Nat := bits h.w2 32 2
def ObjHeader.version (h : ObjHeader) : Nat := bits h.w2 0 32
def ObjHeader.magicOk (h : ObjHeader) : Bool := h.w0 / 65536 == headerW0 / 65536
def ObjHeader.plotOf (h : ObjHeader) : Nat := bits h.w3 0 24
def ObjHeader.rights (h : ObjHeader) : Nat := bits h.w3 36 4
def ObjHeader.kslot (h : ObjHeader) : Nat := bits h.w4 48 16
def ObjHeader.gang (h : ObjHeader) : Nat := bits h.w4 32 16
def ObjHeader.index (h : ObjHeader) : Nat := bits h.w4 16 16
def ObjHeader.origin (h : ObjHeader) : Nat := bits h.w4 8 8
def ObjHeader.issuer (h : ObjHeader) : Nat := bits h.w4 4 4
def ObjHeader.gsize (h : ObjHeader) : Nat := bits h.w4 0 4

/-- The seal that an object at an address must carry (R371). -/
def State.sealAt (s : State) (plot : Nat) (objid w3 base : Nat) : Nat :=
  ofBytes ((hmacSha512 ((List.range 64).map (Config.plotKey plot (s.plot plot).gen.toNat))
    ([objid, w3, Config.moduleNumber.val, base].flatMap (toBytes 8))).take 16)

/-- Byte offset and length of a member's image (R366). -/
def ObjHeader.imageAt (h : ObjHeader) (k : Nat) : Int × Nat :=
  let d := h.dir.getD k 0
  (toS 40 (d / 2 ^ 24), 64 * (d % 2 ^ 24))

end Sys2Proof.Machine
end

