-- ==== Sys2Proof/Machine/Place.lean ====
section
/-!
DEFINITION. Placing a saved group on cores (R374, R382, R383): what an object's images ask of a core, and the choice of cores
and clusters.
-/
namespace Sys2Proof.Machine

/-! ### Objects in memory -/

/-- The images of an object, read through a die by the device (R366, R367); a member that no longer lived has none. -/
def State.objImages (s : State) (d plot base : Nat) (h : ObjHeader) : Option (List ImageIn) :=
  let p := s.plot plot
  let live := (p.kernels.find h.kslot).elim [] Kernel.live
  (((List.range (h.gsize + 1)).map h.imageAt).filter fun e => e.2 != 0).mapM fun (off, len) =>
    (s.plotRead d plot ((base : Int) + off).toNat len).map
      (readImage (BitVec.ofNat 16 h.kslot) (Fin.ofNat 256 plot) p.gen live)

/-- The header at a plot virtual address, as memory holds it. -/
def State.objHeader (s : State) (d plot base : Nat) : Option ObjHeader :=
  (s.walkNow d plot true false base).map fun da => readHeader (s.homeRead da 256)

/-- The context-region units of an object whose images stand at offset 256 of units (R374). -/
def Plot.unitsOf (p : Plot) (base : Nat) (h : ObjHeader) : List Nat :=
  let sz := 256 + p.policy.imgmax
  if sz = 256 ∨ base < p.policy.ctxbase ∨ (base - p.policy.ctxbase) % sz ≠ 0 ∨ p.policy.ctxmax ≤ (base - p.policy.ctxbase) / sz ∨
      !p.units.contains ((base - p.policy.ctxbase) / sz) then []
  else (((List.range (h.gsize + 1)).map h.imageAt).filter fun e => e.2 != 0).map fun e => (((base : Int) + e.1).toNat - 256 - p.policy.ctxbase) / sz

/-! ### Saved channel words and landing entries (R383) -/

/-- Channel, number of words and words of a landing entry (R418). -/
def landChan (e : List Byte) : KReg := Fin.ofNat 8 (bits (ofBytes (slice e 0 8)) 24 3)
def landWords (e : List Byte) : List W64 := bytesWords (min (bits (ofBytes (slice e 0 8)) 0 6) 32) (slice e 64 256)

/-- Put saved entries into the receive queues in order while they fit and their channel is bound; what is left. -/
def landingSplit (bound : KReg → Bool) : List (List Byte) → List (List W64) → List KReg → List (List W64) × List (List Byte)
  | [], qs, _ => (qs, [])
  | e :: es, qs, full =>
    let k := landChan e
    let q := qs.getD k.val []
    if bound k && !full.contains k && decide (q.length + (landWords e).length ≤ 64) then
      landingSplit bound es (qs.set k.val (q ++ landWords e)) full
    else
      let (qs, left) := landingSplit bound es qs (k :: full)
      (qs, e :: left)

/-- The receive queues and the entries left over of a restored member. -/
def ImageIn.landing (im : ImageIn) : List (List W64) × List (List Byte) :=
  landingSplit (fun k => im.c.chan[k].route.isSome) im.x.landing im.x.chans []

/-! ### What a member asks of a core (R382) -/

/-- A binding's elements, control word and queue lie in the plot's segments. -/
def State.bindFits (s : State) (plot core : Nat) (b : Binding) : Bool :=
  if b.isQueue then
    s.spadOk plot core (bits (b.word 0) 0 32) 8 && s.spadOk plot core b.qbase (b.depth * b.size)
  else s.patternOk plot core (b.addr 0) b.size b.levels

/-- Regions and areas of the tile table fit, their indices are free, and nothing overlaps. -/
def State.tilesFit (s : State) (plot core ctx : Nat) (tt : Tab TileEntry) : Bool :=
  let others := s.othersTab core ctx
  tt.all fun e =>
    e.2.all.all (fun r => s.spadOk plot core r.1 r.2) && !others.any fun o => o.1 == e.1 || runsMeet e.2.all o.2.all

/-- A core of the plot on which work may be placed (R232, R357). -/
def State.coreUsable (s : State) (plot core : Nat) : Bool := (s.plot plot).owns (.core core) && !(s.core core).offline

/-- A context of the machine is free. -/
def State.isFree (s : State) (x : Nat) : Bool := (s.ctx x).st == .free

/-- The entry of greatest measure, the first among equals. -/
def bestBy {α : Type} (f : α → Nat) : List α → Option α
  | [] => none
  | a :: l =>
    match bestBy f l with
    | none => some a
    | some b => some (if f a < f b then b else a)

/-! ### Dictionaries (R55) -/

def dictKey (plot kslot : Nat) : Nat := plot * 65536 + kslot

/-- Bundles of a dictionary. -/
def State.dictSize (s : State) (key : Nat) : Nat :=
  (((s.plot (key / 65536)).kernels.find (key % 65536)).elim [] Kernel.dict).length

/-- The kernels with contexts on a core. -/
def State.coreKernels (s : State) (core : Nat) : List Nat :=
  (List.range 8).filterMap fun k =>
    match s.ctxs.find (core * 8 + k) with
    | some c => if c.st = .free then none else some (dictKey c.plot.val c.kslot.toNat)
    | none => none

/-- The lowest place for a block among those held. -/
def dictGap (held : List (Nat × Nat)) (size : Nat) : Option Nat :=
  (0 :: held.map fun h => h.1 + h.2).find? fun b =>
    decide (b + size ≤ 8192) && held.all fun h => decide (b + size ≤ h.1 ∨ h.1 + h.2 ≤ b)

/-- Make room for a dictionary and place it, the least recently used of those without a context going first. -/
def State.dictPlace (s : State) (core key now : Nat) : Nat → List (Nat × Nat × Nat) → Option (List (Nat × Nat × Nat))
  | 0, _ => none
  | f + 1, ds =>
    match dictGap (ds.map fun d => (d.2.1, s.dictSize d.1)) (s.dictSize key) with
    | some b => some (ds ++ [(key, b, now)])
    | none =>
      match bestBy (fun d => now - d.2.2) (ds.filter fun d => !(s.coreKernels core).contains d.1) with
      | none => none
      | some v => s.dictPlace core key now f (ds.filter fun d => d.1 != v.1)

/-- The dictionaries of a core once a kernel's is in its store; none when it does not fit. -/
def State.dictLoad (s : State) (core key : Nat) : Option (List (Nat × Nat × Nat)) :=
  let ds := (s.core core).dicts
  if ds.any fun d => d.1 == key then some (ds.map fun d => if d.1 = key then (key, d.2.1, s.tick) else d)
  else s.dictPlace core key s.tick (ds.length + 1) ds

/-! ### Cores and contexts (R382) -/

/-- The lowest free context of a core whose landing buffer takes so many more entries. -/
def State.spot (s : State) (core need : Nat) : Option Nat :=
  ((List.range 8).map fun k => core * 8 + k).find? fun x =>
    s.isFree x && decide ((s.landed.filter fun l => l.ctx == x).length + need ≤ 8)

/-- The context that a member would take on a core, which must also find room for its kernel's dictionary (R55). -/
def State.memberSpot (s : State) (plot core : Nat) (im : ImageIn) : Option Nat :=
  if s.coreUsable plot core && (s.dictLoad core (dictKey plot im.c.kslot.toNat)).isSome && (im.x.pads.all fun p => s.spadOk plot core p.base p.data.length) &&
      (im.c.bind.toList.all fun b => b.elim true (s.bindFits plot core)) && s.tilesFit plot core (8 * 640) im.c.w.tt then
    s.spot core im.landing.2.length
  else none

/-- Distinct cores for members, each from its own candidates, in member order: (core, context). -/
def assign : List (List (Nat × Nat)) → List Nat → Option (List Nat)
  | [], _ => some []
  | cs :: rest, used => cs.findSome? fun c => if used.contains c.1 then none else (assign rest (c.1 :: used)).map (c.2 :: ·)

/-- The contexts that a saved group would take in a cluster, by member. -/
def State.placeIn (s : State) (cluster plot : Nat) (ims : List ImageIn) : Option (List Nat) :=
  assign (ims.map fun im => (List.range 16).filterMap fun i =>
    (s.memberSpot plot (cluster * 16 + i) im).map fun x => (cluster * 16 + i, x)) []

/-! ### The quota (R363, R374) -/

/-- Contexts of a plot that hold a strand. -/
def State.residents (s : State) (plot : Nat) : Nat := (s.ctxs.filter fun e => e.2.plot.val == plot && e.2.st != .free).length

/-- Whether n more contexts stay within CTXMAX: those that hold a strand and those saved in units of the region count (R374; DEDUCED, log
entry 179). -/
def State.quotaOk (s : State) (plot n : Nat) : Bool :=
  decide (s.residents plot + (s.plot plot).units.length + n ≤ (s.plot plot).policy.ctxmax)

/-! ### Clusters -/

/-- Free contexts of a plot in a cluster. -/
def State.freeContexts (s : State) (cluster plot : Nat) : Nat :=
  ((List.range 128).filter fun i => s.coreUsable plot (cluster * 16 + i / 8) && s.isFree (cluster * 128 + i)).length

/-- The cluster where a CRES places a group (R388): its own, then its die's, then the module's, by free contexts. -/
def State.cresCluster (s : State) (own plot : Nat) (ims : List ImageIn) : Option Nat :=
  let ok (l : List Nat) := bestBy (fun c => s.freeContexts c plot) (l.filter fun c => (s.placeIn c plot ims).isSome)
  let all := List.range 40
  ((ok [own]).or (ok (all.filter fun c => c != own && c / 10 == own / 10))).or (ok (all.filter fun c => c / 10 != own / 10))

end Sys2Proof.Machine
end

