-- ==== Sys2Proof/Machine/Queues.lean ====
section
/-!
DEFINITION. The transfer slot's queue, work-count, channel-register, barrier and host instructions (R233, R317 to R322, R408
to R411, R455).
-/
namespace Sys2Proof.Machine

/-! ### Task queues (R319 to R322) -/

/-- Whether a base die's answer to a push would be acceptance: a run queue takes every record; a task queue of a disabled function is frozen
(R446). -/
def State.wouldAccept (s : State) (plot : Nat) : QName → Bool
  | .run _ => true
  | .task qn =>
    match s.queue plot qn with
    | some q => !s.fnHeld plot && (s.queueAnswer plot q).accepts
    | none => false

/-! ### Channel registers (R408 to R411) -/

/-- Landing-buffer entries that wait for a channel of the context at x (R411, R419). -/
def State.landedFor (s : State) (x : Nat) (n : KReg) : List Landed :=
  let c := s.ctx x
  s.landed.filter fun l => l.ctx == x && l.chan == n && l.plot == c.plot && l.gang.toNat == gangOf c.taskid

/-- KSTAT's value (R411). -/
def State.kstat (s : State) (x : Nat) (n : KReg) : W64 :=
  let ch := (s.ctx x).chan[n]
  let refused := min ((ch.send.head?.map SendPacket.refused).getD 0) 255
  BitVec.ofNat 64 (refused * 2 ^ 40 + (s.landedFor x n).length * 2 ^ 32 + ch.route.isSome.toNat * 2 ^ 16 +
    (64 - ch.sendWords) * 2 ^ 8 + ch.recv.length)

/-! ### The instructions -/

/-- GBAR (R233): the arrival at the group's barrier, in its bundle's commit; the wait is its YIELD's. -/
def slotGbar (g : Guard) : Slot := fun s c => guarded s c g (.ok { c with post := c.post ++ [.gbar] })
def execGbar (g : Guard) (s : State) : St State := runSlot (slotGbar g) s

/-- QPUSH (R319, R320): waits for the interval's writes at module scope and for the base die's answer; a refusal parks. -/
def slotQpush (g : Guard) (p : Oct) (q : GReg) : Slot := fun s c =>
  guarded s c g do
    let rec_ ← readOct s c p
    let v ← readG s c q
    match s.queueName c.plot v with
    | none => cause 0x12
    | some qn =>
      if rec_.getD 1 0 = 0 then cause 0x12
      else
        settled s c true .module (
          if s.trial then .ok c
          else if !s.iss.answer then freezeFor .checkpoint (some (.queue v))
          else if s.wouldAccept c.plot qn then .ok { c with post := c.post ++ [.qpush v rec_] }
          else .error (.park (.queue v)))
def execQpush (g : Guard) (p : Oct) (q : GReg) (s : State) : St State := runSlot (slotQpush g p q) s

/-- QPOP (R319, R321): eight pending registers, an acquire at module scope; a run queue is refused. -/
def slotQpop (g : Guard) (p : Oct) (q : GReg) : Slot := fun s c =>
  guarded s c g do
    let v ← readG s c q
    match s.queueName c.plot v with
    | some (.task _) => .ok (c.addLoad { mkLoad s (.qpop v) with gd := octDest p, acq := true, scope := .module })
    | _ => cause 0x12
def execQpop (g : Guard) (p : Oct) (q : GReg) (s : State) : St State := runSlot (slotQpop g p q) s

/-- QLEN (R319, R322). -/
def slotQlen (g : Guard) (p : GReg) (q : GReg) : Slot := fun s c =>
  guarded s c g do
    let v ← readG s c q
    match s.queueName c.plot v with
    | some _ => .ok (c.addLoad { mkLoad s (.qlen v) with gd := gDest p })
    | none => cause 0x12
def execQlen (g : Guard) (p : GReg) (q : GReg) (s : State) : St State := runSlot (slotQlen g p q) s

/-- CNTADD (R317). -/
def slotCntadd (g : Guard) (q : GReg) : Slot := fun s c =>
  guarded s c g do
    let v ← readG s c q
    .ok { c with w := { c.w with wc := c.w.wc + v.setWidth 32 } }
def execCntadd (g : Guard) (q : GReg) (s : State) : St State := runSlot (slotCntadd g q) s

/-- CNTRD (R317). -/
def slotCntrd (g : Guard) (d : Dst) : Slot := fun s c => guarded s c g (writeDst s c d 1 (s.cur.w.wc.signExtend 64))
def execCntrd (g : Guard) (d : Dst) (s : State) : St State := runSlot (slotCntrd g d) s

/-- KBIND (R408): no check of the route; words in the send buffer keep theirs (DEDUCED, log entry 74). -/
def slotKbind (g : Guard) (n : KReg) (q : EvenReg) : Slot := fun s c =>
  guarded s c g do
    let r0 ← readG s c (Fin.ofNat 64 (2 * q.val))
    let r1 ← readG s c (Fin.ofNat 64 (2 * q.val + 1))
    let ch := c.chan[n]
    .ok { c with chan := c.chan.set n { ch with route := some (r0, r1) } }
def execKbind (g : Guard) (n : KReg) (q : EvenReg) (s : State) : St State := runSlot (slotKbind g n q) s

/-- KUNBIND (R410). -/
def slotKunbind (g : Guard) (n : KReg) : Slot := fun s c =>
  guarded s c g (
    let ch := c.chan[n]
    .ok { c with chan := c.chan.set n { ch with route := none, recv := [] } })
def execKunbind (g : Guard) (n : KReg) (s : State) : St State := runSlot (slotKunbind g n) s

/-- KSTAT (R411): the channel as it stood before the bundle. -/
def slotKstat (g : Guard) (d : Dst) (n : KReg) : Slot := fun s c => guarded s c g (writeDst s c d 1 (s.kstat s.iss.ctx n))
def execKstat (g : Guard) (d : Dst) (n : KReg) (s : State) : St State := runSlot (slotKstat g d n) s

/-- NOTIFY (R455): a release at system scope, whatever SCOPELIM says, then the message. -/
def slotNotify (g : Guard) (q : GReg) : Slot := fun s c =>
  guarded s c g do
    let v ← readG s c q
    let ok := if c.plot = 0 then 2 ≤ v.toNat ∧ v.toNat ≤ 7 else 3 ≤ v.toNat ∧ v.toNat ≤ 31
    if ok then settled s c true .system (.ok { c with post := c.post ++ [.notify v.toNat] }) else cause 0x10 0x37
def execNotify (g : Guard) (q : GReg) (s : State) : St State := runSlot (slotNotify g q) s

end Sys2Proof.Machine
end

