-- ==== Sys2Proof/Machine/Objects.lean ====
section
/-!
DEFINITION. The continuation instructions (R385 to R391) and the operations on objects that they share with the scheduler.
-/
namespace Sys2Proof.Machine

/-! ### Testing an object (R371, R372, R386) -/

/-- PLOTID of a plot as an object names it. -/
def State.plotid (s : State) (plot : PlotNo) : Nat := plotId (s.plot plot).gen plot

/-- Whether the right of a bit is held over an object (R372). -/
def State.rightHeld (s : State) (plot : Nat) (h : ObjHeader) (b : Nat) : Bool :=
  bitAt h.rights b && (s.plot plot).policy.crights.getLsbD b

/-- MAGIC, PLOT and SEAL (R386, R387). -/
def State.objGenuine (s : State) (plot : PlotNo) (h : ObjHeader) (base : Nat) : Bool :=
  h.magicOk && h.plotOf == s.plotid plot && h.sealv == s.sealAt plot h.objid h.w3 base

/-- CRES.T's status of an object, placement apart; the bit is that of the right needed (R386). -/
def State.objStatus (s : State) (plot : PlotNo) (h : ObjHeader) (base right : Nat) : Nat :=
  if !h.magicOk then 3
  else if h.plotOf ≠ s.plotid plot then 4
  else if h.sealv ≠ s.sealAt plot h.objid h.w3 base then 5
  else if !s.rightHeld plot h right then 6
  else match h.state with
    | 1 => 0
    | 2 => 1
    | 3 => 2
    | _ => 3

/-- The fault of a status: CRES distinguishes a second resume, the others do not (R386). -/
def statusFault {α : Type} (resume : Bool) (right : Nat) (st : Nat) : Except Halt α :=
  if st = 1 ∧ resume then cause 0x18
  else if st = 5 then cause 0x1B
  else if st = 6 then cause 0x1A right
  else cause 0x19

/-- Whether an operation on the block waits (R386). -/
def ObjHeader.waits (h : ObjHeader) : Bool := h.magicOk && h.busy

/-! ### Preludes of the instructions (R385) -/

/-- The address in a register: a multiple of 256. -/
def objAddr (s : State) (c : Context) (q : GReg) : Except Halt Nat := do
  let a ← readG s c q
  if a.toNat % 256 ≠ 0 then cause 0x07 0 a.toNat else .ok a.toNat

/-- Translate a range for the instruction: ARG is 0 for a read, 1 for a write, 2 for an atomic. -/
def objRange (s : State) (c : Context) (arg a n : Nat) (k : List (Nat × Nat) → Except Halt Context) : Except Halt Context :=
  match s.trRange s.issDie c.plot (arg != 1) (arg != 0) a n with
  | .fault code fa => cause code arg fa
  | .wait => freezeFor .checkpoint (some (.walk a n))
  | .ok ps => k ps

/-- The header that translated pieces hold. -/
def State.headerAt (s : State) (ps : List (Nat × Nat)) : ObjHeader := readHeader (ps.flatMap fun p => s.homeRead p.1 p.2)

/-- An operation that swaps W2 of the object at a register's address: after the waits, with the header as it stands. -/
def objOp (s : State) (c : Context) (q : GReg) (k : Nat → ObjHeader → Except Halt Context) : Except Halt Context := do
  let a ← objAddr s c q
  objRange s c 2 a 256 fun ps =>
    settled s c true .tenant (
      let h := s.headerAt ps
      if h.waits then freezeFor .checkpoint else k a h)

/-- The status of a CRES, placement included (R386, R388). -/
def State.cresStatus (s : State) (c : Context) (core a : Nat) (h : ObjHeader) : Nat :=
  match s.objStatus c.plot h a 0 with
  | 0 =>
    match s.objImages (dieOf core) c.plot a h with
    | some ims => if (s.cresCluster (clusterOf core) c.plot ims).isSome then 0 else 7
    | none => 7
  | st => st

/-! ### Effects on objects -/

/-- A new OBJID of a die (R366). -/
def State.newObjid (s : State) (d : Nat) : Nat × State :=
  let die := s.die d
  (Config.moduleNumber.val * 2 ^ 56 + d * 2 ^ 54 + die.serial % 2 ^ 54, s.setDie d { die with serial := die.serial + 1 })

/-- CRES: W2 goes to (10, v + 1) with BUSY set, and the group enters the chosen cluster's restore list, with REM − 1 (R388). -/
def State.doCres (s : State) (x a : Nat) : State :=
  let c := s.ctx x
  let core := coreOfCtx x
  match s.objHeader (dieOf core) c.plot a with
  | none => s
  | some h =>
    match (s.objImages (dieOf core) c.plot a h).bind fun ims => s.cresCluster (clusterOf core) c.plot ims with
    | none => s
    | some cl =>
      let s1 := (s.putW2 (dieOf core) c.plot a true 2 (h.version + 1)).addRem c.plot h.gang (-1)
      s1.enterRestore cl
        { obj := a, plot := c.plot, gang := BitVec.ofNat 16 h.gang, strands := h.gsize + 1, level := s.eff x, since := s.tick
          cres := some (BitVec.ofNat 32 (h.version + 1)), issuer := h.issuer, origin := h.origin, units := [], place := [] }

/-- The byte ranges of an object's images at an address (R366, R374). -/
def ObjHeader.parts (h : ObjHeader) (a : Nat) : List (Nat × Nat) :=
  (List.range (h.gsize + 1)).map fun k => (((a : Int) + (h.imageAt k).1).toNat, (h.imageAt k).2)

/-- CDROP: W2 goes to (11, v + 1), the region's units are freed, REM − 1; the completion objects of operations listed in an image's engine
table are not written (R390). -/
def State.doCdrop (s : State) (x a : Nat) : State :=
  let c := s.ctx x
  let d := dieOf (coreOfCtx x)
  match s.objHeader d c.plot a with
  | none => s
  | some h =>
    let us := (s.plot c.plot).unitsOf a h
    let s1 := ((s.putW2 d c.plot a false 3 (h.version + 1)).addRem c.plot h.gang (-1)).giveUnits c.plot us
    { s1 with engines := s1.engines.map fun e =>
        if e.saved && e.plot == c.plot && ((h.parts a).any fun p => decide (p.1 ≤ e.cpl ∧ e.cpl < p.1 + p.2)) then { e with cpl := 0, noted := true } else e }

/-! ### Tiles in images (R208, R378) -/

/-- Replace bytes of a block. -/
def patch (l : List Byte) (off : Nat) (b : List Byte) : List Byte := l.take off ++ b ++ l.drop (off + b.length)

/-- One tile of an image's context checked as it is read: corrected, or the code of its failure. -/
def checkImageTile (tole : BitVec 8) (t : Tile) : Except Nat (Tile × Bool) :=
  match t.check tole with
  | .dataErr => .error 0x16
  | .tolerance => .error 0x17
  | k => .ok (t.correct k, k.fixed)

/-- The tiles that a live list names, checked (R208): the context with its corrections counted in FIXCNT4, or the code of the
first failure. -/
def Context.checkTiles (c : Context) (le : LiveEntry) : Except Nat Context := do
  let (t0, f0) ← if le.t0 then checkImageTile c.w.tole c.w.t0 else Except.ok (c.w.t0, false)
  let (t1, f1) ← if le.t1 then checkImageTile c.w.tole c.w.t1 else Except.ok (c.w.t1, false)
  let n := (c.fixcnt.getD 4 0).toNat + f0.toNat + f1.toNat
  .ok { c with
    w := { c.w with t0 := t0, t1 := t1 }, sh := { c.sh with t0 := t0, t1 := t1 }
    fixcnt := c.fixcnt.setIfInBounds 4 (BitVec.ofNat 32 (min n 0xFFFFFFFF)) }

/-- Whether every engine-table entry of the images is done (R383, R389). -/
def enginesDone (ims : List ImageIn) : Bool := ims.all fun im => im.x.eng.all EngEntry.done

/-! ### CCOPY (R389) -/

/-- The images of a copy, tiles checked, with their lengths; or the code of a failed check. -/
def copyImages (live : List LiveEntry) (ims : List ImageIn) : Except Nat (List (Nat × List Byte)) :=
  ims.mapM fun im => do
    let le := live.getD im.c.live.val ⟨0, false, false, false, []⟩
    let c ← im.c.checkTiles le
    .ok (memberOf im.c.taskid, c.image le im.x (sext 32 64 im.c.w.wc.toNat))

/-- Directory entries of contiguous images from an offset, by member (R366). -/
def dirOf : Nat → List (Nat × List Byte) → Tab Nat
  | _, [] => []
  | off, (k, l) :: ls => (dirOf (off + l.length) ls).set k (off * 2 ^ 24 + l.length / 64)

/-- The sixteen words of a directory. -/
def dirWords (d : Tab Nat) : List Nat := (List.range 16).map fun k => d.get k 0

/-- Write an object of consecutive images at an address of the plot (R378). -/
def State.writeObject (s : State) (d plot a : Nat) (h : ObjHeader) (imgs : List (Nat × List Byte)) (version : Nat) : State :=
  let h := { h with
    w0 := headerW0, w2 := w2Of false 1 version, bodylen := 256 + (imgs.map fun (e : Nat × List Byte) => e.2.length).foldl (· + ·) 0
    tsusp := s.timeOf plot, sealv := s.sealAt plot h.objid h.w3 a, dir := dirWords (dirOf 256 imgs) }
  (s.sysPlotWrite d plot a (h.bytes ++ imgs.flatMap Prod.snd)).getD s

/-- CCOPY: the destination, with the source's RIGHTS (R389, step 6; DEDUCED, log entry 178), then the end of BUSY. -/
def State.doCcopy (s : State) (x dst src : Nat) : State :=
  let c := s.ctx x
  let d := dieOf (coreOfCtx x)
  match s.objHeader d c.plot src with
  | none => s
  | some h =>
    match s.objImages d c.plot src h with
    | none => s
    | some ims =>
      match copyImages (((s.plot c.plot).kernels.find h.kslot).elim [] Kernel.live) ims with
      | .error _ => s
      | .ok imgs =>
        let (id, s1) := s.newObjid d
        let h1 := { h with objid := id, w4 := setBits h.w4 8 8 3 }
        ((s1.writeObject d c.plot dst h1 imgs 0).putW2 d c.plot src false 1 h.version).addRem c.plot h.gang 1

/-! ### The instructions -/

/-- Whether the context's group is already being suspended (R393). -/
def State.suspending (s : State) (c : Context) : Bool :=
  ((s.group c.group).bind Group.stop).any fun t => match t.kind with
    | .susp .. => true
    | _ => false

/-- SUSP (R385 to R387): the object's range translated for writing, no BUSY and no runnable object there. A lower member's SUSP in the same
cycle leaves this one not issued (R393). -/
def slotSusp (g : Guard) (q : GReg) : Slot := fun s c =>
  guarded s c g do
    let a ← objAddr s c q
    let n := ((s.group c.group).map fun x => x.members.length).getD 1
    objRange s c 1 a (256 + n * (s.kernel c).maximg) fun ps =>
      let h := readHeader (slice (ps.flatMap fun p => s.homeRead p.1 p.2) 0 256)
      if h.waits || s.suspending c then freezeFor .checkpoint
      else if s.objGenuine c.plot h a && h.state == 1 then cause 0x19
      else .ok { c with post := c.post ++ [.susp a] }
def execSusp (g : Guard) (q : GReg) (s : State) : St State := runSlot (slotSusp g q) s

/-- CRES (R386, R388). -/
def slotCres (g : Guard) (q : GReg) : Slot := fun s c =>
  guarded s c g (objOp s c q fun a h =>
    match s.cresStatus c s.iss.core a h with
    | 0 => .ok { c with post := c.post ++ [.cres a] }
    | st => statusFault true 0 st)
def execCres (g : Guard) (q : GReg) (s : State) : St State := runSlot (slotCres g q) s

/-- CRES.T (R386, R388): the status and the version that W2 then holds. -/
def slotCresT (g : Guard) (p : GReg) (q : GReg) : Slot := fun s c =>
  guarded s c g (objOp s c q fun a h =>
    let st := s.cresStatus c s.iss.core a h
    let ver := if st = 0 then (h.version + 1) % 2 ^ 32 else h.version
    let c1 := c.addLoad { mkLoad s .status with gd := gDest p, got := some [BitVec.ofNat 64 (ver * 2 ^ 32 + st)] }
    .ok (if st = 0 then { c1 with post := c1.post ++ [.cres a] } else c1))
def execCresT (g : Guard) (p : GReg) (q : GReg) (s : State) : St State := runSlot (slotCresT g p q) s

/-- Steps 4 to 7 of a CCOPY whose tests it has passed: BUSY in the source, the wait for its engine table, W2 of the destination, the copy
(R389). A bundle whose commit is held back begins none of them (R355). -/
def copySteps (s : State) (c : Context) (dst src : Nat) (h : ObjHeader) (ims : List ImageIn) : Except Halt Context :=
  let done : Except Halt Context := .ok { c with post := c.post ++ [.ccopy dst src] }
  match copyImages (((s.plot c.plot).kernels.find h.kslot).elim [] Kernel.live) ims with
  | .error code => cause code 6
  | .ok _ =>
    if s.trial then done
    else match c.copying with
      | none => freezeFor .checkpoint none (.copy src h.version)
      | some (_, _, written) =>
        if !enginesDone ims then freezeFor .checkpoint
        else if written then done
        else freezeFor .checkpoint none (.object dst)

/-- CCOPY (R386, R389): the source tested, the destination translated, apart from the source and not a runnable object. The tests are not
made again once its own BUSY stands in the source. -/
def slotCcopy (g : Guard) (p : GReg) (q : GReg) : Slot := fun s c =>
  guarded s c g do
    let src ← objAddr s c q
    objRange s c 2 src 256 fun ps =>
      settled s c true .tenant (do
        let h := s.headerAt ps
        let begun := c.copying.isSome
        if h.waits && !begun then freezeFor .checkpoint
        else
          let dst ← objAddr s c p
          match if begun then 0 else s.objStatus c.plot h src 1 with
          | 0 =>
            match s.objImages s.issDie c.plot src h with
            | none => cause 0x13 0 src
            | some ims =>
              objRange s c 1 dst (max h.bodylen 256) fun ps =>
                let old := readHeader (slice (ps.flatMap fun p => s.homeRead p.1 p.2) 0 256)
                if runsMeet [(dst, max h.bodylen 256)] ((src, max h.bodylen 256) :: h.parts src) then cause 0x19
                else if !begun && s.objGenuine c.plot old dst && old.state == 1 then cause 0x19
                else copySteps s c dst src h ims
          | st => statusFault false 1 st)
def execCcopy (g : Guard) (p : GReg) (q : GReg) (s : State) : St State := runSlot (slotCcopy g p q) s

/-- CDROP (R386, R390). -/
def slotCdrop (g : Guard) (q : GReg) : Slot := fun s c =>
  guarded s c g (objOp s c q fun a h =>
    match s.objStatus c.plot h a 2 with
    | 0 => .ok { c with post := c.post ++ [.cdrop a] }
    | st => statusFault false 2 st)
def execCdrop (g : Guard) (q : GReg) (s : State) : St State := runSlot (slotCdrop g q) s

/-- CINFO (R385, R391): eight pending registers, an acquire at tenant scope; it freezes no bundle. It reads the seal behind the words too. -/
def slotCinfo (g : Guard) (p : Oct) (q : GReg) : Slot := fun s c =>
  guarded s c g do
    let a ← objAddr s c q
    .ok (c.addLoad { mkLoad s .cinfo with gd := octDest p, addr := a, size := 80, acq := true, scope := .tenant })
def execCinfo (g : Guard) (p : Oct) (q : GReg) (s : State) : St State := runSlot (slotCinfo g p q) s

end Sys2Proof.Machine
end

