-- ==== Sys2Proof/Machine/Privileged.lean ====
section
/-!
DEFINITION. The owner's privileged instructions (R81, R451, R452).
-/
namespace Sys2Proof.Machine

/-! ### The gleaner's job (R452) -/

/-- Whether a range touches a resource granted to a live plot (R452). -/
def State.rangeGranted (s : State) (start len : Nat) : Bool :=
  s.plots.any fun (_, p) => p.live && p.grants.any fun r => resourceMeets r start len

/-- Whether a range holds quarantined blocks whose key slot is still loaded (R452). -/
def State.rangeLocked (s : State) (start len : Nat) : Bool :=
  s.quarantine.any fun q => resourceMeets q.res start len && q.key.any fun k => (s.keys.find k).isSome

/-- The descriptor's fields, out of range or not (R452). -/
def gleanBad (d : List Nat) : Bool :=
  let w (i : Nat) : Nat := d.getD i 0
  let start := w 0
  let len := w 1
  let inside := match regionOf start with
    | .hbm => decide (start + len ≤ hbmTop)
    | .ws _ off => decide (off + len ≤ wsSize)
    | .spad _ off => decide (off + len ≤ spadSize)
    | .none => false
  decide (2 ^ 40 ≤ start) || decide (2 ^ 40 ≤ len) || start % 65536 != 0 || len % 65536 != 0 || len == 0 || !inside ||
    decide (2 ^ 32 ≤ w 2) || (List.range 5).any fun i => w (i + 3) != 0

/-! ### The instructions -/

/-- KSLOTLD (R451): an empty slot of 0 to 255 is loaded. -/
def slotKslotld (g : Guard) (p : Oct) (q : GReg) : Slot := fun s c =>
  guarded s c g do
    let k ← readOct s c p
    let v ← readG s c q
    if 256 ≤ v.toNat ∨ (s.keys.find v.toNat).isSome then cause 0x10 0x34
    else .ok { c with post := c.post ++ [.kslotld v.toNat k] }
def execKslotld (g : Guard) (p : Oct) (q : GReg) (s : State) : St State := runSlot (slotKslotld g p q) s

/-- KSLOTZ (R451). -/
def slotKslotz (g : Guard) (q : GReg) : Slot := fun s c =>
  guarded s c g do
    let v ← readG s c q
    if 256 ≤ v.toNat then cause 0x10 0x35 else .ok { c with post := c.post ++ [.kslotz v.toNat] }
def execKslotz (g : Guard) (q : GReg) (s : State) : St State := runSlot (slotKslotz g q) s

/-- GLEAN (R452): the completion address first, then the descriptor, then the room for a job. -/
def slotGlean (g : Guard) (p : Oct) : Slot := fun s c =>
  guarded s c g do
    let d ← readOct s c p
    let w := d.map BitVec.toNat
    let cpl := w.getD 2 0 % 2 ^ 32
    let _ ← s.cplCheck c cpl
    let start := w.getD 0 0
    let len := w.getD 1 0
    if gleanBad w || s.rangeGranted start len || s.rangeLocked start len then cause 0x10 0x36
    else waitUnless (s.jobs.length < 8) (.ok { c with post := c.post ++ [.glean start len cpl] })
def execGlean (g : Guard) (p : Oct) (s : State) : St State := runSlot (slotGlean g p) s

end Sys2Proof.Machine
end

