-- ==== Sys2Proof/Machine/Scalar.lean ====
section
/-!
DEFINITION. The scalar slot (R76, R92 to R105): integer arithmetic, carry chains, immediates, control registers, scalar
floating point.
-/
namespace Sys2Proof.Machine

/-! ### Shapes -/

/-- Two sources, one result of fixed latency (R92). -/
def scalar2 (g : Guard) (d : Dst) (a b : Src) (lat : Nat) (f : W64 → W64 → W64) : Slot := fun s c =>
  guarded s c g do
    let (c, x) ← readSrc s c a
    let (c, y) ← readSrc s c b
    writeDst s c d lat (f x y)

/-- One source, one result (R92). -/
def scalar1 (g : Guard) (d : Dst) (a : Src) (lat : Nat) (f : W64 → W64) : Slot := fun s c =>
  guarded s c g do
    let (c, x) ← readSrc s c a
    writeDst s c d lat (f x)

/-- Two sources, a single bit (R93). -/
def scalarCmp (g : Guard) (d : GReg) (n : BitNo) (a b : Src) (f : W64 → W64 → Bool) : Slot := fun s c =>
  guarded s c g do
    let (c, x) ← readSrc s c a
    let (c, y) ← readSrc s c b
    writeBit s c d n 1 (f x y)

/-- The carry register and bit of format SC (R68). -/
def carryReg (cy : CarryReg) : GReg := Fin.ofNat 64 (48 + cy.val)

/-- The carry-in: 0 with Z = 1, when the bit is not read (R68). -/
def carryIn (s : State) (c : Context) (cy : CarryReg) (p : BitNo) (z : Bool) : Except Halt Bool :=
  if z then .ok false
  else do
    let v ← readG s c (carryReg cy)
    .ok (v.getLsbD p.val)

/-- ADC and SBC: result and carry-out land after one issue, the carry after the result (R96). -/
def scalarCarry (g : Guard) (d a b : GReg) (cy : CarryReg) (p : BitNo) (z : Bool) (f : Nat → Nat → Nat → W64 × Bool) : Slot :=
  fun s c =>
    guarded s c g do
      let x ← readG s c a
      let y ← readG s c b
      let cin ← carryIn s c cy p z
      let (r, k) := f x.toNat y.toNat cin.toNat
      .ok (c.flyAdd s 1 [.g d r, .latch (latchOf s.iss.slot d.val) r, .gbit (carryReg cy) p k])

/-- Two floating-point sources and a rounding code (R100). -/
def scalarF2 (g : Guard) (d : Dst) (a b : Src) (r : Rnd) (f : Rc → Nat → Nat → Nat × Flags) : Slot := fun s c =>
  guarded s c g do
    let (c, x) ← readSrc s c a
    let (c, y) ← readSrc s c b
    let (v, fl) := f (rcOf s c r 0) x.toNat y.toNat
    writeDst s c d 4 (BitVec.ofNat 64 v) fl

/-- One source of floating-point or integer kind (R104). -/
def scalarF1 (g : Guard) (d : Dst) (a : Src) (r : Rnd) (f : Rc → Nat → Nat × Flags) : Slot := fun s c =>
  guarded s c g do
    let (c, x) ← readSrc s c a
    let (v, fl) := f (rcOf s c r 0) x.toNat
    writeDst s c d 4 (BitVec.ofNat 64 v) fl

/-- A floating-point compare (R103). -/
def scalarFCmp (g : Guard) (d : GReg) (n : BitNo) (a b : Src) (k : FCmp) : Slot := fun s c =>
  guarded s c g do
    let (c, x) ← readSrc s c a
    let (c, y) ← readSrc s c b
    let (v, fl) := fCmp fp32 k (x.toNat % 2 ^ 32) (y.toNat % 2 ^ 32)
    writeBit s c d n 4 v fl

/-- The low 32 bits of an operand (R100). -/
def lo32 (x : Nat) : Nat := x % 2 ^ 32

/-! ### Integer arithmetic (R93, R94) -/

def clamp64 (x : Int) : W64 := BitVec.ofInt 64 (clampInt x (smin 64) (smax 64))
def aluAdds (x y : W64) : W64 := clamp64 (x.toInt + y.toInt)
def aluSubs (x y : W64) : W64 := clamp64 (x.toInt - y.toInt)
def aluAddus (x y : W64) : W64 := BitVec.ofNat 64 (min (x.toNat + y.toNat) (2 ^ 64 - 1))
def aluSubus (x y : W64) : W64 := BitVec.ofNat 64 (x.toNat - y.toNat)
def aluMulh (x y : W64) : W64 := BitVec.ofInt 64 (x.toInt * y.toInt / 2 ^ 64)
def aluMulhu (x y : W64) : W64 := BitVec.ofNat 64 (x.toNat * y.toNat / 2 ^ 64)
/-- R94: a zero divisor gives all ones; the one overflow gives −2^63. -/
def aluDiv (x y : W64) : W64 := if y = 0 then BitVec.allOnes 64 else BitVec.ofInt 64 (x.toInt.tdiv y.toInt)
def aluDivu (x y : W64) : W64 := if y = 0 then BitVec.allOnes 64 else BitVec.ofNat 64 (x.toNat / y.toNat)
/-- R94: a zero divisor gives x; otherwise x − y·quotient, of the dividend's sign. -/
def aluRem (x y : W64) : W64 := if y = 0 then x else BitVec.ofInt 64 (x.toInt.tmod y.toInt)
def aluRemu (x y : W64) : W64 := if y = 0 then x else BitVec.ofNat 64 (x.toNat % y.toNat)
def shCount (y : W64) : Nat := y.toNat % 64
def aluShl (x y : W64) : W64 := x <<< shCount y
def aluShr (x y : W64) : W64 := x >>> shCount y
def aluSra (x y : W64) : W64 := x.sshiftRight (shCount y)
def aluRol (x y : W64) : W64 := BitVec.ofNat 64 (rotl 64 x.toNat (shCount y))
def aluMin (x y : W64) : W64 := if x.toInt ≤ y.toInt then x else y
def aluMax (x y : W64) : W64 := if x.toInt ≤ y.toInt then y else x
def aluMinu (x y : W64) : W64 := if x.toNat ≤ y.toNat then x else y
def aluMaxu (x y : W64) : W64 := if x.toNat ≤ y.toNat then y else x
/-- The width of a bit field that starts at f: it ends at bit 63 at most. -/
def fieldWidth (f : BitNo) (y : W64) : Nat := min (y.toNat % 64 + 1) (64 - f.val)
def aluBext (f : BitNo) (x y : W64) : W64 := BitVec.ofNat 64 (bits x.toNat f.val (fieldWidth f y))
def aluBins (f : BitNo) (old x y : W64) : W64 := BitVec.ofNat 64 (setBits old.toNat f.val (fieldWidth f y) x.toNat)
def aluSext (f : BitNo) (x : W64) : W64 := BitVec.ofNat 64 (sext (f.val + 1) 64 x.toNat)
def aluZext (f : BitNo) (x : W64) : W64 := BitVec.ofNat 64 (x.toNat % 2 ^ (f.val + 1))
def adcOp (x y k : Nat) : W64 × Bool := (BitVec.ofNat 64 (x + y + k), decide (2 ^ 64 ≤ x + y + k))
def sbcOp (x y k : Nat) : W64 × Bool := (BitVec.ofInt 64 ((x : Int) - y - k), decide (x < y + k))

/-! ### The instructions -/

/-- SNOP (R60): it reads no operand and has no effect. -/
def slotSnop : Slot := fun _ c => .ok c
def execSnop (s : State) : St State := runSlot slotSnop s

/-- ADD (R93). -/
def slotAdd (g : Guard) (d : Dst) (a : Src) (b : Src) : Slot := scalar2 g d a b 1 (fun x y => x + y)
def execAdd (g : Guard) (d : Dst) (a : Src) (b : Src) (s : State) : St State := runSlot (slotAdd g d a b) s

/-- SUB (R93). -/
def slotSub (g : Guard) (d : Dst) (a : Src) (b : Src) : Slot := scalar2 g d a b 1 (fun x y => x - y)
def execSub (g : Guard) (d : Dst) (a : Src) (b : Src) (s : State) : St State := runSlot (slotSub g d a b) s

/-- ADDS (R93). -/
def slotAdds (g : Guard) (d : Dst) (a : Src) (b : Src) : Slot := scalar2 g d a b 1 aluAdds
def execAdds (g : Guard) (d : Dst) (a : Src) (b : Src) (s : State) : St State := runSlot (slotAdds g d a b) s

/-- SUBS (R93). -/
def slotSubs (g : Guard) (d : Dst) (a : Src) (b : Src) : Slot := scalar2 g d a b 1 aluSubs
def execSubs (g : Guard) (d : Dst) (a : Src) (b : Src) (s : State) : St State := runSlot (slotSubs g d a b) s

/-- ADDUS (R93). -/
def slotAddus (g : Guard) (d : Dst) (a : Src) (b : Src) : Slot := scalar2 g d a b 1 aluAddus
def execAddus (g : Guard) (d : Dst) (a : Src) (b : Src) (s : State) : St State := runSlot (slotAddus g d a b) s

/-- SUBUS (R93). -/
def slotSubus (g : Guard) (d : Dst) (a : Src) (b : Src) : Slot := scalar2 g d a b 1 aluSubus
def execSubus (g : Guard) (d : Dst) (a : Src) (b : Src) (s : State) : St State := runSlot (slotSubus g d a b) s

/-- ADC (R96). -/
def slotAdc (g : Guard) (d : GReg) (a : GReg) (b : GReg) (cy : CarryReg) (p : BitNo) (z : Bool) : Slot := scalarCarry g d a b cy p z adcOp
def execAdc (g : Guard) (d : GReg) (a : GReg) (b : GReg) (cy : CarryReg) (p : BitNo) (z : Bool) (s : State) : St State := runSlot (slotAdc g d a b cy p z) s

/-- SBC (R96). -/
def slotSbc (g : Guard) (d : GReg) (a : GReg) (b : GReg) (cy : CarryReg) (p : BitNo) (z : Bool) : Slot := scalarCarry g d a b cy p z sbcOp
def execSbc (g : Guard) (d : GReg) (a : GReg) (b : GReg) (cy : CarryReg) (p : BitNo) (z : Bool) (s : State) : St State := runSlot (slotSbc g d a b cy p z) s

/-- MUL (R93). -/
def slotMul (g : Guard) (d : Dst) (a : Src) (b : Src) : Slot := scalar2 g d a b 3 (fun x y => x * y)
def execMul (g : Guard) (d : Dst) (a : Src) (b : Src) (s : State) : St State := runSlot (slotMul g d a b) s

/-- MULH (R93). -/
def slotMulh (g : Guard) (d : Dst) (a : Src) (b : Src) : Slot := scalar2 g d a b 3 aluMulh
def execMulh (g : Guard) (d : Dst) (a : Src) (b : Src) (s : State) : St State := runSlot (slotMulh g d a b) s

/-- MULHU (R93). -/
def slotMulhu (g : Guard) (d : Dst) (a : Src) (b : Src) : Slot := scalar2 g d a b 3 aluMulhu
def execMulhu (g : Guard) (d : Dst) (a : Src) (b : Src) (s : State) : St State := runSlot (slotMulhu g d a b) s

/-- MADC (R97): gD, g(D+1) and the carry-out land after three issues, in that order. -/
def slotMadc (g : Guard) (d : GReg) (a : GReg) (b : GReg) (cy : CarryReg) (p : BitNo) (z : Bool) : Slot := fun s c =>
  guarded s c g do
    let x ← readG s c a
    let y ← readG s c b
    let old ← readG s c d
    let cin ← carryIn s c cy p z
    let q := x.toNat * y.toNat
    let lo := q % 2 ^ 64 + old.toNat + cin.toNat
    let r : W64 := BitVec.ofNat 64 lo
    .ok (c.flyAdd s 3 [.g d r, .latch (latchOf s.iss.slot d.val) r, .g (d + 1) (BitVec.ofNat 64 (q / 2 ^ 64)),
      .gbit (carryReg cy) p (decide (2 ^ 64 ≤ lo))])
def execMadc (g : Guard) (d : GReg) (a : GReg) (b : GReg) (cy : CarryReg) (p : BitNo) (z : Bool) (s : State) : St State := runSlot (slotMadc g d a b cy p z) s

/-- DIV (R93, R94). -/
def slotDiv (g : Guard) (d : Dst) (a : Src) (b : Src) : Slot := scalar2 g d a b 24 aluDiv
def execDiv (g : Guard) (d : Dst) (a : Src) (b : Src) (s : State) : St State := runSlot (slotDiv g d a b) s

/-- DIVU (R93, R94). -/
def slotDivu (g : Guard) (d : Dst) (a : Src) (b : Src) : Slot := scalar2 g d a b 24 aluDivu
def execDivu (g : Guard) (d : Dst) (a : Src) (b : Src) (s : State) : St State := runSlot (slotDivu g d a b) s

/-- REM (R93, R94). -/
def slotRem (g : Guard) (d : Dst) (a : Src) (b : Src) : Slot := scalar2 g d a b 24 aluRem
def execRem (g : Guard) (d : Dst) (a : Src) (b : Src) (s : State) : St State := runSlot (slotRem g d a b) s

/-- REMU (R93, R94). -/
def slotRemu (g : Guard) (d : Dst) (a : Src) (b : Src) : Slot := scalar2 g d a b 24 aluRemu
def execRemu (g : Guard) (d : Dst) (a : Src) (b : Src) (s : State) : St State := runSlot (slotRemu g d a b) s

/-- AND (R93). -/
def slotAnd (g : Guard) (d : Dst) (a : Src) (b : Src) : Slot := scalar2 g d a b 1 (fun x y => x &&& y)
def execAnd (g : Guard) (d : Dst) (a : Src) (b : Src) (s : State) : St State := runSlot (slotAnd g d a b) s

/-- OR (R93). -/
def slotOr (g : Guard) (d : Dst) (a : Src) (b : Src) : Slot := scalar2 g d a b 1 (fun x y => x ||| y)
def execOr (g : Guard) (d : Dst) (a : Src) (b : Src) (s : State) : St State := runSlot (slotOr g d a b) s

/-- XOR (R93). -/
def slotXor (g : Guard) (d : Dst) (a : Src) (b : Src) : Slot := scalar2 g d a b 1 (fun x y => x ^^^ y)
def execXor (g : Guard) (d : Dst) (a : Src) (b : Src) (s : State) : St State := runSlot (slotXor g d a b) s

/-- ANDN (R93). -/
def slotAndn (g : Guard) (d : Dst) (a : Src) (b : Src) : Slot := scalar2 g d a b 1 (fun x y => x &&& ~~~y)
def execAndn (g : Guard) (d : Dst) (a : Src) (b : Src) (s : State) : St State := runSlot (slotAndn g d a b) s

/-- ORN (R93). -/
def slotOrn (g : Guard) (d : Dst) (a : Src) (b : Src) : Slot := scalar2 g d a b 1 (fun x y => x ||| ~~~y)
def execOrn (g : Guard) (d : Dst) (a : Src) (b : Src) (s : State) : St State := runSlot (slotOrn g d a b) s

/-- SHL (R93). -/
def slotShl (g : Guard) (d : Dst) (a : Src) (b : Src) : Slot := scalar2 g d a b 1 aluShl
def execShl (g : Guard) (d : Dst) (a : Src) (b : Src) (s : State) : St State := runSlot (slotShl g d a b) s

/-- SHR (R93). -/
def slotShr (g : Guard) (d : Dst) (a : Src) (b : Src) : Slot := scalar2 g d a b 1 aluShr
def execShr (g : Guard) (d : Dst) (a : Src) (b : Src) (s : State) : St State := runSlot (slotShr g d a b) s

/-- SRA (R93). -/
def slotSra (g : Guard) (d : Dst) (a : Src) (b : Src) : Slot := scalar2 g d a b 1 aluSra
def execSra (g : Guard) (d : Dst) (a : Src) (b : Src) (s : State) : St State := runSlot (slotSra g d a b) s

/-- ROL (R93). -/
def slotRol (g : Guard) (d : Dst) (a : Src) (b : Src) : Slot := scalar2 g d a b 1 aluRol
def execRol (g : Guard) (d : Dst) (a : Src) (b : Src) (s : State) : St State := runSlot (slotRol g d a b) s

/-- CLZ (R93). -/
def slotClz (g : Guard) (d : Dst) (a : Src) : Slot := scalar1 g d a 1 (fun x => BitVec.ofNat 64 (clz 64 x.toNat))
def execClz (g : Guard) (d : Dst) (a : Src) (s : State) : St State := runSlot (slotClz g d a) s

/-- CTZ (R93). -/
def slotCtz (g : Guard) (d : Dst) (a : Src) : Slot := scalar1 g d a 1 (fun x => BitVec.ofNat 64 (ctz 64 x.toNat))
def execCtz (g : Guard) (d : Dst) (a : Src) (s : State) : St State := runSlot (slotCtz g d a) s

/-- POPC (R93). -/
def slotPopc (g : Guard) (d : Dst) (a : Src) : Slot := scalar1 g d a 1 (fun x => BitVec.ofNat 64 (popc 64 x.toNat))
def execPopc (g : Guard) (d : Dst) (a : Src) (s : State) : St State := runSlot (slotPopc g d a) s

/-- BEXT (R93). -/
def slotBext (g : Guard) (d : Dst) (a : Src) (b : Src) (f : BitNo) : Slot := scalar2 g d a b 1 (aluBext f)
def execBext (g : Guard) (d : Dst) (a : Src) (b : Src) (f : BitNo) (s : State) : St State := runSlot (slotBext g d a b f) s

/-- BINS (R93, R95). -/
def slotBins (g : Guard) (d : GReg) (a : Src) (b : Src) (f : BitNo) : Slot := fun s c =>
  guarded s c g do
    let (c, x) ← readSrc s c a
    let (c, y) ← readSrc s c b
    let old ← readG s c d
    writeDst s c (.g d) 1 (aluBins f old x y)
def execBins (g : Guard) (d : GReg) (a : Src) (b : Src) (f : BitNo) (s : State) : St State := runSlot (slotBins g d a b f) s

/-- SEXT (R93). -/
def slotSext (g : Guard) (d : Dst) (a : Src) (f : BitNo) : Slot := scalar1 g d a 1 (aluSext f)
def execSext (g : Guard) (d : Dst) (a : Src) (f : BitNo) (s : State) : St State := runSlot (slotSext g d a f) s

/-- ZEXT (R93). -/
def slotZext (g : Guard) (d : Dst) (a : Src) (f : BitNo) : Slot := scalar1 g d a 1 (aluZext f)
def execZext (g : Guard) (d : Dst) (a : Src) (f : BitNo) (s : State) : St State := runSlot (slotZext g d a f) s

/-- CMPEQ (R93). -/
def slotCmpeq (g : Guard) (d : GReg) (n : BitNo) (a : Src) (b : Src) : Slot := scalarCmp g d n a b (fun x y => x == y)
def execCmpeq (g : Guard) (d : GReg) (n : BitNo) (a : Src) (b : Src) (s : State) : St State := runSlot (slotCmpeq g d n a b) s

/-- CMPNE (R93). -/
def slotCmpne (g : Guard) (d : GReg) (n : BitNo) (a : Src) (b : Src) : Slot := scalarCmp g d n a b (fun x y => x != y)
def execCmpne (g : Guard) (d : GReg) (n : BitNo) (a : Src) (b : Src) (s : State) : St State := runSlot (slotCmpne g d n a b) s

/-- CMPLT (R93). -/
def slotCmplt (g : Guard) (d : GReg) (n : BitNo) (a : Src) (b : Src) : Slot := scalarCmp g d n a b (fun x y => decide (x.toInt < y.toInt))
def execCmplt (g : Guard) (d : GReg) (n : BitNo) (a : Src) (b : Src) (s : State) : St State := runSlot (slotCmplt g d n a b) s

/-- CMPLE (R93). -/
def slotCmple (g : Guard) (d : GReg) (n : BitNo) (a : Src) (b : Src) : Slot := scalarCmp g d n a b (fun x y => decide (x.toInt ≤ y.toInt))
def execCmple (g : Guard) (d : GReg) (n : BitNo) (a : Src) (b : Src) (s : State) : St State := runSlot (slotCmple g d n a b) s

/-- CMPLTU (R93). -/
def slotCmpltu (g : Guard) (d : GReg) (n : BitNo) (a : Src) (b : Src) : Slot := scalarCmp g d n a b (fun x y => decide (x.toNat < y.toNat))
def execCmpltu (g : Guard) (d : GReg) (n : BitNo) (a : Src) (b : Src) (s : State) : St State := runSlot (slotCmpltu g d n a b) s

/-- CMPLEU (R93). -/
def slotCmpleu (g : Guard) (d : GReg) (n : BitNo) (a : Src) (b : Src) : Slot := scalarCmp g d n a b (fun x y => decide (x.toNat ≤ y.toNat))
def execCmpleu (g : Guard) (d : GReg) (n : BitNo) (a : Src) (b : Src) (s : State) : St State := runSlot (slotCmpleu g d n a b) s

/-- MIN (R93). -/
def slotMin (g : Guard) (d : Dst) (a : Src) (b : Src) : Slot := scalar2 g d a b 1 aluMin
def execMin (g : Guard) (d : Dst) (a : Src) (b : Src) (s : State) : St State := runSlot (slotMin g d a b) s

/-- MAX (R93). -/
def slotMax (g : Guard) (d : Dst) (a : Src) (b : Src) : Slot := scalar2 g d a b 1 aluMax
def execMax (g : Guard) (d : Dst) (a : Src) (b : Src) (s : State) : St State := runSlot (slotMax g d a b) s

/-- MINU (R93). -/
def slotMinu (g : Guard) (d : Dst) (a : Src) (b : Src) : Slot := scalar2 g d a b 1 aluMinu
def execMinu (g : Guard) (d : Dst) (a : Src) (b : Src) (s : State) : St State := runSlot (slotMinu g d a b) s

/-- MAXU (R93). -/
def slotMaxu (g : Guard) (d : Dst) (a : Src) (b : Src) : Slot := scalar2 g d a b 1 aluMaxu
def execMaxu (g : Guard) (d : Dst) (a : Src) (b : Src) (s : State) : St State := runSlot (slotMaxu g d a b) s

/-- MOVI (R98). -/
def slotMovi (g : Guard) (d : Dst) (imm : Imm21) : Slot := fun s c => guarded s c g (writeDst s c d 1 (imm.signExtend 64))
def execMovi (g : Guard) (d : Dst) (imm : Imm21) (s : State) : St State := runSlot (slotMovi g d imm) s

/-- MOVK (R98). -/
def slotMovk (g : Guard) (d : GReg) (hw : Code4) (imm : Imm16) : Slot := fun s c =>
  guarded s c g do
    let old ← readG s c d
    writeDst s c (.g d) 1 (BitVec.ofNat 64 (setBits old.toNat (16 * hw.val) 16 imm.toNat))
def execMovk (g : Guard) (d : GReg) (hw : Code4) (imm : Imm16) (s : State) : St State := runSlot (slotMovk g d hw imm) s

/-- MFS (R99): the value before the bundle issued; a number that is not listed is an illegal bundle, check 0x09 (R16, R87). -/
def slotMfs (g : Guard) (d : Dst) (csr : CsrNo) : Slot := fun s c =>
  guarded s c g (
    match csrRead s c csr.toNat with
    | none => cause 0x02 9
    | some v =>
      let c1 := if csrOutside csr.toNat then c.takeIn [v] else c
      let c2 := if csr.toNat = 0x010 then { c1 with post := c1.post ++ [.timeRead v.toNat] } else c1
      writeDst s c2 d 1 v)
def execMfs (g : Guard) (d : Dst) (csr : CsrNo) (s : State) : St State := runSlot (slotMfs g d csr) s

/-- MTS (R16, R18, R99): takes effect for later bundles; a register marked RO stays as it is. -/
def slotMts (g : Guard) (a : Src) (csr : CsrNo) : Slot := fun s c =>
  guarded s c g do
    let (c, x) ← readSrc s c a
    match csrRead s c csr.toNat with
    | none => cause 0x02 9
    | some _ => .ok (c.flyAdd s 1 [.csr csr x])
def execMts (g : Guard) (a : Src) (csr : CsrNo) (s : State) : St State := runSlot (slotMts g a csr) s

/-- MOVB (R93). -/
def slotMovb (g : Guard) (d : GReg) (n : BitNo) (inv : Bool) (a : Src) (bit : BitNo) : Slot := fun s c =>
  guarded s c g do
    let (c, x) ← readSrc s c a
    writeBit s c d n 1 (x.getLsbD bit.val != inv)
def execMovb (g : Guard) (d : GReg) (n : BitNo) (inv : Bool) (a : Src) (bit : BitNo) (s : State) : St State := runSlot (slotMovb g d n inv a bit) s

/-- FADD (R101, R102). -/
def slotFadd (g : Guard) (d : Dst) (a : Src) (b : Src) (r : Rnd) : Slot := scalarF2 g d a b r fun rc x y => fAdd fp32 rc (lo32 x) (lo32 y)
def execFadd (g : Guard) (d : Dst) (a : Src) (b : Src) (r : Rnd) (s : State) : St State := runSlot (slotFadd g d a b r) s

/-- FSUB (R101, R102). -/
def slotFsub (g : Guard) (d : Dst) (a : Src) (b : Src) (r : Rnd) : Slot := scalarF2 g d a b r fun rc x y => fSub fp32 rc (lo32 x) (lo32 y)
def execFsub (g : Guard) (d : Dst) (a : Src) (b : Src) (r : Rnd) (s : State) : St State := runSlot (slotFsub g d a b r) s

/-- FMUL (R101, R102). -/
def slotFmul (g : Guard) (d : Dst) (a : Src) (b : Src) (r : Rnd) : Slot := scalarF2 g d a b r fun rc x y => fMul fp32 rc (lo32 x) (lo32 y)
def execFmul (g : Guard) (d : Dst) (a : Src) (b : Src) (r : Rnd) (s : State) : St State := runSlot (slotFmul g d a b r) s

/-- FMA (R101). -/
def slotFma (g : Guard) (d : GReg) (a : Src) (b : Src) (r : Rnd) : Slot := fun s c =>
  guarded s c g do
    let (c, x) ← readSrc s c a
    let (c, y) ← readSrc s c b
    let old ← readG s c d
    let (v, fl) := fFma fp32 (rcOf s c r 0) false false (lo32 x.toNat) (lo32 y.toNat) (lo32 old.toNat)
    writeDst s c (.g d) 4 (BitVec.ofNat 64 v) fl
def execFma (g : Guard) (d : GReg) (a : Src) (b : Src) (r : Rnd) (s : State) : St State := runSlot (slotFma g d a b r) s

/-- FMIN (R101, R102). -/
def slotFmin (g : Guard) (d : Dst) (a : Src) (b : Src) (r : Rnd) : Slot := scalarF2 g d a b r fun _ x y => fMinMax fp32 false false (lo32 x) (lo32 y)
def execFmin (g : Guard) (d : Dst) (a : Src) (b : Src) (r : Rnd) (s : State) : St State := runSlot (slotFmin g d a b r) s

/-- FMAX (R101, R102). -/
def slotFmax (g : Guard) (d : Dst) (a : Src) (b : Src) (r : Rnd) : Slot := scalarF2 g d a b r fun _ x y => fMinMax fp32 true false (lo32 x) (lo32 y)
def execFmax (g : Guard) (d : Dst) (a : Src) (b : Src) (r : Rnd) (s : State) : St State := runSlot (slotFmax g d a b r) s

/-- FMINNUM (R101, R102). -/
def slotFminnum (g : Guard) (d : Dst) (a : Src) (b : Src) (r : Rnd) : Slot := scalarF2 g d a b r fun _ x y => fMinMax fp32 false true (lo32 x) (lo32 y)
def execFminnum (g : Guard) (d : Dst) (a : Src) (b : Src) (r : Rnd) (s : State) : St State := runSlot (slotFminnum g d a b r) s

/-- FMAXNUM (R101, R102). -/
def slotFmaxnum (g : Guard) (d : Dst) (a : Src) (b : Src) (r : Rnd) : Slot := scalarF2 g d a b r fun _ x y => fMinMax fp32 true true (lo32 x) (lo32 y)
def execFmaxnum (g : Guard) (d : Dst) (a : Src) (b : Src) (r : Rnd) (s : State) : St State := runSlot (slotFmaxnum g d a b r) s

/-- FCMPEQ (R103). -/
def slotFcmpeq (g : Guard) (d : GReg) (n : BitNo) (a : Src) (b : Src) : Slot := scalarFCmp g d n a b .eq
def execFcmpeq (g : Guard) (d : GReg) (n : BitNo) (a : Src) (b : Src) (s : State) : St State := runSlot (slotFcmpeq g d n a b) s

/-- FCMPLT (R103). -/
def slotFcmplt (g : Guard) (d : GReg) (n : BitNo) (a : Src) (b : Src) : Slot := scalarFCmp g d n a b .lt
def execFcmplt (g : Guard) (d : GReg) (n : BitNo) (a : Src) (b : Src) (s : State) : St State := runSlot (slotFcmplt g d n a b) s

/-- FCMPLE (R103). -/
def slotFcmple (g : Guard) (d : GReg) (n : BitNo) (a : Src) (b : Src) : Slot := scalarFCmp g d n a b .le
def execFcmple (g : Guard) (d : GReg) (n : BitNo) (a : Src) (b : Src) (s : State) : St State := runSlot (slotFcmple g d n a b) s

/-- FCMPUN (R103). -/
def slotFcmpun (g : Guard) (d : GReg) (n : BitNo) (a : Src) (b : Src) : Slot := scalarFCmp g d n a b .un
def execFcmpun (g : Guard) (d : GReg) (n : BitNo) (a : Src) (b : Src) (s : State) : St State := runSlot (slotFcmpun g d n a b) s

/-- FCVTIF (R104). -/
def slotFcvtif (g : Guard) (d : Dst) (a : Src) (r : Rnd) : Slot := scalarF1 g d a r fun rc x => intToF fp32 rc (toS 64 x)
def execFcvtif (g : Guard) (d : Dst) (a : Src) (r : Rnd) (s : State) : St State := runSlot (slotFcvtif g d a r) s

/-- FCVTFI (R104). -/
def slotFcvtfi (g : Guard) (d : Dst) (a : Src) (r : Rnd) : Slot := scalarF1 g d a r fun rc x => fToInt fp32 rc 64 false (lo32 x)
def execFcvtfi (g : Guard) (d : Dst) (a : Src) (r : Rnd) (s : State) : St State := runSlot (slotFcvtfi g d a r) s

/-- FCVTF (R104): k is the code of R69. -/
def slotFcvtf (g : Guard) (d : Dst) (a : Src) (k : Code4) (r : Rnd) : Slot := scalarF1 g d a r fun rc x =>
  match k.val with
  | 0 => fCvt fp32 bf16 rc (lo32 x)
  | 1 => fCvt fp32 fp16 rc (lo32 x)
  | 2 => fCvt bf16 fp32 rc (x % 2 ^ 16)
  | _ => fCvt fp16 fp32 rc (x % 2 ^ 16)
def execFcvtf (g : Guard) (d : Dst) (a : Src) (k : Code4) (r : Rnd) (s : State) : St State := runSlot (slotFcvtf g d a k r) s

/-- FCLASS (R105). -/
def slotFclass (g : Guard) (d : Dst) (a : Src) : Slot := scalar1 g d a 4 fun x => BitVec.ofNat 64 (fClass fp32 (lo32 x.toNat))
def execFclass (g : Guard) (d : Dst) (a : Src) (s : State) : St State := runSlot (slotFclass g d a) s

end Sys2Proof.Machine
end

