-- ==== Sys2Proof/Machine/VectorBase.lean ====
section
/-!
DEFINITION. What the vector instructions share (R156 to R166, R170): lanes, flags of an issue, shapes by operands.
-/
namespace Sys2Proof.Machine

/-- Lane results as a row, with the flags of the whole issue (R146). -/
def packLanes (w : Nat) (l : List (Nat × Flags)) : Row × Flags :=
  (ofLanes w (l.map Prod.fst), l.foldl (fun a p => a ||| p.2) 0)

/-- A lane result modulo 2^w without flags. -/
def plain (w : Nat) (x : Int) : Nat × Flags := (wrap w x, 0)

/-- A lane result clamped to a range, with SA when it clamps (R131). -/
def sat (w : Nat) (lo hi x : Int) : Nat × Flags :=
  if x < lo then (wrap w lo, flSA) else if hi < x then (wrap w hi, flSA) else (wrap w x, 0)

/-- The clamp of SAT = 1 in the signed range, or the wrap (R166). -/
def satIf (on : Bool) (w : Nat) (x : Int) : Nat × Flags := if on then sat w (smin w) (smax w) x else plain w x

/-- The clamp in the signedness u names, or the wrap. -/
def satIfU (on u : Bool) (w : Nat) (x : Int) : Nat × Flags :=
  if on then (if u then sat w 0 ((2 ^ w : Nat) - 1) x else sat w (smin w) (smax w) x) else plain w x

/-- The float format of an operation; none raises the element-type fault (R159). -/
def needFmt (o : OpW) : Except Halt Fmt :=
  match o.fmt with
  | some f => .ok f
  | none => typeFault

/-- The operation tile that an S2 of 0 gives a form without a second source: the field names v0 (17_program_gang_flood.md, Width; R158). -/
def noS2 : Option TileNo := some 0

/-- One source, lane by lane, at the operation width. -/
def vec1 (g : Guard) (d : VDst) (a : VSrc) (lat : Nat) (f : Nat → Nat → Nat × Flags) : Slot := fun s c =>
  guarded s c g do
    let w := (opWidth c (dTile d) (sTile a) noS2).w
    let (c, x) ← readVSrc s c w false a
    let (r, fl) := packLanes w ((lanes w x).map (f w))
    writeVDst s c d lat r fl

/-- Two sources, lane by lane. -/
def vec2 (g : Guard) (d : VDst) (a b : VSrc) (lat : Nat) (f : Nat → Nat → Nat → Nat × Flags) : Slot := fun s c =>
  guarded s c g do
    let w := (opWidth c (dTile d) (sTile a) (rowTile b)).w
    let (c, x) ← readVSrc s c w false a
    let (c, y) ← readVSrc s c w false b
    let (r, fl) := packLanes w (List.zipWith (f w) (lanes w x) (lanes w y))
    writeVDst s c d lat r fl

/-- Lane by lane over three rows. -/
def zip3 {α : Type} (f : Nat → Nat → Nat → α) (x y z : List Nat) : List α :=
  List.zipWith (fun p q => f p.1 p.2 q) (x.zip y) z

/-- Two sources and the old destination row. -/
def vec3 (g : Guard) (d : VReg) (a b : VSrc) (lat : Nat) (f : Nat → Nat → Nat → Nat → Nat × Flags) : Slot := fun s c =>
  guarded s c g do
    let w := (opWidth c (some (vTile d)) (sTile a) (rowTile b)).w
    let (c, x) ← readVSrc s c w false a
    let (c, y) ← readVSrc s c w false b
    let old ← readV s c d
    let (r, fl) := packLanes w (zip3 (f w) (lanes w x) (lanes w y) (lanes w old))
    writeVDst s c (.v d) lat r fl

/-- Two sources as whole lists of lanes: (width, lanes of S1, lanes of S2). -/
def vecList2 (g : Guard) (d : VDst) (a b : VSrc) (lat : Nat) (f : Nat → List Nat → List Nat → List Nat) : Slot := fun s c =>
  guarded s c g do
    let w := (opWidth c (dTile d) (sTile a) (rowTile b)).w
    let (c, x) ← readVSrc s c w false a
    let (c, y) ← readVSrc s c w false b
    writeVDst s c d lat (ofLanes w (f w (lanes w x) (lanes w y)))

/-- One source as a whole list of lanes. -/
def vecList1 (g : Guard) (d : VDst) (a : VSrc) (lat : Nat) (f : Nat → List Nat → List Nat) : Slot := fun s c =>
  guarded s c g do
    let w := (opWidth c (dTile d) (sTile a) noS2).w
    let (c, x) ← readVSrc s c w false a
    writeVDst s c d lat (ofLanes w (f w (lanes w x)))

/-- A row with one value in lane 0 (R182). -/
def laneZero (x : Nat) : Row := BitVec.ofNat 4096 x

/-- Float sources: one, lane by lane with its index (R158, R165). -/
def vecF1 (g : Guard) (d : VDst) (a : VSrc) (r : Rnd) (lat : Nat) (f : Fmt → Rc → Nat → Nat × Flags) : Slot := fun s c =>
  guarded s c g do
    let o := opWidth c (dTile d) (sTile a) noS2
    let fmt ← needFmt o
    let (c, x) ← readVSrc s c o.w true a
    let (v, fl) := packLanes o.w ((lanes o.w x).zipIdx.map fun (x, i) => f fmt (rcOf s c r i) x)
    writeVDst s c d lat v fl

/-- Float sources: two. `fl2` is false where S2 is an integer (R65). -/
def vecF2 (g : Guard) (d : VDst) (a b : VSrc) (r : Rnd) (fl2 : Bool) (f : Fmt → Rc → Nat → Nat → Nat × Flags) : Slot := fun s c =>
  guarded s c g do
    let o := opWidth c (dTile d) (sTile a) (rowTile b)
    let fmt ← needFmt o
    let (c, x) ← readVSrc s c o.w true a
    let (c, y) ← readVSrc s c o.w fl2 b
    let (v, fl) := packLanes o.w (((lanes o.w x).zip (lanes o.w y)).zipIdx.map fun (p, i) => f fmt (rcOf s c r i) p.1 p.2)
    writeVDst s c d 4 v fl

/-- Float sources: two and the old destination row. -/
def vecF3 (g : Guard) (d : VReg) (a b : VSrc) (r : Rnd) (f : Fmt → Rc → Nat → Nat → Nat → Nat × Flags) : Slot := fun s c =>
  guarded s c g do
    let o := opWidth c (some (vTile d)) (sTile a) (rowTile b)
    let fmt ← needFmt o
    let (c, x) ← readVSrc s c o.w true a
    let (c, y) ← readVSrc s c o.w true b
    let old ← readV s c d
    let (v, fl) := packLanes o.w ((zip3 (fun x y z => (x, y, z)) (lanes o.w x) (lanes o.w y) (lanes o.w old)).zipIdx.map
      fun (p, i) => f fmt (rcOf s c r i) p.1 p.2.1 p.2.2)
    writeVDst s c (.v d) 4 v fl

/-- A float compare: lanes of all ones where it holds (R174). -/
def vecFCmp (g : Guard) (d : VDst) (a b : VSrc) (k : FCmp) : Slot :=
  vecF2 g d a b .rne true fun f _ x y =>
    let (t, fl) := fCmp f k x y
    (maskLane f.width t, fl)

/-- The mask of n lanes of width w from lane `first` on. -/
def laneMask (w first n : Nat) : Row := BitVec.ofNat 4096 ((2 ^ (w * n) - 1) * 2 ^ (w * first))

/-- Lanes placed from lane `first` on. -/
def placeLanes (w first : Nat) (l : List Nat) : Row := BitVec.ofNat 4096 ((ofLanes w l).toNat * 2 ^ (w * first))

/-- A merge of narrow lanes into vD (R178). -/
def mergeLanes (s : State) (c : Context) (d : VReg) (lat w first : Nat) (l : List (Nat × Flags)) : Except Halt Context := do
  let _ ← readV s c d
  writeMerge s c d lat (laneMask w first l.length) (placeLanes w first (l.map Prod.fst)) (l.foldl (fun a p => a ||| p.2) 0)

end Sys2Proof.Machine
end

