-- ==== Sys2Proof/Machine/VectorInt.lean ====
section
/-!
DEFINITION. The vector slot's integer, lane, mask and checksum instructions (R171 to R175, R178, R182 to R186, R188 to
R190).
-/
namespace Sys2Proof.Machine

/-! ### Shapes -/

/-- The carry lanes: all false with z = 1, when the row is not read (R172). -/
def carryRow (s : State) (c : Context) (cy : VReg) (z : Bool) : Except Halt Row := if z then .ok 0 else readV s c cy

/-- VADC and VSBC: the result row, then the carry row (R172). -/
def vecCarry (g : Guard) (d : VDst) (a b : VSrc) (cy : VReg) (z : Bool) (f : Nat → Nat → Nat → Nat → Nat × Bool) : Slot :=
  fun s c =>
    guarded s c g do
      let w := (opWidth c (dTile d) (sTile a) (rowTile b)).w
      let (c, x) ← readVSrc s c w false a
      let (c, y) ← readVSrc s c w false b
      let k ← carryRow s c cy z
      let t := zip3 (fun x y z => f w x y (if z = 0 then 0 else 1)) (lanes w x) (lanes w y) (lanes w k)
      writeVDst s c d 2 (ofLanes w (t.map Prod.fst)) 0
        [.v cy (BitVec.allOnes 4096) (ofLanes w (t.map fun p => p.2.toNat))]

/-- The narrow source lanes of the half h (R173). -/
def halfLanes (w : Nat) (h : Bool) (r : Row) : List Nat :=
  ((lanes (w / 2) r).drop (if h then 4096 / w else 0)).take (4096 / w)

/-- The exact product of two narrow lanes. -/
def wideProduct (u : Bool) (n x y : Nat) : Int := if u then (x : Int) * y else toS n x * toS n y

/-- Σ a_k·b_k over the four bytes (R173). -/
def dot4 (sa sb : Bool) (x y : Nat) : Int :=
  ((List.range 4).map fun k =>
    let p := bits x (8 * k) 8
    let q := bits y (8 * k) 8
    (if sa then toS 8 p else (p : Int)) * (if sb then toS 8 q else (q : Int))).foldl (· + ·) 0

/-- A reduction into lane 0 (R182). -/
def vecRed (g : Guard) (d : VDst) (a : VSrc) (f : Nat → List Nat → Nat) : Slot := fun s c =>
  guarded s c g do
    let w := (opWidth c (dTile d) (sTile a) noS2).w
    let (c, x) ← readVSrc s c w false a
    writeVDst s c d 2 (laneZero (f w (lanes w x)))

/-- The least lane of an order. -/
def redBy (le : Nat → Nat → Bool) : List Nat → Nat
  | [] => 0
  | x :: l => l.foldl (fun a y => if le a y then a else y) x

/-- S1 spread over the true lanes of a mask (R184). -/
def expandGo : List Nat → List Nat → List Nat
  | _, [] => []
  | x, m :: ms => if m = 0 then 0 :: expandGo x ms else x.headD 0 :: expandGo x.tail ms

/-- The number of true lanes below each lane (R183). -/
def countBelow : List Nat → Nat → List Nat
  | [], _ => []
  | x :: l, k => k :: countBelow l (if x = 0 then k else k + 1)

/-- VCOMPRESS and VEXPAND, with the count of true lanes to gN where it is named (R170, R184). -/
def vecCount (g : Guard) (d : VDst) (a b : VSrc) (n : OptG) (f : List Nat → List Nat → List Nat) : Slot := fun s c =>
  guarded s c g do
    let w := (opWidth c (dTile d) (sTile a) (rowTile b)).w
    let (c, x) ← readVSrc s c w false a
    let (c, m) ← readVSrc s c w false b
    let cnt : W64 := BitVec.ofNat 64 ((lanes w m).filter (· != 0)).length
    writeVDst s c d 2 (ofLanes w (f (lanes w x) (lanes w m))) 0 (match n with
      | some r => [.g r cnt]
      | none => [])

/-- A single bit of a general register from a mask (R186). -/
def vecMaskBit (g : Guard) (gn : GReg) (n : BitNo) (a : VSrc) (f : List Nat → Bool) : Slot := fun s c =>
  guarded s c g do
    let w := (opWidth c none (sTile a) none).w
    let (c, x) ← readVSrc s c w false a
    .ok (c.flyAdd s 2 [.gbit gn n (f (lanes w x))])

/-- A general register from a row (R185, R186). -/
def vecToG (g : Guard) (gn : GReg) (a : VSrc) (f : Nat → List Nat → Nat) : Slot := fun s c =>
  guarded s c g do
    let w := (opWidth c none (sTile a) none).w
    let (c, x) ← readVSrc s c w false a
    .ok (c.flyAdd s 2 [.g gn (BitVec.ofNat 64 (f w (lanes w x)))])

/-! ### The instructions -/

/-- VNOP (R60): it reads no operand and has no effect. -/
def slotVnop : Slot := fun _ c => .ok c
def execVnop (s : State) : St State := runSlot slotVnop s

/-- VMOV (R171). -/
def slotVmov (g : Guard) (d : VDst) (a : VSrc) : Slot := vec1 g d a 2 fun _ x => (x, 0)
def execVmov (g : Guard) (d : VDst) (a : VSrc) (s : State) : St State := runSlot (slotVmov g d a) s

/-- VADD (R171). -/
def slotVadd (g : Guard) (d : VDst) (a : VSrc) (b : VSrc) : Slot := vec2 g d a b 2 fun w x y => plain w ((x : Int) + y)
def execVadd (g : Guard) (d : VDst) (a : VSrc) (b : VSrc) (s : State) : St State := runSlot (slotVadd g d a b) s

/-- VSUB (R171). -/
def slotVsub (g : Guard) (d : VDst) (a : VSrc) (b : VSrc) : Slot := vec2 g d a b 2 fun w x y => plain w ((x : Int) - y)
def execVsub (g : Guard) (d : VDst) (a : VSrc) (b : VSrc) (s : State) : St State := runSlot (slotVsub g d a b) s

/-- VADDS (R171). -/
def slotVadds (g : Guard) (d : VDst) (a : VSrc) (b : VSrc) : Slot := vec2 g d a b 2 fun w x y => satIf true w (toS w x + toS w y)
def execVadds (g : Guard) (d : VDst) (a : VSrc) (b : VSrc) (s : State) : St State := runSlot (slotVadds g d a b) s

/-- VSUBS (R171). -/
def slotVsubs (g : Guard) (d : VDst) (a : VSrc) (b : VSrc) : Slot := vec2 g d a b 2 fun w x y => satIf true w (toS w x - toS w y)
def execVsubs (g : Guard) (d : VDst) (a : VSrc) (b : VSrc) (s : State) : St State := runSlot (slotVsubs g d a b) s

/-- VADDUS (R171). -/
def slotVaddus (g : Guard) (d : VDst) (a : VSrc) (b : VSrc) : Slot := vec2 g d a b 2 fun w x y => sat w 0 ((2 ^ w : Nat) - 1) ((x : Int) + y)
def execVaddus (g : Guard) (d : VDst) (a : VSrc) (b : VSrc) (s : State) : St State := runSlot (slotVaddus g d a b) s

/-- VSUBUS (R171). -/
def slotVsubus (g : Guard) (d : VDst) (a : VSrc) (b : VSrc) : Slot := vec2 g d a b 2 fun w x y => sat w 0 ((2 ^ w : Nat) - 1) ((x : Int) - y)
def execVsubus (g : Guard) (d : VDst) (a : VSrc) (b : VSrc) (s : State) : St State := runSlot (slotVsubus g d a b) s

/-- VMUL (R171). -/
def slotVmul (g : Guard) (d : VDst) (a : VSrc) (b : VSrc) (sat : Bool) : Slot := vec2 g d a b 2 fun w x y => satIf sat w (toS w x * toS w y)
def execVmul (g : Guard) (d : VDst) (a : VSrc) (b : VSrc) (sat : Bool) (s : State) : St State := runSlot (slotVmul g d a b sat) s

/-- VMULH (R171). -/
def slotVmulh (g : Guard) (d : VDst) (a : VSrc) (b : VSrc) : Slot := vec2 g d a b 2 fun w x y => plain w (toS w x * toS w y / (2 ^ w : Nat))
def execVmulh (g : Guard) (d : VDst) (a : VSrc) (b : VSrc) (s : State) : St State := runSlot (slotVmulh g d a b) s

/-- VMULHU (R171). -/
def slotVmulhu (g : Guard) (d : VDst) (a : VSrc) (b : VSrc) : Slot := vec2 g d a b 2 fun w x y => (x * y / 2 ^ w, 0)
def execVmulhu (g : Guard) (d : VDst) (a : VSrc) (b : VSrc) (s : State) : St State := runSlot (slotVmulhu g d a b) s

/-- VMULW (R173). -/
def slotVmulw (g : Guard) (d : VDst) (a : VSrc) (b : VSrc) (h : Bool) (u : Bool) : Slot := fun s c =>
  guarded s c g do
    let w := (opWidth c (dTile d) (sTile a) (rowTile b)).w
    if w = 16 then typeFault
    else do
      let (c, x) ← readVSrc s c (w / 2) false a
      let (c, y) ← readVSrc s c (w / 2) false b
      writeVDst s c d 2 (ofLanes w (List.zipWith (fun x y => wrap w (wideProduct u (w / 2) x y)) (halfLanes w h x) (halfLanes w h y)))
def execVmulw (g : Guard) (d : VDst) (a : VSrc) (b : VSrc) (h : Bool) (u : Bool) (s : State) : St State := runSlot (slotVmulw g d a b h u) s

/-- VMACW (R173). -/
def slotVmacw (g : Guard) (d : VReg) (a : VSrc) (b : VSrc) (h : Bool) (u : Bool) (sat : Bool) : Slot := fun s c =>
  guarded s c g do
    let w := (OpW.of (c.w.tile (vTile d)).ty).w
    if w = 16 then typeFault
    else do
      let (c, x) ← readVSrc s c (w / 2) false a
      let (c, y) ← readVSrc s c (w / 2) false b
      let old ← readV s c d
      let (r, fl) := packLanes w (zip3 (fun x y z =>
        satIfU sat u w (wideProduct u (w / 2) x y + (if u then (z : Int) else toS w z)))
        (halfLanes w h x) (halfLanes w h y) (lanes w old))
      writeVDst s c (.v d) 2 r fl
def execVmacw (g : Guard) (d : VReg) (a : VSrc) (b : VSrc) (h : Bool) (u : Bool) (sat : Bool) (s : State) : St State := runSlot (slotVmacw g d a b h u sat) s

/-- VDOT4 (R173): h and u are the flags sa and sb. -/
def slotVdot4 (g : Guard) (d : VReg) (a : VSrc) (b : VSrc) (h : Bool) (u : Bool) (sat : Bool) : Slot := fun s c =>
  guarded s c g do
    if (OpW.of (c.w.tile (vTile d)).ty).w ≠ 32 then typeFault
    else do
      let (c, x) ← readVSrc s c 32 false a
      let (c, y) ← readVSrc s c 32 false b
      let old ← readV s c d
      let (r, fl) := packLanes 32 (zip3 (fun x y z => satIf sat 32 (toS 32 z + dot4 h u x y)) (lanes 32 x) (lanes 32 y) (lanes 32 old))
      writeVDst s c (.v d) 2 r fl
def execVdot4 (g : Guard) (d : VReg) (a : VSrc) (b : VSrc) (h : Bool) (u : Bool) (sat : Bool) (s : State) : St State := runSlot (slotVdot4 g d a b h u sat) s

/-- VMADC (R172): D, D + 1, then the carry row. -/
def slotVmadc (g : Guard) (d : VReg) (a : VSrc) (b : VSrc) (cy : VReg) (z : Bool) : Slot := fun s c =>
  guarded s c g do
    let w := (opWidth c (some (vTile d)) (sTile a) (rowTile b)).w
    let (c, x) ← readVSrc s c w false a
    let (c, y) ← readVSrc s c w false b
    let old ← readV s c d
    let k ← carryRow s c cy z
    let t := List.zipWith (fun (p : Nat × Nat) (q : Nat × Nat) =>
      let lo := p.1 * p.2 % 2 ^ w + q.1 + (if q.2 = 0 then 0 else 1)
      (lo % 2 ^ w, p.1 * p.2 / 2 ^ w, lo / 2 ^ w)) ((lanes w x).zip (lanes w y)) ((lanes w old).zip (lanes w k))
    writeVDst s c (.v d) 2 (ofLanes w (t.map fun p => p.1)) 0
      [.v (d + 1) (BitVec.allOnes 4096) (ofLanes w (t.map fun p => p.2.1)),
       .v cy (BitVec.allOnes 4096) (ofLanes w (t.map fun p => p.2.2))]
def execVmadc (g : Guard) (d : VReg) (a : VSrc) (b : VSrc) (cy : VReg) (z : Bool) (s : State) : St State := runSlot (slotVmadc g d a b cy z) s

/-- VADC (R172). -/
def slotVadc (g : Guard) (d : VDst) (a : VSrc) (b : VSrc) (cy : VReg) (z : Bool) : Slot := vecCarry g d a b cy z fun w x y k => (wrap w ((x : Int) + y + k), decide (2 ^ w ≤ x + y + k))
def execVadc (g : Guard) (d : VDst) (a : VSrc) (b : VSrc) (cy : VReg) (z : Bool) (s : State) : St State := runSlot (slotVadc g d a b cy z) s

/-- VSBC (R172). -/
def slotVsbc (g : Guard) (d : VDst) (a : VSrc) (b : VSrc) (cy : VReg) (z : Bool) : Slot := vecCarry g d a b cy z fun w x y k => (wrap w ((x : Int) - y - k), decide (x < y + k))
def execVsbc (g : Guard) (d : VDst) (a : VSrc) (b : VSrc) (cy : VReg) (z : Bool) (s : State) : St State := runSlot (slotVsbc g d a b cy z) s

/-- VABS (R171). -/
def slotVabs (g : Guard) (d : VDst) (a : VSrc) (sat : Bool) : Slot := vec1 g d a 2 fun w x => satIf sat w ((toS w x).natAbs : Int)
def execVabs (g : Guard) (d : VDst) (a : VSrc) (sat : Bool) (s : State) : St State := runSlot (slotVabs g d a sat) s

/-- VNEG (R171). -/
def slotVneg (g : Guard) (d : VDst) (a : VSrc) (sat : Bool) : Slot := vec1 g d a 2 fun w x => satIf sat w (-(toS w x))
def execVneg (g : Guard) (d : VDst) (a : VSrc) (sat : Bool) (s : State) : St State := runSlot (slotVneg g d a sat) s

/-- VMINI (R171). -/
def slotVmini (g : Guard) (d : VDst) (a : VSrc) (b : VSrc) : Slot := vec2 g d a b 2 fun w x y => (if toS w x ≤ toS w y then x else y, 0)
def execVmini (g : Guard) (d : VDst) (a : VSrc) (b : VSrc) (s : State) : St State := runSlot (slotVmini g d a b) s

/-- VMAXI (R171). -/
def slotVmaxi (g : Guard) (d : VDst) (a : VSrc) (b : VSrc) : Slot := vec2 g d a b 2 fun w x y => (if toS w x ≤ toS w y then y else x, 0)
def execVmaxi (g : Guard) (d : VDst) (a : VSrc) (b : VSrc) (s : State) : St State := runSlot (slotVmaxi g d a b) s

/-- VMINU (R171). -/
def slotVminu (g : Guard) (d : VDst) (a : VSrc) (b : VSrc) : Slot := vec2 g d a b 2 fun _ x y => (min x y, 0)
def execVminu (g : Guard) (d : VDst) (a : VSrc) (b : VSrc) (s : State) : St State := runSlot (slotVminu g d a b) s

/-- VMAXU (R171). -/
def slotVmaxu (g : Guard) (d : VDst) (a : VSrc) (b : VSrc) : Slot := vec2 g d a b 2 fun _ x y => (max x y, 0)
def execVmaxu (g : Guard) (d : VDst) (a : VSrc) (b : VSrc) (s : State) : St State := runSlot (slotVmaxu g d a b) s

/-- VCLAMP (R171). -/
def slotVclamp (g : Guard) (d : VDst) (a : VSrc) (b : VSrc) : Slot := vec2 g d a b 2 fun w x y =>
  let b : Int := min ((toS w y).natAbs : Int) (smax w)
  plain w (clampInt (toS w x) (-b) b)
def execVclamp (g : Guard) (d : VDst) (a : VSrc) (b : VSrc) (s : State) : St State := runSlot (slotVclamp g d a b) s

/-- VAVG (R171). -/
def slotVavg (g : Guard) (d : VDst) (a : VSrc) (b : VSrc) : Slot := vec2 g d a b 2 fun w x y => plain w ((toS w x + toS w y + 1) / 2)
def execVavg (g : Guard) (d : VDst) (a : VSrc) (b : VSrc) (s : State) : St State := runSlot (slotVavg g d a b) s

/-- VAVGU (R171). -/
def slotVavgu (g : Guard) (d : VDst) (a : VSrc) (b : VSrc) : Slot := vec2 g d a b 2 fun _ x y => ((x + y + 1) / 2, 0)
def execVavgu (g : Guard) (d : VDst) (a : VSrc) (b : VSrc) (s : State) : St State := runSlot (slotVavgu g d a b) s

/-- VABD (R171). -/
def slotVabd (g : Guard) (d : VDst) (a : VSrc) (b : VSrc) : Slot := vec2 g d a b 2 fun w x y => ((toS w x - toS w y).natAbs, 0)
def execVabd (g : Guard) (d : VDst) (a : VSrc) (b : VSrc) (s : State) : St State := runSlot (slotVabd g d a b) s

/-- VABDU (R171). -/
def slotVabdu (g : Guard) (d : VDst) (a : VSrc) (b : VSrc) : Slot := vec2 g d a b 2 fun _ x y => (((x : Int) - y).natAbs, 0)
def execVabdu (g : Guard) (d : VDst) (a : VSrc) (b : VSrc) (s : State) : St State := runSlot (slotVabdu g d a b) s

/-- VAND (R171). -/
def slotVand (g : Guard) (d : VDst) (a : VSrc) (b : VSrc) : Slot := vec2 g d a b 2 fun _ x y => (x &&& y, 0)
def execVand (g : Guard) (d : VDst) (a : VSrc) (b : VSrc) (s : State) : St State := runSlot (slotVand g d a b) s

/-- VOR (R171). -/
def slotVor (g : Guard) (d : VDst) (a : VSrc) (b : VSrc) : Slot := vec2 g d a b 2 fun _ x y => (x ||| y, 0)
def execVor (g : Guard) (d : VDst) (a : VSrc) (b : VSrc) (s : State) : St State := runSlot (slotVor g d a b) s

/-- VXOR (R171). -/
def slotVxor (g : Guard) (d : VDst) (a : VSrc) (b : VSrc) : Slot := vec2 g d a b 2 fun _ x y => (x ^^^ y, 0)
def execVxor (g : Guard) (d : VDst) (a : VSrc) (b : VSrc) (s : State) : St State := runSlot (slotVxor g d a b) s

/-- VANDN (R171). -/
def slotVandn (g : Guard) (d : VDst) (a : VSrc) (b : VSrc) : Slot := vec2 g d a b 2 fun w x y => (x &&& compl w y, 0)
def execVandn (g : Guard) (d : VDst) (a : VSrc) (b : VSrc) (s : State) : St State := runSlot (slotVandn g d a b) s

/-- VBITSEL (R171). -/
def slotVbitsel (g : Guard) (d : VReg) (a : VSrc) (b : VSrc) : Slot := vec3 g d a b 2 fun w x y z => ((x &&& z) ||| (y &&& compl w z), 0)
def execVbitsel (g : Guard) (d : VReg) (a : VSrc) (b : VSrc) (s : State) : St State := runSlot (slotVbitsel g d a b) s

/-- VSHL (R171). -/
def slotVshl (g : Guard) (d : VDst) (a : VSrc) (b : VSrc) (sat : Bool) : Slot := vec2 g d a b 2 fun w x y => satIf sat w (toS w x * (2 ^ (y % w) : Nat))
def execVshl (g : Guard) (d : VDst) (a : VSrc) (b : VSrc) (sat : Bool) (s : State) : St State := runSlot (slotVshl g d a b sat) s

/-- VSHR (R171). -/
def slotVshr (g : Guard) (d : VDst) (a : VSrc) (b : VSrc) : Slot := vec2 g d a b 2 fun w x y => (x / 2 ^ (y % w), 0)
def execVshr (g : Guard) (d : VDst) (a : VSrc) (b : VSrc) (s : State) : St State := runSlot (slotVshr g d a b) s

/-- VSRA (R171). -/
def slotVsra (g : Guard) (d : VDst) (a : VSrc) (b : VSrc) : Slot := vec2 g d a b 2 fun w x y => plain w (toS w x / (2 ^ (y % w) : Nat))
def execVsra (g : Guard) (d : VDst) (a : VSrc) (b : VSrc) (s : State) : St State := runSlot (slotVsra g d a b) s

/-- VROL (R171). -/
def slotVrol (g : Guard) (d : VDst) (a : VSrc) (b : VSrc) : Slot := vec2 g d a b 2 fun w x y => (rotl w x (y % w), 0)
def execVrol (g : Guard) (d : VDst) (a : VSrc) (b : VSrc) (s : State) : St State := runSlot (slotVrol g d a b) s

/-- VCLZ (R171). -/
def slotVclz (g : Guard) (d : VDst) (a : VSrc) : Slot := vec1 g d a 2 fun w x => (clz w x, 0)
def execVclz (g : Guard) (d : VDst) (a : VSrc) (s : State) : St State := runSlot (slotVclz g d a) s

/-- VPOPC (R171). -/
def slotVpopc (g : Guard) (d : VDst) (a : VSrc) : Slot := vec1 g d a 2 fun w x => (popc w x, 0)
def execVpopc (g : Guard) (d : VDst) (a : VSrc) (s : State) : St State := runSlot (slotVpopc g d a) s

/-- VBEXT (R171). -/
def slotVbext (g : Guard) (d : VDst) (a : VSrc) (b : VSrc) (f : BitNo) : Slot := vec2 g d a b 2 fun w x y => (if w ≤ f.val then 0 else bits x f.val (min (y % w + 1) (w - f.val)), 0)
def execVbext (g : Guard) (d : VDst) (a : VSrc) (b : VSrc) (f : BitNo) (s : State) : St State := runSlot (slotVbext g d a b f) s

/-- VBINS (R171). -/
def slotVbins (g : Guard) (d : VReg) (a : VSrc) (b : VSrc) (f : BitNo) : Slot := vec3 g d a b 2 fun w x y z => (if w ≤ f.val then z else setBits z f.val (min (y % w + 1) (w - f.val)) x, 0)
def execVbins (g : Guard) (d : VReg) (a : VSrc) (b : VSrc) (f : BitNo) (s : State) : St State := runSlot (slotVbins g d a b f) s

/-- VSEXT (R171). -/
def slotVsext (g : Guard) (d : VDst) (a : VSrc) (f : BitNo) : Slot := vec1 g d a 2 fun w x => (if w ≤ f.val + 1 then x else sext (f.val + 1) w x, 0)
def execVsext (g : Guard) (d : VDst) (a : VSrc) (f : BitNo) (s : State) : St State := runSlot (slotVsext g d a f) s

/-- VZEXT (R171). -/
def slotVzext (g : Guard) (d : VDst) (a : VSrc) (f : BitNo) : Slot := vec1 g d a 2 fun w x => (if w ≤ f.val + 1 then x else x % 2 ^ (f.val + 1), 0)
def execVzext (g : Guard) (d : VDst) (a : VSrc) (f : BitNo) (s : State) : St State := runSlot (slotVzext g d a f) s

/-- VREV (R171). -/
def slotVrev (g : Guard) (d : VDst) (a : VSrc) : Slot := vec1 g d a 2 fun w x => (revBits w x, 0)
def execVrev (g : Guard) (d : VDst) (a : VSrc) (s : State) : St State := runSlot (slotVrev g d a) s

/-- VBSWAP (R171). -/
def slotVbswap (g : Guard) (d : VDst) (a : VSrc) : Slot := vec1 g d a 2 fun w x => (ofBytes (toBytes (w / 8) x).reverse, 0)
def execVbswap (g : Guard) (d : VDst) (a : VSrc) (s : State) : St State := runSlot (slotVbswap g d a) s

/-- VCMPEQ (R174). -/
def slotVcmpeq (g : Guard) (d : VDst) (a : VSrc) (b : VSrc) : Slot := vec2 g d a b 2 fun w x y => (maskLane w (x == y), 0)
def execVcmpeq (g : Guard) (d : VDst) (a : VSrc) (b : VSrc) (s : State) : St State := runSlot (slotVcmpeq g d a b) s

/-- VCMPNE (R174). -/
def slotVcmpne (g : Guard) (d : VDst) (a : VSrc) (b : VSrc) : Slot := vec2 g d a b 2 fun w x y => (maskLane w (x != y), 0)
def execVcmpne (g : Guard) (d : VDst) (a : VSrc) (b : VSrc) (s : State) : St State := runSlot (slotVcmpne g d a b) s

/-- VCMPLT (R174). -/
def slotVcmplt (g : Guard) (d : VDst) (a : VSrc) (b : VSrc) : Slot := vec2 g d a b 2 fun w x y => (maskLane w (decide (toS w x < toS w y)), 0)
def execVcmplt (g : Guard) (d : VDst) (a : VSrc) (b : VSrc) (s : State) : St State := runSlot (slotVcmplt g d a b) s

/-- VCMPLE (R174). -/
def slotVcmple (g : Guard) (d : VDst) (a : VSrc) (b : VSrc) : Slot := vec2 g d a b 2 fun w x y => (maskLane w (decide (toS w x ≤ toS w y)), 0)
def execVcmple (g : Guard) (d : VDst) (a : VSrc) (b : VSrc) (s : State) : St State := runSlot (slotVcmple g d a b) s

/-- VCMPLTU (R174). -/
def slotVcmpltu (g : Guard) (d : VDst) (a : VSrc) (b : VSrc) : Slot := vec2 g d a b 2 fun w x y => (maskLane w (decide (x < y)), 0)
def execVcmpltu (g : Guard) (d : VDst) (a : VSrc) (b : VSrc) (s : State) : St State := runSlot (slotVcmpltu g d a b) s

/-- VCMPLEU (R174). -/
def slotVcmpleu (g : Guard) (d : VDst) (a : VSrc) (b : VSrc) : Slot := vec2 g d a b 2 fun w x y => (maskLane w (decide (x ≤ y)), 0)
def execVcmpleu (g : Guard) (d : VDst) (a : VSrc) (b : VSrc) (s : State) : St State := runSlot (slotVcmpleu g d a b) s

/-- VSEL (R175). -/
def slotVsel (g : Guard) (d : VReg) (a : VSrc) (b : VSrc) : Slot := vec3 g d a b 2 fun _ x y z => (if z = 0 then y else x, 0)
def execVsel (g : Guard) (d : VReg) (a : VSrc) (b : VSrc) (s : State) : St State := runSlot (slotVsel g d a b) s

/-- VCVTII (R178). -/
def slotVcvtii (g : Guard) (d : VDst) (a : VSrc) (k : Code4) (h : Bool) (u : Bool) (sat : Bool) : Slot := fun s c =>
  guarded s c g (
    let wide := if k.val < 2 then 32 else 64
    let half := if h then 4096 / wide else 0
    if k.val % 2 = 0 then
      match d with
      | .v r => do
        let (c, x) ← readVSrc s c wide false a
        mergeLanes s c r 2 (wide / 2) half ((lanes wide x).map fun (x : Nat) =>
          satIfU sat u (wide / 2) (if u then (x : Int) else toS wide x))
      | _ => cause 0x02 6
    else do
      let (c, x) ← readVSrc s c (wide / 2) false a
      writeVDst s c d 2 (ofLanes wide ((((lanes (wide / 2) x).drop half).take (4096 / wide)).map fun x =>
        if u then x else sext (wide / 2) wide x)))
def execVcvtii (g : Guard) (d : VDst) (a : VSrc) (k : Code4) (h : Bool) (u : Bool) (sat : Bool) (s : State) : St State := runSlot (slotVcvtii g d a k h u sat) s

/-- VPACK (R178): the source is read signed whatever u is. -/
def slotVpack (g : Guard) (d : VReg) (a : VSrc) (q : Code4) (u : Bool) (sat : Bool) : Slot := fun s c =>
  guarded s c g do
    let (c, x) ← readVSrc s c 32 false a
    mergeLanes s c d 2 8 (128 * q.val) ((lanes 32 x).map fun x => satIfU sat u 8 (toS 32 x))
def execVpack (g : Guard) (d : VReg) (a : VSrc) (q : Code4) (u : Bool) (sat : Bool) (s : State) : St State := runSlot (slotVpack g d a q u sat) s

/-- VUNPACK (R178). -/
def slotVunpack (g : Guard) (d : VDst) (a : VSrc) (q : Code4) (u : Bool) : Slot := fun s c =>
  guarded s c g do
    let (c, x) ← readVSrc s c 8 false a
    writeVDst s c d 2 (ofLanes 32 ((((lanes 8 x).drop (128 * q.val)).take 128).map fun x => if u then x else sext 8 32 x))
def execVunpack (g : Guard) (d : VDst) (a : VSrc) (q : Code4) (u : Bool) (s : State) : St State := runSlot (slotVunpack g d a q u) s

/-- VCSUM on the stored sums (R188): at its issue; no bypass latch (DESIGN CHOICE, log entry 169). -/
def slotVcsum (g : Guard) (t : TileNo) : Slot := fun s c =>
  guarded s c g (.ok { c with w := c.w.putTile t (c.w.tile t).rebase })
def execVcsum (g : Guard) (t : TileNo) (s : State) : St State := runSlot (slotVcsum g t) s

/-- VCSUM into a row (R188). -/
def slotVcsumRow (g : Guard) (d : VDst) (t : TileNo) (sel : Code4) : Slot := fun s c =>
  guarded s c g (
    let x := s.cur.w.tile t
    let (cs, rs, co) := gridSums x.ty 128 x.grid
    let row := match sel.val with
      | 0 => ofLanes 32 cs
      | 1 => sumsRow rs co
      | _ => sumsRow (x.rowsum.toList.map BitVec.toNat) x.corner.toNat
    writeVDst s c d 2 row)
def execVcsumRow (g : Guard) (d : VDst) (t : TileNo) (sel : Code4) (s : State) : St State := runSlot (slotVcsumRow g d t sel) s

/-- VCCHK (R189): compared when its latency has passed. -/
def slotVcchk (g : Guard) (t : TileNo) : Slot := fun s c => guarded s c g (.ok (c.flyAdd s 2 [.check t c.w.tole none]))
def execVcchk (g : Guard) (t : TileNo) (s : State) : St State := runSlot (slotVcchk g t) s

/-- VREDADD (R182). -/
def slotVredadd (g : Guard) (d : VDst) (a : VSrc) : Slot := vecRed g d a fun w l => l.foldl (· + ·) 0 % 2 ^ w
def execVredadd (g : Guard) (d : VDst) (a : VSrc) (s : State) : St State := runSlot (slotVredadd g d a) s

/-- VREDADDW (R182). -/
def slotVredaddw (g : Guard) (d : VDst) (a : VSrc) (u : Bool) : Slot := vecRed g d a fun w l =>
  wrap 64 ((l.map fun (x : Nat) => if u then (x : Int) else toS w x).foldl (· + ·) 0)
def execVredaddw (g : Guard) (d : VDst) (a : VSrc) (u : Bool) (s : State) : St State := runSlot (slotVredaddw g d a u) s

/-- VREDMIN (R182). -/
def slotVredmin (g : Guard) (d : VDst) (a : VSrc) (u : Bool) : Slot := vecRed g d a fun w l => redBy (fun x y => if u then decide (x ≤ y) else decide (toS w x ≤ toS w y)) l
def execVredmin (g : Guard) (d : VDst) (a : VSrc) (u : Bool) (s : State) : St State := runSlot (slotVredmin g d a u) s

/-- VREDMAX (R182). -/
def slotVredmax (g : Guard) (d : VDst) (a : VSrc) (u : Bool) : Slot := vecRed g d a fun w l => redBy (fun x y => if u then decide (y ≤ x) else decide (toS w y ≤ toS w x)) l
def execVredmax (g : Guard) (d : VDst) (a : VSrc) (u : Bool) (s : State) : St State := runSlot (slotVredmax g d a u) s

/-- VREDAND (R182). -/
def slotVredand (g : Guard) (d : VDst) (a : VSrc) : Slot := vecRed g d a fun w l => l.foldl (· &&& ·) (2 ^ w - 1)
def execVredand (g : Guard) (d : VDst) (a : VSrc) (s : State) : St State := runSlot (slotVredand g d a) s

/-- VREDOR (R182). -/
def slotVredor (g : Guard) (d : VDst) (a : VSrc) : Slot := vecRed g d a fun _ l => l.foldl (· ||| ·) 0
def execVredor (g : Guard) (d : VDst) (a : VSrc) (s : State) : St State := runSlot (slotVredor g d a) s

/-- VBCAST (R183). -/
def slotVbcast (g : Guard) (d : VDst) (a : VSrc) (b : VSrc) : Slot := vecList2 g d a b 2 fun _ x y => x.map fun _ => nth x (y.headD 0 % x.length) 0
def execVbcast (g : Guard) (d : VDst) (a : VSrc) (b : VSrc) (s : State) : St State := runSlot (slotVbcast g d a b) s

/-- VPERM (R183). -/
def slotVperm (g : Guard) (d : VDst) (a : VSrc) (b : VSrc) : Slot := vecList2 g d a b 2 fun _ x y => y.map fun j => nth x (j % x.length) 0
def execVperm (g : Guard) (d : VDst) (a : VSrc) (b : VSrc) (s : State) : St State := runSlot (slotVperm g d a b) s

/-- VSHUF (R183). -/
def slotVshuf (g : Guard) (d : VReg) (a : VSrc) (b : VSrc) : Slot := fun s c =>
  guarded s c g do
    let w := (OpW.of (c.w.tile (vTile d)).ty).w
    let (c, x) ← readVSrc s c w false a
    let (c, y) ← readVSrc s c w false b
    let old ← readV s c d
    let l := lanes w x ++ lanes w y
    writeVDst s c (.v d) 2 (ofLanes w ((lanes w old).map fun j => nth l (j % l.length) 0))
def execVshuf (g : Guard) (d : VReg) (a : VSrc) (b : VSrc) (s : State) : St State := runSlot (slotVshuf g d a b) s

/-- VROTL (R183). -/
def slotVrotl (g : Guard) (d : VDst) (a : VSrc) (b : VSrc) : Slot := vecList2 g d a b 2 fun _ x y => (List.range x.length).map fun i => nth x ((i + y.headD 0) % x.length) 0
def execVrotl (g : Guard) (d : VDst) (a : VSrc) (b : VSrc) (s : State) : St State := runSlot (slotVrotl g d a b) s

/-- VSLIDE (R183). -/
def slotVslide (g : Guard) (d : VDst) (a : VSrc) (b : VSrc) : Slot := vecList2 g d a b 2 fun w x y =>
  (List.range x.length).map fun i =>
    let j := (i : Int) + toS w (y.headD 0)
    if 0 ≤ j then nth x j.toNat 0 else 0
def execVslide (g : Guard) (d : VDst) (a : VSrc) (b : VSrc) (s : State) : St State := runSlot (slotVslide g d a b) s

/-- VZIP (R183). -/
def slotVzip (g : Guard) (d : VDst) (a : VSrc) (b : VSrc) (h : Bool) : Slot := vecList2 g d a b 2 fun _ x y =>
  (List.range x.length).map fun i => nth (if i % 2 = 0 then x else y) (i / 2 + (if h then x.length / 2 else 0)) 0
def execVzip (g : Guard) (d : VDst) (a : VSrc) (b : VSrc) (h : Bool) (s : State) : St State := runSlot (slotVzip g d a b h) s

/-- VUNZIP (R183). -/
def slotVunzip (g : Guard) (d : VDst) (a : VSrc) (b : VSrc) (h : Bool) : Slot := vecList2 g d a b 2 fun _ x y => (List.range x.length).map fun i => nth (x ++ y) (2 * i + h.toNat) 0
def execVunzip (g : Guard) (d : VDst) (a : VSrc) (b : VSrc) (h : Bool) (s : State) : St State := runSlot (slotVunzip g d a b h) s

/-- VREVL (R183). -/
def slotVrevl (g : Guard) (d : VDst) (a : VSrc) : Slot := vecList1 g d a 2 fun _ x => x.reverse
def execVrevl (g : Guard) (d : VDst) (a : VSrc) (s : State) : St State := runSlot (slotVrevl g d a) s

/-- VCOMPRESS (R170, R184). -/
def slotVcompress (g : Guard) (d : VDst) (a : VSrc) (b : VSrc) (n : OptG) : Slot := vecCount g d a b n fun x m =>
  let t := ((x.zip m).filter fun p => p.2 != 0).map Prod.fst
  t ++ List.replicate (x.length - t.length) 0
def execVcompress (g : Guard) (d : VDst) (a : VSrc) (b : VSrc) (n : OptG) (s : State) : St State := runSlot (slotVcompress g d a b n) s

/-- VEXPAND (R170, R184). -/
def slotVexpand (g : Guard) (d : VDst) (a : VSrc) (b : VSrc) (n : OptG) : Slot := vecCount g d a b n fun x m => expandGo x m
def execVexpand (g : Guard) (d : VDst) (a : VSrc) (b : VSrc) (n : OptG) (s : State) : St State := runSlot (slotVexpand g d a b n) s

/-- VIOTA (R183): with m = 0 no source is read. -/
def slotViota (g : Guard) (d : VDst) (a : VSrc) (u : Bool) : Slot := fun s c =>
  guarded s c g (
    if u then do
      let w := (opWidth c (dTile d) (sTile a) noS2).w
      let (c, x) ← readVSrc s c w false a
      writeVDst s c d 2 (ofLanes w (countBelow (lanes w x) 0))
    else
      let w := (opWidth c (dTile d) none noS2).w
      writeVDst s c d 2 (ofLanes w (List.range (4096 / w))))
def execViota (g : Guard) (d : VDst) (a : VSrc) (u : Bool) (s : State) : St State := runSlot (slotViota g d a u) s

/-- VANY (R186). -/
def slotVany (g : Guard) (gn : GReg) (b : BitNo) (a : VSrc) : Slot := vecMaskBit g gn b a fun l => l.any (· != 0)
def execVany (g : Guard) (gn : GReg) (b : BitNo) (a : VSrc) (s : State) : St State := runSlot (slotVany g gn b a) s

/-- VALL (R186). -/
def slotVall (g : Guard) (gn : GReg) (b : BitNo) (a : VSrc) : Slot := vecMaskBit g gn b a fun l => l.all (· != 0)
def execVall (g : Guard) (gn : GReg) (b : BitNo) (a : VSrc) (s : State) : St State := runSlot (slotVall g gn b a) s

/-- VMCOUNT (R186). -/
def slotVmcount (g : Guard) (gn : GReg) (a : VSrc) : Slot := vecToG g gn a fun _ l => (l.filter (· != 0)).length
def execVmcount (g : Guard) (gn : GReg) (a : VSrc) (s : State) : St State := runSlot (slotVmcount g gn a) s

/-- VMSKG (R185). -/
def slotVmskg (g : Guard) (gn : GReg) (a : VSrc) (q : Code4) : Slot := vecToG g gn a fun _ l =>
  ((l.drop (64 * q.val)).take 64).zipIdx.foldl (fun acc p => if p.1 = 0 then acc else acc + 2 ^ p.2) 0
def execVmskg (g : Guard) (gn : GReg) (a : VSrc) (q : Code4) (s : State) : St State := runSlot (slotVmskg g gn a q) s

/-- VGMSK (R185): other lanes keep their values. -/
def slotVgmsk (g : Guard) (d : VReg) (gs : GReg) (q : Code4) : Slot := fun s c =>
  guarded s c g do
    let w := (OpW.of (c.w.tile (vTile d)).ty).w
    let v ← readG s c gs
    let n := min 64 (4096 / w - 64 * q.val)
    mergeLanes s c d 2 w (64 * q.val) ((List.range n).map fun j => (maskLane w (v.getLsbD j), 0))
def execVgmsk (g : Guard) (d : VReg) (gs : GReg) (q : Code4) (s : State) : St State := runSlot (slotVgmsk g d gs q) s

/-- VINS (R185): other lanes keep their values. -/
def slotVins (g : Guard) (d : VReg) (gs : GReg) (t : VSrc) : Slot := fun s c =>
  guarded s c g do
    let w := (OpW.of (c.w.tile (vTile d)).ty).w
    let v ← readG s c gs
    let (c, y) ← readVSrc s c w false t
    mergeLanes s c d 2 w (lane w y 0 % (4096 / w)) [(v.toNat % 2 ^ w, 0)]
def execVins (g : Guard) (d : VReg) (gs : GReg) (t : VSrc) (s : State) : St State := runSlot (slotVins g d gs t) s

/-- VEXT (R170, R185). -/
def slotVext (g : Guard) (gn : GReg) (a : VSrc) (t : VSrc) : Slot := fun s c =>
  guarded s c g do
    let w := (opWidth c none (sTile a) (rowTile t)).w
    let (c, x) ← readVSrc s c w false a
    let (c, y) ← readVSrc s c w false t
    .ok (c.flyAdd s 2 [.g gn (BitVec.ofNat 64 (sext w 64 (lane w x (lane w y 0 % (4096 / w)))))])
def execVext (g : Guard) (gn : GReg) (a : VSrc) (t : VSrc) (s : State) : St State := runSlot (slotVext g gn a t) s

/-- TCFG (R190). -/
def slotTcfg (g : Guard) (t : TileNo) (ty : TileType) : Slot := fun s c => guarded s c g (.ok (c.flyAdd s 2 [.check t c.w.tole (some ty)]))
def execTcfg (g : Guard) (t : TileNo) (ty : TileType) (s : State) : St State := runSlot (slotTcfg g t ty) s

end Sys2Proof.Machine
end

