-- ==== Sys2Proof/Machine/VectorFloat.lean ====
section
/-!
DEFINITION. The vector slot's floating-point instructions (R174, R176 to R183, R187).
-/
namespace Sys2Proof.Machine

/-! ### Shapes -/

/-- The format of VCVTFI and VCVTIF: FP32 at width 32, BF16 or FP16 at 16, a fault at 64 (R178). -/
def cvtFmt (w : Nat) (f : Bool) : Except Halt Fmt :=
  if w = 64 then typeFault else .ok (if w = 32 then fp32 else if f then fp16 else bf16)

/-- The nearest grid magnitudes of a type around a nonzero |m·2^e| not above the largest: index of the lower, remainder and
gap as numerators over a common denominator (R150, R179). -/
def nq4Index (ty m : Nat) (e : Int) : Nat × Nat × Nat :=
  let s := (-e).toNat
  let v := m * 2 ^ e.toNat
  let i := ((nq4Mags ty).filter fun g => decide (g * 2 ^ s ≤ v)).length - 1
  let lo := nth (nq4Mags ty) i 0 * 2 ^ s
  (i, v - lo, nth (nq4Mags ty) (i + 1) 0 * 2 ^ s - lo)

/-- Choose a grid index (R137, R179): ties to the even index. -/
def nq4Round (ty : Nat) (rc : Rc) (neg : Bool) (m : Nat) (e : Int) : Nat × Flags :=
  let (i, rem, gap) := nq4Index ty m e
  if rem = 0 then (i, 0)
  else
    let up := match rc.mode with
      | .rne => gap < 2 * rem || (2 * rem == gap && i % 2 == 1)
      | .rtz => false
      | .rdn => neg
      | .rup => !neg
      | .sr => decide (rc.h < rem * 2 ^ 32 / gap)
    (if up then i + 1 else i, flNX)

/-- Whether |m·2^e| ≤ q·2^k. -/
def dyLe (m : Nat) (e : Int) (q : Nat) (k : Int) : Bool := decide (0 ≤ (dyAdd q k (-(m : Int)) e).1)

/-- The exponent field of a block (R179). -/
def nq4X (ty : Nat) (fin : List (Nat × Int)) : Nat :=
  if fin.isEmpty then (32 - nq4Off ty).toNat
  else
    ((List.range 64).find? fun (x : Nat) => fin.all fun (m, e) => dyLe m e (nq4Max ty) ((x : Int) - 32 + nq4Off ty)).getD 63

/-- One block of VQNQ4: codes, X, flags (R179). -/
def nq4Quant (ty : Nat) (rc : Nat → Rc) (l : List Nat) : List Nat × Nat × Flags :=
  let fin := l.filterMap fun x => match fp32.read x with
    | .num m e => some (m.natAbs, e)
    | _ => none
  let X := nq4X ty fin
  let k : Int := (X : Int) - 32 + nq4Off ty
  let t := l.zipIdx.map fun (x, i) =>
    match fp32.read x with
    | .nan sg => (0, if sg then flNV else (0 : Flags))
    | .inf neg => (nq4Code ty neg 7, flNV)
    | .zero _ => (0, 0)
    | .num m e =>
      if dyLe m.natAbs e (nq4Max ty) k then
        let (j, f) := nq4Round ty (rc i) (m < 0) m.natAbs (e - k)
        (nq4Code ty (m < 0) j, f)
      else (nq4Code ty (m < 0) 7, flOF ||| flNX)
  (t.map Prod.fst, X, t.foldl (fun a p => a ||| p.2) 0)

/-- The exact sum of lanes with the special cases of R182. -/
def sumLanes (rc : Rc) (l : List FV) : FV :=
  if l.any FV.isNan then .nan (l.any FV.isSnan)
  else if l.any (· == .inf false) then (if l.any (· == .inf true) then .nan true else .inf false)
  else if l.any (· == .inf true) then .inf true
  else if l.all (· == .zero false) then .zero false
  else if l.all (· == .zero true) then .zero true
  else
    let (m, e) := dySum (l.filterMap fun v => match v with
      | .num m e => some (m, e)
      | _ => none)
    if m = 0 then .zero (cancelNeg rc) else .num m e

/-- VREDFMIN and VREDFMAX: a lone signalling NaN still raises NV (R177, R182). -/
def vecRedF (g : Guard) (d : VDst) (a : VSrc) (mx : Bool) : Slot := fun s c =>
  guarded s c g do
    let o := opWidth c (dTile d) (sTile a) noS2
    let fmt ← needFmt o
    let (c, x) ← readVSrc s c o.w true a
    let (v, fl) := match lanes o.w x with
      | [] => (0, 0)
      | y :: l => l.foldl (fun (p : Nat × Flags) z =>
          let (r, f) := fMinMax fmt mx false p.1 z
          (r, p.2 ||| f)) (fMinMax fmt mx false y y)
    writeVDst s c d 4 (laneZero v) fl

/-- How many lanes rank before lane i (R183). -/
def rankOf (keys : List Nat) (k i : Nat) : Nat :=
  (keys.zipIdx.filter fun (q, j) => decide (k < q) || (q == k && decide (j < i))).length

/-- One lane of VSCACC: the value, its flags, and the term p·2^e that the sums take, which a lane that overflows to an
infinity still gives (R187; DEDUCED, log 171). An exponent is held to what already decides the lane's rounding. -/
def scaccLane (mark : Bool) (p e : Int) (acc : Nat) : Nat × Flags × Option (Int × Int) :=
  let v := fp32.read acc
  if mark || v.isNan then (fp32.nan, if v.isSnan then flNV else 0, none)
  else match v with
  | .inf _ => (acc, 0, none)
  | _ =>
    let t : FV := if p = 0 then .zero false else .num p (clampInt e (-600) 600)
    let (r, f) := fp32.write .rne (fvAdd .rne v t)
    (r, f, some (p, if p = 0 then 0 else e))

/-! ### The instructions -/

/-- VFADD (R176). -/
def slotVfadd (g : Guard) (d : VDst) (a : VSrc) (b : VSrc) (r : Rnd) : Slot := vecF2 g d a b r true fAdd
def execVfadd (g : Guard) (d : VDst) (a : VSrc) (b : VSrc) (r : Rnd) (s : State) : St State := runSlot (slotVfadd g d a b r) s

/-- VFSUB (R176). -/
def slotVfsub (g : Guard) (d : VDst) (a : VSrc) (b : VSrc) (r : Rnd) : Slot := vecF2 g d a b r true fSub
def execVfsub (g : Guard) (d : VDst) (a : VSrc) (b : VSrc) (r : Rnd) (s : State) : St State := runSlot (slotVfsub g d a b r) s

/-- VFMUL (R176). -/
def slotVfmul (g : Guard) (d : VDst) (a : VSrc) (b : VSrc) (r : Rnd) : Slot := vecF2 g d a b r true fMul
def execVfmul (g : Guard) (d : VDst) (a : VSrc) (b : VSrc) (r : Rnd) (s : State) : St State := runSlot (slotVfmul g d a b r) s

/-- VFMA (R176). -/
def slotVfma (g : Guard) (d : VReg) (a : VSrc) (b : VSrc) (r : Rnd) : Slot := vecF3 g d a b r fun f rc x y z => fFma f rc false false x y z
def execVfma (g : Guard) (d : VReg) (a : VSrc) (b : VSrc) (r : Rnd) (s : State) : St State := runSlot (slotVfma g d a b r) s

/-- VFMS (R176). -/
def slotVfms (g : Guard) (d : VReg) (a : VSrc) (b : VSrc) (r : Rnd) : Slot := vecF3 g d a b r fun f rc x y z => fFma f rc false true x y z
def execVfms (g : Guard) (d : VReg) (a : VSrc) (b : VSrc) (r : Rnd) (s : State) : St State := runSlot (slotVfms g d a b r) s

/-- VFNMA (R176). -/
def slotVfnma (g : Guard) (d : VReg) (a : VSrc) (b : VSrc) (r : Rnd) : Slot := vecF3 g d a b r fun f rc x y z => fFma f rc true false x y z
def execVfnma (g : Guard) (d : VReg) (a : VSrc) (b : VSrc) (r : Rnd) (s : State) : St State := runSlot (slotVfnma g d a b r) s

/-- VFMAW (R176). -/
def slotVfmaw (g : Guard) (d : VReg) (a : VSrc) (b : VSrc) (h : Bool) (f : Bool) (r : Rnd) : Slot := fun s c =>
  guarded s c g do
    if (OpW.of (c.w.tile (vTile d)).ty).w ≠ 32 then typeFault
    else do
      let src := if f then fp16 else bf16
      let (c, x) ← readVSrc s c 16 true a
      let (c, y) ← readVSrc s c 16 true b
      let old ← readV s c d
      let (v, fl) := packLanes 32 ((zip3 (fun x y z => (x, y, z)) (halfLanes 32 h x) (halfLanes 32 h y) (lanes 32 old)).zipIdx.map
        fun (p, i) => fvFma fp32 (rcOf s c r i) false false (src.read p.1) (src.read p.2.1) (fp32.read p.2.2))
      writeVDst s c (.v d) 4 v fl
def execVfmaw (g : Guard) (d : VReg) (a : VSrc) (b : VSrc) (h : Bool) (f : Bool) (r : Rnd) (s : State) : St State := runSlot (slotVfmaw g d a b h f r) s

/-- VFABS (R176). -/
def slotVfabs (g : Guard) (d : VDst) (a : VSrc) : Slot := vecF1 g d a .rne 4 fun f _ x => fSetSign f false x
def execVfabs (g : Guard) (d : VDst) (a : VSrc) (s : State) : St State := runSlot (slotVfabs g d a) s

/-- VFNEG (R176). -/
def slotVfneg (g : Guard) (d : VDst) (a : VSrc) : Slot := vecF1 g d a .rne 4 fun f _ x => fSetSign f (!bitAt x (f.width - 1)) x
def execVfneg (g : Guard) (d : VDst) (a : VSrc) (s : State) : St State := runSlot (slotVfneg g d a) s

/-- VMIN (R177). -/
def slotVmin (g : Guard) (d : VDst) (a : VSrc) (b : VSrc) : Slot := vecF2 g d a b .rne true fun f _ x y => fMinMax f false false x y
def execVmin (g : Guard) (d : VDst) (a : VSrc) (b : VSrc) (s : State) : St State := runSlot (slotVmin g d a b) s

/-- VMAX (R177). -/
def slotVmax (g : Guard) (d : VDst) (a : VSrc) (b : VSrc) : Slot := vecF2 g d a b .rne true fun f _ x y => fMinMax f true false x y
def execVmax (g : Guard) (d : VDst) (a : VSrc) (b : VSrc) (s : State) : St State := runSlot (slotVmax g d a b) s

/-- VMINNUM (R177). -/
def slotVminnum (g : Guard) (d : VDst) (a : VSrc) (b : VSrc) : Slot := vecF2 g d a b .rne true fun f _ x y => fMinMax f false true x y
def execVminnum (g : Guard) (d : VDst) (a : VSrc) (b : VSrc) (s : State) : St State := runSlot (slotVminnum g d a b) s

/-- VMAXNUM (R177). -/
def slotVmaxnum (g : Guard) (d : VDst) (a : VSrc) (b : VSrc) : Slot := vecF2 g d a b .rne true fun f _ x y => fMinMax f true true x y
def execVmaxnum (g : Guard) (d : VDst) (a : VSrc) (b : VSrc) (s : State) : St State := runSlot (slotVmaxnum g d a b) s

/-- VFCLAMP (R176). -/
def slotVfclamp (g : Guard) (d : VDst) (a : VSrc) (b : VSrc) : Slot := vecF2 g d a b .rne true fun f _ x y => fClamp f x y
def execVfclamp (g : Guard) (d : VDst) (a : VSrc) (b : VSrc) (s : State) : St State := runSlot (slotVfclamp g d a b) s

/-- VFRND (R176). -/
def slotVfrnd (g : Guard) (d : VDst) (a : VSrc) (r : Rnd) : Slot := vecF1 g d a r 4 fRnd
def execVfrnd (g : Guard) (d : VDst) (a : VSrc) (r : Rnd) (s : State) : St State := runSlot (slotVfrnd g d a r) s

/-- VFCLASS (R176). -/
def slotVfclass (g : Guard) (d : VDst) (a : VSrc) : Slot := vecF1 g d a .rne 4 fun f _ x => (fClass f x, 0)
def execVfclass (g : Guard) (d : VDst) (a : VSrc) (s : State) : St State := runSlot (slotVfclass g d a) s

/-- VFCOPYS (R176). -/
def slotVfcopys (g : Guard) (d : VDst) (a : VSrc) (b : VSrc) : Slot := vecF2 g d a b .rne true fun f _ x y => fCopySign f x y
def execVfcopys (g : Guard) (d : VDst) (a : VSrc) (b : VSrc) (s : State) : St State := runSlot (slotVfcopys g d a b) s

/-- VFSCALE (R176). -/
def slotVfscale (g : Guard) (d : VDst) (a : VSrc) (b : VSrc) (r : Rnd) : Slot := vecF2 g d a b r false fun f rc x y => fScale f rc (toS f.width y) x
def execVfscale (g : Guard) (d : VDst) (a : VSrc) (b : VSrc) (r : Rnd) (s : State) : St State := runSlot (slotVfscale g d a b r) s

/-- VFCMPEQ (R174). -/
def slotVfcmpeq (g : Guard) (d : VDst) (a : VSrc) (b : VSrc) : Slot := vecFCmp g d a b .eq
def execVfcmpeq (g : Guard) (d : VDst) (a : VSrc) (b : VSrc) (s : State) : St State := runSlot (slotVfcmpeq g d a b) s

/-- VFCMPLT (R174). -/
def slotVfcmplt (g : Guard) (d : VDst) (a : VSrc) (b : VSrc) : Slot := vecFCmp g d a b .lt
def execVfcmplt (g : Guard) (d : VDst) (a : VSrc) (b : VSrc) (s : State) : St State := runSlot (slotVfcmplt g d a b) s

/-- VFCMPLE (R174). -/
def slotVfcmple (g : Guard) (d : VDst) (a : VSrc) (b : VSrc) : Slot := vecFCmp g d a b .le
def execVfcmple (g : Guard) (d : VDst) (a : VSrc) (b : VSrc) (s : State) : St State := runSlot (slotVfcmple g d a b) s

/-- VFCMPUN (R174). -/
def slotVfcmpun (g : Guard) (d : VDst) (a : VSrc) (b : VSrc) : Slot := vecFCmp g d a b .un
def execVfcmpun (g : Guard) (d : VDst) (a : VSrc) (b : VSrc) (s : State) : St State := runSlot (slotVfcmpun g d a b) s

/-- VCVTFI (R178). -/
def slotVcvtfi (g : Guard) (d : VDst) (a : VSrc) (f : Bool) (u : Bool) (r : Rnd) : Slot := fun s c =>
  guarded s c g do
    let w := (opWidth c (dTile d) (sTile a) noS2).w
    let fmt ← cvtFmt w f
    let (c, x) ← readVSrc s c w true a
    let (v, fl) := packLanes w ((lanes w x).zipIdx.map fun (x, i) => fToInt fmt (rcOf s c r i) w u x)
    writeVDst s c d 4 v fl
def execVcvtfi (g : Guard) (d : VDst) (a : VSrc) (f : Bool) (u : Bool) (r : Rnd) (s : State) : St State := runSlot (slotVcvtfi g d a f u r) s

/-- VCVTIF (R178). -/
def slotVcvtif (g : Guard) (d : VDst) (a : VSrc) (f : Bool) (u : Bool) (r : Rnd) : Slot := fun s c =>
  guarded s c g do
    let w := (opWidth c (dTile d) (sTile a) noS2).w
    let fmt ← cvtFmt w f
    let (c, x) ← readVSrc s c w false a
    let (v, fl) := packLanes w ((lanes w x).zipIdx.map fun (x, i) => intToF fmt (rcOf s c r i) (if u then (x : Int) else toS w x))
    writeVDst s c d 4 v fl
def execVcvtif (g : Guard) (d : VDst) (a : VSrc) (f : Bool) (u : Bool) (r : Rnd) (s : State) : St State := runSlot (slotVcvtif g d a f u r) s

/-- VCVTFF (R178). -/
def slotVcvtff (g : Guard) (d : VDst) (a : VSrc) (k : Code4) (h : Bool) (r : Rnd) : Slot := fun s c =>
  guarded s c g (
    let narrow := if k.val % 2 = 0 then bf16 else fp16
    let first := if h then 128 else 0
    if k.val < 2 then
      match d with
      | .v q => do
        let (c, x) ← readVSrc s c 32 true a
        mergeLanes s c q 4 16 first ((lanes 32 x).zipIdx.map fun (x, i) => fCvt fp32 narrow (rcOf s c r (first + i)) x)
      | _ => cause 0x02 6
    else do
      let (c, x) ← readVSrc s c 16 true a
      let (v, fl) := packLanes 32 ((((lanes 16 x).drop first).take 128).map fun x => fCvt narrow fp32 .rne x)
      writeVDst s c d 4 v fl)
def execVcvtff (g : Guard) (d : VDst) (a : VSrc) (k : Code4) (h : Bool) (r : Rnd) (s : State) : St State := runSlot (slotVcvtff g d a k h r) s

/-- VQNQ4 (R179). -/
def slotVqnq4 (g : Guard) (d : VDst) (a : VSrc) (ty : Code4) (r : Rnd) : Slot := fun s c =>
  guarded s c g do
    let (c, x) ← readVSrc s c 32 true a
    let l := lanes 32 x
    let blk := fun b => nq4Quant ty.val (fun i => rcOf s c r (64 * b + i)) ((l.drop (64 * b)).take 64)
    let (c0, x0, f0) := blk 0
    let (c1, x1, f1) := blk 1
    let codes := ofLanes 4 (c0 ++ c1)
    writeVDst s c d 4 (codes ||| ofLanes 8 (List.replicate 64 0 ++ [ty.val * 64 + x0, ty.val * 64 + x1])) (f0 ||| f1)
def execVqnq4 (g : Guard) (d : VDst) (a : VSrc) (ty : Code4) (r : Rnd) (s : State) : St State := runSlot (slotVqnq4 g d a ty r) s

/-- VDQNQ4 (R180). -/
def slotVdqnq4 (g : Guard) (d : VDst) (a : VSrc) : Slot := fun s c =>
  guarded s c g do
    let (c, x) ← readVSrc s c 32 true a
    writeVDst s c d 4 (ofLanes 32 ((List.range 128).map fun j =>
      let sb := lane 8 x (64 + j / 64)
      (roundNum fp32 .rne false (nq4Q (sb / 64) (lane 4 x j)) ((sb % 64 : Nat) - 32 + nq4Off (sb / 64))).1))
def execVdqnq4 (g : Guard) (d : VDst) (a : VSrc) (s : State) : St State := runSlot (slotVdqnq4 g d a) s

/-- VRCP (R181). -/
def slotVrcp (g : Guard) (d : VDst) (a : VSrc) (r : Rnd) : Slot := vecF1 g d a r 8 fRcp
def execVrcp (g : Guard) (d : VDst) (a : VSrc) (r : Rnd) (s : State) : St State := runSlot (slotVrcp g d a r) s

/-- VRSQRT (R181). -/
def slotVrsqrt (g : Guard) (d : VDst) (a : VSrc) (r : Rnd) : Slot := vecF1 g d a r 8 fRsqrt
def execVrsqrt (g : Guard) (d : VDst) (a : VSrc) (r : Rnd) (s : State) : St State := runSlot (slotVrsqrt g d a r) s

/-- VEXP2 (R181). -/
def slotVexp2 (g : Guard) (d : VDst) (a : VSrc) (r : Rnd) : Slot := vecF1 g d a r 8 fExp2
def execVexp2 (g : Guard) (d : VDst) (a : VSrc) (r : Rnd) (s : State) : St State := runSlot (slotVexp2 g d a r) s

/-- VLOG2 (R181). -/
def slotVlog2 (g : Guard) (d : VDst) (a : VSrc) (r : Rnd) : Slot := vecF1 g d a r 8 fLog2
def execVlog2 (g : Guard) (d : VDst) (a : VSrc) (r : Rnd) (s : State) : St State := runSlot (slotVlog2 g d a r) s

/-- VSCACC (R187). -/
def slotVscacc (g : Guard) (d : VReg) (a : VReg) (b : VSrc) (ga : GReg) : Slot := fun s c =>
  guarded s c g (
    let ty := c.w.t1.ty
    if ty ≠ .f32 ∧ ty ≠ .f32a then typeFault
    else do
      let x ← readV s c a
      let (c, y) ← readVSrc s c 32 false b
      let ea ← readG s c ga
      let old ← readV s c d
      let mark := c.w.t0.mark.getD (vRow a) 0
      let t := (zip3 (fun p e acc => (toS 32 p, toS 16 ea.toNat + toS 32 e, acc)) (lanes 32 x) (lanes 32 y) (lanes 32 old)).zipIdx.map
        fun ((p, e, acc), j) => scaccLane (mark.getLsbD j) p e acc
      let row := ofLanes 32 (t.map fun q => q.1)
      let fl := t.foldl (fun z q => z ||| q.2.1) (0 : Flags)
      .ok (c.flyAdd s 4 ([.vscacc d row (t.map fun q => q.2.2),
        .vlatch (vlatchOf s.iss.slot d.val) row] ++ flagWr fl)))
def execVscacc (g : Guard) (d : VReg) (a : VReg) (b : VSrc) (ga : GReg) (s : State) : St State := runSlot (slotVscacc g d a b ga) s

/-- VREDFADD (R182). -/
def slotVredfadd (g : Guard) (d : VDst) (a : VSrc) (r : Rnd) : Slot := fun s c =>
  guarded s c g do
    let o := opWidth c (dTile d) (sTile a) noS2
    let fmt ← needFmt o
    let (c, x) ← readVSrc s c o.w true a
    let rc := rcOf s c r 0
    let (v, fl) := fmt.write rc (sumLanes rc ((lanes o.w x).map fmt.read))
    writeVDst s c d 4 (laneZero v) fl
def execVredfadd (g : Guard) (d : VDst) (a : VSrc) (r : Rnd) (s : State) : St State := runSlot (slotVredfadd g d a r) s

/-- VREDFMIN (R177, R182). -/
def slotVredfmin (g : Guard) (d : VDst) (a : VSrc) : Slot := vecRedF g d a false
def execVredfmin (g : Guard) (d : VDst) (a : VSrc) (s : State) : St State := runSlot (slotVredfmin g d a) s

/-- VREDFMAX (R177, R182). -/
def slotVredfmax (g : Guard) (d : VDst) (a : VSrc) : Slot := vecRedF g d a true
def execVredfmax (g : Guard) (d : VDst) (a : VSrc) (s : State) : St State := runSlot (slotVredfmax g d a) s

/-- VTOPK (R183). -/
def slotVtopk (g : Guard) (d : VDst) (a : VSrc) (b : VSrc) (h : Bool) : Slot := fun s c =>
  guarded s c g do
    let o := opWidth c (dTile d) (sTile a) (rowTile b)
    let fmt ← (if h then needFmt o else .ok fp32)
    let (c, x) ← readVSrc s c o.w h a
    let (c, y) ← readVSrc s c o.w false b
    let keys := (lanes o.w x).map fun x =>
      if h then (if (fmt.read x).isNan then 2 ^ o.w else x % 2 ^ (o.w - 1)) else (toS o.w x).natAbs
    writeVDst s c d 4 (ofLanes o.w (keys.zipIdx.map fun (k, i) => maskLane o.w (decide (rankOf keys k i < lane o.w y 0))))
def execVtopk (g : Guard) (d : VDst) (a : VSrc) (b : VSrc) (h : Bool) (s : State) : St State := runSlot (slotVtopk g d a b h) s

/-- VCVT8 (R143, R178). -/
def slotVcvt8 (g : Guard) (d : VReg) (a : VSrc) (q : Code4) (e : Bool) (r : Rnd) : Slot := fun s c =>
  guarded s c g do
    let (c, x) ← readVSrc s c 32 true a
    mergeLanes s c d 4 8 (128 * q.val) ((lanes 32 x).zipIdx.map fun (x, i) =>
      fCvt fp32 (if e then e5m2 else e4m3) (rcOf s c r (128 * q.val + i)) x)
def execVcvt8 (g : Guard) (d : VReg) (a : VSrc) (q : Code4) (e : Bool) (r : Rnd) (s : State) : St State := runSlot (slotVcvt8 g d a q e r) s

/-- VCVT8W (R178). -/
def slotVcvt8w (g : Guard) (d : VDst) (a : VSrc) (q : Code4) (u : Bool) : Slot := fun s c =>
  guarded s c g do
    let (c, x) ← readVSrc s c 8 true a
    let (v, fl) := packLanes 32 ((((lanes 8 x).drop (128 * q.val)).take 128).map fun x => fCvt (if u then e5m2 else e4m3) fp32 .rne x)
    writeVDst s c d 4 v fl
def execVcvt8w (g : Guard) (d : VDst) (a : VSrc) (q : Code4) (u : Bool) (s : State) : St State := runSlot (slotVcvt8w g d a q u) s

end Sys2Proof.Machine
end

