-- ==== Sys2Proof/Machine/Uses.lean ====
section
/-!
DEFINITION. What registration looks at in an instruction (R84): the registers it reads and writes with their latencies (R22), the
stores it withholds (R340), whether its bundle must be a checkpoint (R82); and each instruction's meaning in a bundle.
-/
namespace Sys2Proof.Machine

/-! ### Register codes: g 0, a 64, m 80, v 96, b 224, vb 240, s 256, k 272 -/

def rG (r : GReg) : Nat := r.val
def rA (r : AReg) : Nat := 64 + r.val
def rM (r : MReg) : Nat := 80 + r.val
def rV (r : VReg) : Nat := 96 + r.val
def rS (r : SReg) : Nat := 256 + r.val
def rK (r : KReg) : Nat := 272 + r.val
def rOct (q : Oct) : List Nat := (List.range 8).map fun i => 8 * q.val + i

/-- Latch, stream and channel codes. -/
def codeLatch (c : Nat) : Bool := 224 ≤ c && c < 256
def codeStream (c : Nat) : Bool := 256 ≤ c
def codeChannel (c : Nat) : Bool := 272 ≤ c

def srcRegs : Src → List Nat
  | .g r => [rG r]
  | .b n => [224 + n.val]
  | .s n => [rS n]
  | .k n => [rK n]
  | .pool => []
def vsrcRegs : VSrc → List Nat
  | .v r => [rV r]
  | .vb n => [240 + n.val]
  | .s n => [rS n]
  | .k n => [rK n]
  | .bc r => [rG r]
  | .vck _ => []
  | .pool => []
def modeRegs : AMode → List Nat
  | .postM r => [rM r]
  | .preM r => [rM r]
  | _ => []
def modeUpd (m : AMode) (a : AReg) : List (Nat × Nat) :=
  match m with
  | .off _ => []
  | _ => [(rA a, 1)]
def wG (k : Nat) (r : GReg) (l : Nat) : List (Nat × Nat) := [(rG r, l), (224 + (latchOf k r.val).val, l)]
def wV (k : Nat) (r : VReg) (l : Nat) : List (Nat × Nat) := [(rV r, l), (240 + (vlatchOf k r.val).val, l)]
def dstWr (d : Dst) (k l : Nat) : List (Nat × Nat) :=
  match d with
  | .g r => wG k r l
  | .latch n => [(224 + (latchOf k n.val).val, l)]
  | .s n => [(rS n, l), (224 + (latchOf k (80 + n.val)).val, l)]
  | .k n => [(rK n, l), (224 + (latchOf k (96 + n.val)).val, l)]
def vdstWr (d : VDst) (k l : Nat) : List (Nat × Nat) :=
  match d with
  | .v r => wV k r l
  | .latch n => [(240 + (vlatchOf k n.val).val, l)]
  | .s n => [(rS n, l), (240 + (vlatchOf k (144 + n.val)).val, l)]
  | .k n => [(rK n, l), (240 + (vlatchOf k (160 + n.val)).val, l)]
/-- A carry-in that is taken as 0 is not read (R68, R172). -/
def rdUnless (z : Bool) (r : Nat) : List Nat := if z then [] else [r]
/-- The row that a merge reads (R178). -/
def oldRow : VDst → List Nat
  | .v r => [rV r]
  | _ => []
def optWr (n : OptG) (l : Nat) : List (Nat × Nat) :=
  match n with
  | none => []
  | some r => [(rG r, l)]

/-- A condition on bit of g0 is known (R15). -/
def condOf (cr : GReg) (cs : Bool) : Option Bool := if cr = 0 then some (!cs) else none

/-- What the branch slot holds. -/
inductive BrKind where
  | none
  | jump (off : Int) (taken : Option Bool)
  | reg (taken : Option Bool)
  | loop (trip : Option Nat) (off : Int)
  | loopm (trip : Option Nat) (ii sc : Nat)
  | lexit | exit | trap
deriving DecidableEq, Repr

/-- What registration sees of an instruction in a slot. -/
structure Use where
  guard : Option Guard := none
  rd : List Nat := []
  wr : List (Nat × Nat) := []
  pool : Bool := false
  stores : Nat := 0
  ckpt : Bool := false
  priv : Bool := false
  gbar : Bool := false
  check : Bool := false
  br : BrKind := .none
  /-- a branch that annuls its delay slots when it is not taken (R35) -/
  annul : Bool := false
deriving DecidableEq, Repr

/-- Registers read, the guard's among them. -/
def Use.reads (u : Use) : List Nat := u.rd ++ (match u.guard with
  | some g => [rG g.reg]
  | none => [])

/-- A push to a stream is a withheld store (R340). -/
def Use.allStores (u : Use) : Nat := u.stores + (u.wr.filter fun w => codeStream w.1 && !codeChannel w.1).length

/-- What registration sees, by instruction; the argument is the slot in the order of R24. -/
def useOf (k : Nat) : Instr → Use
  | .bnop => {}
  | .b cr _ cs off => { rd := [rG cr], br := .jump off.toInt (condOf cr cs) }
  | .bA cr _ cs off => { rd := [rG cr], br := .jump off.toInt (condOf cr cs), annul := true }
  | .br cr _ cs tr => { rd := [rG cr] ++ [rG tr], br := .reg (condOf cr cs) }
  | .brA cr _ cs tr => { rd := [rG cr] ++ [rG tr], br := .reg (condOf cr cs), annul := true }
  | .call lr off => { wr := [(rG lr, 1)], br := .jump off.toInt (some true) }
  | .callr lr tr => { rd := [rG tr], wr := [(rG lr, 1)], br := .reg (some true) }
  | .bvu vr _ off => { rd := [rV vr], br := .jump off.toInt none }
  | .bvuA vr _ off => { rd := [rV vr], br := .jump off.toInt none, annul := true }
  | .loop tg off => { rd := [rG tg], br := .loop none off.toInt }
  | .loopi trip off => { br := .loop (some trip.toNat) off.toInt }
  | .loopm tg ii sc => { rd := [rG tg], br := .loopm none (ii.toNat + 1) (sc.val + 1) }
  | .loopmi trip ii sc => { br := .loopm (some trip.toNat) (ii.toNat + 1) (sc.val + 1) }
  | .lexit cr _ _ => { rd := [rG cr], br := .lexit }
  | .exit => { br := .exit }
  | .trap _ => { br := .trap }
  | .snop => {}
  | .add g d a b => { guard := some g, rd := srcRegs a ++ srcRegs b, wr := dstWr d k 1, pool := a.isPool || b.isPool }
  | .sub g d a b => { guard := some g, rd := srcRegs a ++ srcRegs b, wr := dstWr d k 1, pool := a.isPool || b.isPool }
  | .adds g d a b => { guard := some g, rd := srcRegs a ++ srcRegs b, wr := dstWr d k 1, pool := a.isPool || b.isPool }
  | .subs g d a b => { guard := some g, rd := srcRegs a ++ srcRegs b, wr := dstWr d k 1, pool := a.isPool || b.isPool }
  | .addus g d a b => { guard := some g, rd := srcRegs a ++ srcRegs b, wr := dstWr d k 1, pool := a.isPool || b.isPool }
  | .subus g d a b => { guard := some g, rd := srcRegs a ++ srcRegs b, wr := dstWr d k 1, pool := a.isPool || b.isPool }
  | .adc g d a b cy _ z => { guard := some g, rd := [rG a] ++ [rG b] ++ rdUnless z (rG (carryReg cy)), wr := [(rG (carryReg cy), 1)] ++ wG k d 1 }
  | .sbc g d a b cy _ z => { guard := some g, rd := [rG a] ++ [rG b] ++ rdUnless z (rG (carryReg cy)), wr := [(rG (carryReg cy), 1)] ++ wG k d 1 }
  | .mul g d a b => { guard := some g, rd := srcRegs a ++ srcRegs b, wr := dstWr d k 3, pool := a.isPool || b.isPool }
  | .mulh g d a b => { guard := some g, rd := srcRegs a ++ srcRegs b, wr := dstWr d k 3, pool := a.isPool || b.isPool }
  | .mulhu g d a b => { guard := some g, rd := srcRegs a ++ srcRegs b, wr := dstWr d k 3, pool := a.isPool || b.isPool }
  | .madc g d a b cy _ z => { guard := some g, rd := [rG a] ++ [rG b] ++ rdUnless z (rG (carryReg cy)) ++ [rG d], wr := [(rG (carryReg cy), 3)] ++ wG k d 3 ++ [(rG (d + 1), 3)] }
  | .div g d a b => { guard := some g, rd := srcRegs a ++ srcRegs b, wr := dstWr d k 24, pool := a.isPool || b.isPool }
  | .divu g d a b => { guard := some g, rd := srcRegs a ++ srcRegs b, wr := dstWr d k 24, pool := a.isPool || b.isPool }
  | .rem g d a b => { guard := some g, rd := srcRegs a ++ srcRegs b, wr := dstWr d k 24, pool := a.isPool || b.isPool }
  | .remu g d a b => { guard := some g, rd := srcRegs a ++ srcRegs b, wr := dstWr d k 24, pool := a.isPool || b.isPool }
  | .and g d a b => { guard := some g, rd := srcRegs a ++ srcRegs b, wr := dstWr d k 1, pool := a.isPool || b.isPool }
  | .or g d a b => { guard := some g, rd := srcRegs a ++ srcRegs b, wr := dstWr d k 1, pool := a.isPool || b.isPool }
  | .xor g d a b => { guard := some g, rd := srcRegs a ++ srcRegs b, wr := dstWr d k 1, pool := a.isPool || b.isPool }
  | .andn g d a b => { guard := some g, rd := srcRegs a ++ srcRegs b, wr := dstWr d k 1, pool := a.isPool || b.isPool }
  | .orn g d a b => { guard := some g, rd := srcRegs a ++ srcRegs b, wr := dstWr d k 1, pool := a.isPool || b.isPool }
  | .shl g d a b => { guard := some g, rd := srcRegs a ++ srcRegs b, wr := dstWr d k 1, pool := a.isPool || b.isPool }
  | .shr g d a b => { guard := some g, rd := srcRegs a ++ srcRegs b, wr := dstWr d k 1, pool := a.isPool || b.isPool }
  | .sra g d a b => { guard := some g, rd := srcRegs a ++ srcRegs b, wr := dstWr d k 1, pool := a.isPool || b.isPool }
  | .rol g d a b => { guard := some g, rd := srcRegs a ++ srcRegs b, wr := dstWr d k 1, pool := a.isPool || b.isPool }
  | .clz g d a => { guard := some g, rd := srcRegs a, wr := dstWr d k 1, pool := a.isPool }
  | .ctz g d a => { guard := some g, rd := srcRegs a, wr := dstWr d k 1, pool := a.isPool }
  | .popc g d a => { guard := some g, rd := srcRegs a, wr := dstWr d k 1, pool := a.isPool }
  | .bext g d a b _ => { guard := some g, rd := srcRegs a ++ srcRegs b, wr := dstWr d k 1, pool := a.isPool || b.isPool }
  | .bins g d a b _ => { guard := some g, rd := srcRegs a ++ srcRegs b ++ [rG d], wr := wG k d 1, pool := a.isPool || b.isPool }
  | .sext g d a _ => { guard := some g, rd := srcRegs a, wr := dstWr d k 1, pool := a.isPool }
  | .zext g d a _ => { guard := some g, rd := srcRegs a, wr := dstWr d k 1, pool := a.isPool }
  | .cmpeq g d _ a b => { guard := some g, rd := srcRegs a ++ srcRegs b, wr := wG k d 1, pool := a.isPool || b.isPool }
  | .cmpne g d _ a b => { guard := some g, rd := srcRegs a ++ srcRegs b, wr := wG k d 1, pool := a.isPool || b.isPool }
  | .cmplt g d _ a b => { guard := some g, rd := srcRegs a ++ srcRegs b, wr := wG k d 1, pool := a.isPool || b.isPool }
  | .cmple g d _ a b => { guard := some g, rd := srcRegs a ++ srcRegs b, wr := wG k d 1, pool := a.isPool || b.isPool }
  | .cmpltu g d _ a b => { guard := some g, rd := srcRegs a ++ srcRegs b, wr := wG k d 1, pool := a.isPool || b.isPool }
  | .cmpleu g d _ a b => { guard := some g, rd := srcRegs a ++ srcRegs b, wr := wG k d 1, pool := a.isPool || b.isPool }
  | .min g d a b => { guard := some g, rd := srcRegs a ++ srcRegs b, wr := dstWr d k 1, pool := a.isPool || b.isPool }
  | .max g d a b => { guard := some g, rd := srcRegs a ++ srcRegs b, wr := dstWr d k 1, pool := a.isPool || b.isPool }
  | .minu g d a b => { guard := some g, rd := srcRegs a ++ srcRegs b, wr := dstWr d k 1, pool := a.isPool || b.isPool }
  | .maxu g d a b => { guard := some g, rd := srcRegs a ++ srcRegs b, wr := dstWr d k 1, pool := a.isPool || b.isPool }
  | .movi g d _ => { guard := some g, wr := dstWr d k 1 }
  | .movk g d _ _ => { guard := some g, rd := [rG d], wr := wG k d 1 }
  | .mfs g d _ => { guard := some g, wr := dstWr d k 1 }
  | .mts g a _ => { guard := some g, rd := srcRegs a, pool := a.isPool }
  | .movb g d _ _ a _ => { guard := some g, rd := srcRegs a, wr := wG k d 1, pool := a.isPool }
  | .fadd g d a b _ => { guard := some g, rd := srcRegs a ++ srcRegs b, wr := dstWr d k 4, pool := a.isPool || b.isPool }
  | .fsub g d a b _ => { guard := some g, rd := srcRegs a ++ srcRegs b, wr := dstWr d k 4, pool := a.isPool || b.isPool }
  | .fmul g d a b _ => { guard := some g, rd := srcRegs a ++ srcRegs b, wr := dstWr d k 4, pool := a.isPool || b.isPool }
  | .fma g d a b _ => { guard := some g, rd := srcRegs a ++ srcRegs b ++ [rG d], wr := wG k d 4, pool := a.isPool || b.isPool }
  | .fmin g d a b _ => { guard := some g, rd := srcRegs a ++ srcRegs b, wr := dstWr d k 4, pool := a.isPool || b.isPool }
  | .fmax g d a b _ => { guard := some g, rd := srcRegs a ++ srcRegs b, wr := dstWr d k 4, pool := a.isPool || b.isPool }
  | .fminnum g d a b _ => { guard := some g, rd := srcRegs a ++ srcRegs b, wr := dstWr d k 4, pool := a.isPool || b.isPool }
  | .fmaxnum g d a b _ => { guard := some g, rd := srcRegs a ++ srcRegs b, wr := dstWr d k 4, pool := a.isPool || b.isPool }
  | .fcmpeq g d _ a b => { guard := some g, rd := srcRegs a ++ srcRegs b, wr := wG k d 4, pool := a.isPool || b.isPool }
  | .fcmplt g d _ a b => { guard := some g, rd := srcRegs a ++ srcRegs b, wr := wG k d 4, pool := a.isPool || b.isPool }
  | .fcmple g d _ a b => { guard := some g, rd := srcRegs a ++ srcRegs b, wr := wG k d 4, pool := a.isPool || b.isPool }
  | .fcmpun g d _ a b => { guard := some g, rd := srcRegs a ++ srcRegs b, wr := wG k d 4, pool := a.isPool || b.isPool }
  | .fcvtif g d a _ => { guard := some g, rd := srcRegs a, wr := dstWr d k 4, pool := a.isPool }
  | .fcvtfi g d a _ => { guard := some g, rd := srcRegs a, wr := dstWr d k 4, pool := a.isPool }
  | .fcvtf g d a k _ => { guard := some g, rd := srcRegs a, wr := dstWr d k 4, pool := a.isPool }
  | .fclass g d a => { guard := some g, rd := srcRegs a, wr := dstWr d k 4, pool := a.isPool }
  | .anop => {}
  | .lds g d a m => { guard := some g, rd := modeRegs m ++ [rA a], wr := dstWr d k 5 ++ modeUpd m a }
  | .ldw g d a m => { guard := some g, rd := modeRegs m ++ [rA a], wr := dstWr d k 5 ++ modeUpd m a }
  | .ldwu g d a m => { guard := some g, rd := modeRegs m ++ [rA a], wr := dstWr d k 5 ++ modeUpd m a }
  | .ldh g d a m => { guard := some g, rd := modeRegs m ++ [rA a], wr := dstWr d k 5 ++ modeUpd m a }
  | .ldhu g d a m => { guard := some g, rd := modeRegs m ++ [rA a], wr := dstWr d k 5 ++ modeUpd m a }
  | .ldb g d a m => { guard := some g, rd := modeRegs m ++ [rA a], wr := dstWr d k 5 ++ modeUpd m a }
  | .ldbu g d a m => { guard := some g, rd := modeRegs m ++ [rA a], wr := dstWr d k 5 ++ modeUpd m a }
  | .sts g x a m => { guard := some g, rd := srcRegs x ++ modeRegs m ++ [rA a], wr := modeUpd m a, pool := x.isPool, stores := 1 }
  | .stw g x a m => { guard := some g, rd := srcRegs x ++ modeRegs m ++ [rA a], wr := modeUpd m a, pool := x.isPool, stores := 1 }
  | .sth g x a m => { guard := some g, rd := srcRegs x ++ modeRegs m ++ [rA a], wr := modeUpd m a, pool := x.isPool, stores := 1 }
  | .stb g x a m => { guard := some g, rd := srcRegs x ++ modeRegs m ++ [rA a], wr := modeUpd m a, pool := x.isPool, stores := 1 }
  | .ldv g v a m => { guard := some g, rd := modeRegs m ++ [rA a], wr := modeUpd m a ++ [(rV v, 5)] }
  | .stv g v a m => { guard := some g, rd := modeRegs m ++ [rA a] ++ [rV v], wr := modeUpd m a, stores := 1 }
  | .wlds g d a m => { guard := some g, rd := modeRegs m ++ [rA a], wr := dstWr d k 5 ++ modeUpd m a }
  | .wldv g v a m => { guard := some g, rd := modeRegs m ++ [rA a], wr := modeUpd m a ++ [(rV v, 5)] }
  | .aadd g a x => { guard := some g, rd := srcRegs x ++ [rA a], wr := [(rA a, 1)], pool := x.isPool }
  | .amov g a x => { guard := some g, rd := srcRegs x, wr := [(rA a, 1)], pool := x.isPool }
  | .aget g d a => { guard := some g, rd := [rA a], wr := dstWr d k 1 }
  | .mset g m x => { guard := some g, rd := srcRegs x, wr := [(rM m, 1)], pool := x.isPool }
  | .mget g d m => { guard := some g, rd := [rM m], wr := dstWr d k 1 }
  | .lea g d a m => { guard := some g, rd := modeRegs m ++ [rA a], wr := dstWr d k 1 ++ modeUpd m a }
  | .acmplt g d _ a => { guard := some g, rd := [rG d] ++ [rA a], wr := wG k d 1 }
  | .clrv g a m => { guard := some g, rd := modeRegs m ++ [rA a], wr := modeUpd m a, stores := 1 }
  | .vnop => {}
  | .vmov g d a => { guard := some g, rd := vsrcRegs a, wr := vdstWr d k 2, pool := a.isPool }
  | .vadd g d a b => { guard := some g, rd := vsrcRegs a ++ vsrcRegs b, wr := vdstWr d k 2, pool := a.isPool || b.isPool }
  | .vsub g d a b => { guard := some g, rd := vsrcRegs a ++ vsrcRegs b, wr := vdstWr d k 2, pool := a.isPool || b.isPool }
  | .vadds g d a b => { guard := some g, rd := vsrcRegs a ++ vsrcRegs b, wr := vdstWr d k 2, pool := a.isPool || b.isPool }
  | .vsubs g d a b => { guard := some g, rd := vsrcRegs a ++ vsrcRegs b, wr := vdstWr d k 2, pool := a.isPool || b.isPool }
  | .vaddus g d a b => { guard := some g, rd := vsrcRegs a ++ vsrcRegs b, wr := vdstWr d k 2, pool := a.isPool || b.isPool }
  | .vsubus g d a b => { guard := some g, rd := vsrcRegs a ++ vsrcRegs b, wr := vdstWr d k 2, pool := a.isPool || b.isPool }
  | .vmul g d a b _ => { guard := some g, rd := vsrcRegs a ++ vsrcRegs b, wr := vdstWr d k 2, pool := a.isPool || b.isPool }
  | .vmulh g d a b => { guard := some g, rd := vsrcRegs a ++ vsrcRegs b, wr := vdstWr d k 2, pool := a.isPool || b.isPool }
  | .vmulhu g d a b => { guard := some g, rd := vsrcRegs a ++ vsrcRegs b, wr := vdstWr d k 2, pool := a.isPool || b.isPool }
  | .vmulw g d a b _ _ => { guard := some g, rd := vsrcRegs a ++ vsrcRegs b, wr := vdstWr d k 2, pool := a.isPool || b.isPool }
  | .vmacw g d a b _ _ _ => { guard := some g, rd := vsrcRegs a ++ vsrcRegs b ++ [rV d], wr := wV k d 2, pool := a.isPool || b.isPool }
  | .vdot4 g d a b _ _ _ => { guard := some g, rd := vsrcRegs a ++ vsrcRegs b ++ [rV d], wr := wV k d 2, pool := a.isPool || b.isPool }
  | .vmadc g d a b cy z => { guard := some g, rd := vsrcRegs a ++ vsrcRegs b ++ [rV d] ++ rdUnless z (rV cy), wr := wV k d 2 ++ [(rV (d + 1), 2), (rV cy, 2)], pool := a.isPool || b.isPool }
  | .vadc g d a b cy z => { guard := some g, rd := vsrcRegs a ++ vsrcRegs b ++ rdUnless z (rV cy), wr := vdstWr d k 2 ++ [(rV cy, 2)], pool := a.isPool || b.isPool }
  | .vsbc g d a b cy z => { guard := some g, rd := vsrcRegs a ++ vsrcRegs b ++ rdUnless z (rV cy), wr := vdstWr d k 2 ++ [(rV cy, 2)], pool := a.isPool || b.isPool }
  | .vabs g d a _ => { guard := some g, rd := vsrcRegs a, wr := vdstWr d k 2, pool := a.isPool }
  | .vneg g d a _ => { guard := some g, rd := vsrcRegs a, wr := vdstWr d k 2, pool := a.isPool }
  | .vmini g d a b => { guard := some g, rd := vsrcRegs a ++ vsrcRegs b, wr := vdstWr d k 2, pool := a.isPool || b.isPool }
  | .vmaxi g d a b => { guard := some g, rd := vsrcRegs a ++ vsrcRegs b, wr := vdstWr d k 2, pool := a.isPool || b.isPool }
  | .vminu g d a b => { guard := some g, rd := vsrcRegs a ++ vsrcRegs b, wr := vdstWr d k 2, pool := a.isPool || b.isPool }
  | .vmaxu g d a b => { guard := some g, rd := vsrcRegs a ++ vsrcRegs b, wr := vdstWr d k 2, pool := a.isPool || b.isPool }
  | .vclamp g d a b => { guard := some g, rd := vsrcRegs a ++ vsrcRegs b, wr := vdstWr d k 2, pool := a.isPool || b.isPool }
  | .vavg g d a b => { guard := some g, rd := vsrcRegs a ++ vsrcRegs b, wr := vdstWr d k 2, pool := a.isPool || b.isPool }
  | .vavgu g d a b => { guard := some g, rd := vsrcRegs a ++ vsrcRegs b, wr := vdstWr d k 2, pool := a.isPool || b.isPool }
  | .vabd g d a b => { guard := some g, rd := vsrcRegs a ++ vsrcRegs b, wr := vdstWr d k 2, pool := a.isPool || b.isPool }
  | .vabdu g d a b => { guard := some g, rd := vsrcRegs a ++ vsrcRegs b, wr := vdstWr d k 2, pool := a.isPool || b.isPool }
  | .vand g d a b => { guard := some g, rd := vsrcRegs a ++ vsrcRegs b, wr := vdstWr d k 2, pool := a.isPool || b.isPool }
  | .vor g d a b => { guard := some g, rd := vsrcRegs a ++ vsrcRegs b, wr := vdstWr d k 2, pool := a.isPool || b.isPool }
  | .vxor g d a b => { guard := some g, rd := vsrcRegs a ++ vsrcRegs b, wr := vdstWr d k 2, pool := a.isPool || b.isPool }
  | .vandn g d a b => { guard := some g, rd := vsrcRegs a ++ vsrcRegs b, wr := vdstWr d k 2, pool := a.isPool || b.isPool }
  | .vbitsel g d a b => { guard := some g, rd := vsrcRegs a ++ vsrcRegs b ++ [rV d], wr := wV k d 2, pool := a.isPool || b.isPool }
  | .vshl g d a b _ => { guard := some g, rd := vsrcRegs a ++ vsrcRegs b, wr := vdstWr d k 2, pool := a.isPool || b.isPool }
  | .vshr g d a b => { guard := some g, rd := vsrcRegs a ++ vsrcRegs b, wr := vdstWr d k 2, pool := a.isPool || b.isPool }
  | .vsra g d a b => { guard := some g, rd := vsrcRegs a ++ vsrcRegs b, wr := vdstWr d k 2, pool := a.isPool || b.isPool }
  | .vrol g d a b => { guard := some g, rd := vsrcRegs a ++ vsrcRegs b, wr := vdstWr d k 2, pool := a.isPool || b.isPool }
  | .vclz g d a => { guard := some g, rd := vsrcRegs a, wr := vdstWr d k 2, pool := a.isPool }
  | .vpopc g d a => { guard := some g, rd := vsrcRegs a, wr := vdstWr d k 2, pool := a.isPool }
  | .vbext g d a b _ => { guard := some g, rd := vsrcRegs a ++ vsrcRegs b, wr := vdstWr d k 2, pool := a.isPool || b.isPool }
  | .vbins g d a b _ => { guard := some g, rd := vsrcRegs a ++ vsrcRegs b ++ [rV d], wr := wV k d 2, pool := a.isPool || b.isPool }
  | .vsext g d a _ => { guard := some g, rd := vsrcRegs a, wr := vdstWr d k 2, pool := a.isPool }
  | .vzext g d a _ => { guard := some g, rd := vsrcRegs a, wr := vdstWr d k 2, pool := a.isPool }
  | .vrev g d a => { guard := some g, rd := vsrcRegs a, wr := vdstWr d k 2, pool := a.isPool }
  | .vbswap g d a => { guard := some g, rd := vsrcRegs a, wr := vdstWr d k 2, pool := a.isPool }
  | .vcmpeq g d a b => { guard := some g, rd := vsrcRegs a ++ vsrcRegs b, wr := vdstWr d k 2, pool := a.isPool || b.isPool }
  | .vcmpne g d a b => { guard := some g, rd := vsrcRegs a ++ vsrcRegs b, wr := vdstWr d k 2, pool := a.isPool || b.isPool }
  | .vcmplt g d a b => { guard := some g, rd := vsrcRegs a ++ vsrcRegs b, wr := vdstWr d k 2, pool := a.isPool || b.isPool }
  | .vcmple g d a b => { guard := some g, rd := vsrcRegs a ++ vsrcRegs b, wr := vdstWr d k 2, pool := a.isPool || b.isPool }
  | .vcmpltu g d a b => { guard := some g, rd := vsrcRegs a ++ vsrcRegs b, wr := vdstWr d k 2, pool := a.isPool || b.isPool }
  | .vcmpleu g d a b => { guard := some g, rd := vsrcRegs a ++ vsrcRegs b, wr := vdstWr d k 2, pool := a.isPool || b.isPool }
  | .vsel g d a b => { guard := some g, rd := vsrcRegs a ++ vsrcRegs b ++ [rV d], wr := wV k d 2, pool := a.isPool || b.isPool }
  | .vfadd g d a b _ => { guard := some g, rd := vsrcRegs a ++ vsrcRegs b, wr := vdstWr d k 4, pool := a.isPool || b.isPool }
  | .vfsub g d a b _ => { guard := some g, rd := vsrcRegs a ++ vsrcRegs b, wr := vdstWr d k 4, pool := a.isPool || b.isPool }
  | .vfmul g d a b _ => { guard := some g, rd := vsrcRegs a ++ vsrcRegs b, wr := vdstWr d k 4, pool := a.isPool || b.isPool }
  | .vfma g d a b _ => { guard := some g, rd := vsrcRegs a ++ vsrcRegs b ++ [rV d], wr := wV k d 4, pool := a.isPool || b.isPool }
  | .vfms g d a b _ => { guard := some g, rd := vsrcRegs a ++ vsrcRegs b ++ [rV d], wr := wV k d 4, pool := a.isPool || b.isPool }
  | .vfnma g d a b _ => { guard := some g, rd := vsrcRegs a ++ vsrcRegs b ++ [rV d], wr := wV k d 4, pool := a.isPool || b.isPool }
  | .vfmaw g d a b _ _ _ => { guard := some g, rd := vsrcRegs a ++ vsrcRegs b ++ [rV d], wr := wV k d 4, pool := a.isPool || b.isPool }
  | .vfabs g d a => { guard := some g, rd := vsrcRegs a, wr := vdstWr d k 4, pool := a.isPool }
  | .vfneg g d a => { guard := some g, rd := vsrcRegs a, wr := vdstWr d k 4, pool := a.isPool }
  | .vmin g d a b => { guard := some g, rd := vsrcRegs a ++ vsrcRegs b, wr := vdstWr d k 4, pool := a.isPool || b.isPool }
  | .vmax g d a b => { guard := some g, rd := vsrcRegs a ++ vsrcRegs b, wr := vdstWr d k 4, pool := a.isPool || b.isPool }
  | .vminnum g d a b => { guard := some g, rd := vsrcRegs a ++ vsrcRegs b, wr := vdstWr d k 4, pool := a.isPool || b.isPool }
  | .vmaxnum g d a b => { guard := some g, rd := vsrcRegs a ++ vsrcRegs b, wr := vdstWr d k 4, pool := a.isPool || b.isPool }
  | .vfclamp g d a b => { guard := some g, rd := vsrcRegs a ++ vsrcRegs b, wr := vdstWr d k 4, pool := a.isPool || b.isPool }
  | .vfrnd g d a _ => { guard := some g, rd := vsrcRegs a, wr := vdstWr d k 4, pool := a.isPool }
  | .vfclass g d a => { guard := some g, rd := vsrcRegs a, wr := vdstWr d k 4, pool := a.isPool }
  | .vfcopys g d a b => { guard := some g, rd := vsrcRegs a ++ vsrcRegs b, wr := vdstWr d k 4, pool := a.isPool || b.isPool }
  | .vfscale g d a b _ => { guard := some g, rd := vsrcRegs a ++ vsrcRegs b, wr := vdstWr d k 4, pool := a.isPool || b.isPool }
  | .vfcmpeq g d a b => { guard := some g, rd := vsrcRegs a ++ vsrcRegs b, wr := vdstWr d k 4, pool := a.isPool || b.isPool }
  | .vfcmplt g d a b => { guard := some g, rd := vsrcRegs a ++ vsrcRegs b, wr := vdstWr d k 4, pool := a.isPool || b.isPool }
  | .vfcmple g d a b => { guard := some g, rd := vsrcRegs a ++ vsrcRegs b, wr := vdstWr d k 4, pool := a.isPool || b.isPool }
  | .vfcmpun g d a b => { guard := some g, rd := vsrcRegs a ++ vsrcRegs b, wr := vdstWr d k 4, pool := a.isPool || b.isPool }
  | .vcvtfi g d a _ _ _ => { guard := some g, rd := vsrcRegs a, wr := vdstWr d k 4, pool := a.isPool }
  | .vcvtif g d a _ _ _ => { guard := some g, rd := vsrcRegs a, wr := vdstWr d k 4, pool := a.isPool }
  | .vcvtff g d a n _ _ => { guard := some g, rd := vsrcRegs a ++ (if n.val < 2 then oldRow d else []), wr := vdstWr d k 4, pool := a.isPool }
  | .vcvtii g d a n _ _ _ => { guard := some g, rd := vsrcRegs a ++ (if n.val % 2 = 0 then oldRow d else []), wr := vdstWr d k 2, pool := a.isPool }
  | .vpack g d a _ _ _ => { guard := some g, rd := vsrcRegs a ++ [rV d], wr := wV k d 2, pool := a.isPool }
  | .vunpack g d a _ _ => { guard := some g, rd := vsrcRegs a, wr := vdstWr d k 2, pool := a.isPool }
  | .vqnq4 g d a _ _ => { guard := some g, rd := vsrcRegs a, wr := vdstWr d k 4, pool := a.isPool }
  | .vdqnq4 g d a => { guard := some g, rd := vsrcRegs a, wr := vdstWr d k 4, pool := a.isPool }
  | .vrcp g d a _ => { guard := some g, rd := vsrcRegs a, wr := vdstWr d k 8, pool := a.isPool }
  | .vrsqrt g d a _ => { guard := some g, rd := vsrcRegs a, wr := vdstWr d k 8, pool := a.isPool }
  | .vexp2 g d a _ => { guard := some g, rd := vsrcRegs a, wr := vdstWr d k 8, pool := a.isPool }
  | .vlog2 g d a _ => { guard := some g, rd := vsrcRegs a, wr := vdstWr d k 8, pool := a.isPool }
  | .vscacc g d a b ga => { guard := some g, rd := vsrcRegs b ++ [rV d] ++ [rV a] ++ [rG ga], wr := wV k d 4, pool := b.isPool }
  | .vcsum g _ => { guard := some g }
  | .vcsumRow g d _ _ => { guard := some g, wr := vdstWr d k 2 }
  | .vcchk g _ => { guard := some g, check := true }
  | .vredadd g d a => { guard := some g, rd := vsrcRegs a, wr := vdstWr d k 2, pool := a.isPool }
  | .vredaddw g d a _ => { guard := some g, rd := vsrcRegs a, wr := vdstWr d k 2, pool := a.isPool }
  | .vredfadd g d a _ => { guard := some g, rd := vsrcRegs a, wr := vdstWr d k 4, pool := a.isPool }
  | .vredmin g d a _ => { guard := some g, rd := vsrcRegs a, wr := vdstWr d k 2, pool := a.isPool }
  | .vredmax g d a _ => { guard := some g, rd := vsrcRegs a, wr := vdstWr d k 2, pool := a.isPool }
  | .vredfmin g d a => { guard := some g, rd := vsrcRegs a, wr := vdstWr d k 4, pool := a.isPool }
  | .vredfmax g d a => { guard := some g, rd := vsrcRegs a, wr := vdstWr d k 4, pool := a.isPool }
  | .vredand g d a => { guard := some g, rd := vsrcRegs a, wr := vdstWr d k 2, pool := a.isPool }
  | .vredor g d a => { guard := some g, rd := vsrcRegs a, wr := vdstWr d k 2, pool := a.isPool }
  | .vbcast g d a b => { guard := some g, rd := vsrcRegs a ++ vsrcRegs b, wr := vdstWr d k 2, pool := a.isPool || b.isPool }
  | .vperm g d a b => { guard := some g, rd := vsrcRegs a ++ vsrcRegs b, wr := vdstWr d k 2, pool := a.isPool || b.isPool }
  | .vshuf g d a b => { guard := some g, rd := vsrcRegs a ++ vsrcRegs b ++ [rV d], wr := wV k d 2, pool := a.isPool || b.isPool }
  | .vrotl g d a b => { guard := some g, rd := vsrcRegs a ++ vsrcRegs b, wr := vdstWr d k 2, pool := a.isPool || b.isPool }
  | .vslide g d a b => { guard := some g, rd := vsrcRegs a ++ vsrcRegs b, wr := vdstWr d k 2, pool := a.isPool || b.isPool }
  | .vzip g d a b _ => { guard := some g, rd := vsrcRegs a ++ vsrcRegs b, wr := vdstWr d k 2, pool := a.isPool || b.isPool }
  | .vunzip g d a b _ => { guard := some g, rd := vsrcRegs a ++ vsrcRegs b, wr := vdstWr d k 2, pool := a.isPool || b.isPool }
  | .vrevl g d a => { guard := some g, rd := vsrcRegs a, wr := vdstWr d k 2, pool := a.isPool }
  | .vcompress g d a b n => { guard := some g, rd := vsrcRegs a ++ vsrcRegs b, wr := vdstWr d k 2 ++ optWr n 2, pool := a.isPool || b.isPool }
  | .vexpand g d a b n => { guard := some g, rd := vsrcRegs a ++ vsrcRegs b, wr := vdstWr d k 2 ++ optWr n 2, pool := a.isPool || b.isPool }
  | .vtopk g d a b _ => { guard := some g, rd := vsrcRegs a ++ vsrcRegs b, wr := vdstWr d k 4, pool := a.isPool || b.isPool }
  | .viota g d a m => { guard := some g, rd := if m then vsrcRegs a else [], wr := vdstWr d k 2, pool := a.isPool }
  | .vany g gn _ a => { guard := some g, rd := vsrcRegs a, wr := [(rG gn, 2)], pool := a.isPool }
  | .vall g gn _ a => { guard := some g, rd := vsrcRegs a, wr := [(rG gn, 2)], pool := a.isPool }
  | .vmcount g gn a => { guard := some g, rd := vsrcRegs a, wr := [(rG gn, 2)], pool := a.isPool }
  | .vmskg g gn a _ => { guard := some g, rd := vsrcRegs a, wr := [(rG gn, 2)], pool := a.isPool }
  | .vgmsk g d gs _ => { guard := some g, rd := [rG gs] ++ [rV d], wr := wV k d 2 }
  | .vins g d gs t => { guard := some g, rd := vsrcRegs t ++ [rG gs] ++ [rV d], wr := wV k d 2, pool := t.isPool }
  | .vext g gn a t => { guard := some g, rd := vsrcRegs a ++ vsrcRegs t, wr := [(rG gn, 2)], pool := a.isPool || t.isPool }
  | .tcfg g _ _ => { guard := some g, check := true }
  | .vcvt8 g d a _ _ _ => { guard := some g, rd := vsrcRegs a ++ [rV d], wr := wV k d 4, pool := a.isPool }
  | .vcvt8w g d a _ _ => { guard := some g, rd := vsrcRegs a, wr := vdstWr d k 4, pool := a.isPool }
  | .mnop => {}
  | .mclr _ => {}
  | .mpush _ sa sb => { rd := [rS sa, rS sb].dedup }
  | .macc _ sa sb => { rd := [rS sa, rS sb].dedup }
  | .mshift sa sb => { rd := [rS sa, rS sb].dedup }
  | .mdrain _ t => { wr := [(rV (Fin.ofNat 128 t.val), 2)] }
  | .mswap => {}
  | .mcfg _ _ => {}
  | .xnop => {}
  | .ldg g _ s _ _ _ => { guard := some g, rd := [rG s] }
  | .ldgu g _ s _ _ _ => { guard := some g, rd := [rG s] }
  | .ldgnc g _ s _ _ _ => { guard := some g, rd := [rG s] }
  | .stg g d s _ _ _ => { guard := some g, rd := [rG d] ++ [rG s], stores := 1 }
  | .ldgv g _ s _ _ => { guard := some g, rd := [rG s] }
  | .stgv g v s _ _ => { guard := some g, rd := [rV v] ++ [rG s], stores := 1 }
  | .prefg g s => { guard := some g, rd := [rG s] }
  | .atadd g d s _ _ _ => { guard := some g, rd := [rG d] ++ [rG s], ckpt := true }
  | .atmin g d s _ _ _ => { guard := some g, rd := [rG d] ++ [rG s], ckpt := true }
  | .atmax g d s _ _ _ => { guard := some g, rd := [rG d] ++ [rG s], ckpt := true }
  | .atminu g d s _ _ _ => { guard := some g, rd := [rG d] ++ [rG s], ckpt := true }
  | .atmaxu g d s _ _ _ => { guard := some g, rd := [rG d] ++ [rG s], ckpt := true }
  | .atand g d s _ _ _ => { guard := some g, rd := [rG d] ++ [rG s], ckpt := true }
  | .ator g d s _ _ _ => { guard := some g, rd := [rG d] ++ [rG s], ckpt := true }
  | .atxor g d s _ _ _ => { guard := some g, rd := [rG d] ++ [rG s], ckpt := true }
  | .atxchg g d s _ _ _ => { guard := some g, rd := [rG d] ++ [rG s], ckpt := true }
  | .atcas g d s _ _ _ => { guard := some g, rd := [rG d] ++ [rG s] ++ [rG (d + 1)], ckpt := true }
  | .atfadd g d s _ _ => { guard := some g, rd := [rG d] ++ [rG s], ckpt := true }
  | .atfmax g d s _ _ => { guard := some g, rd := [rG d] ++ [rG s], ckpt := true }
  | .fence g _ _ => { guard := some g, ckpt := true }
  | .ldfe g _ q _ clear => { guard := some g, rd := [rG q], stores := clear.toNat }
  | .stfe g p q _ => { guard := some g, rd := [rG p] ++ [rG q], stores := 1 }
  | .feset g p q _ => { guard := some g, rd := [rG p] ++ [rG q], stores := 1 }
  | .fetest g p _ q => { guard := some g, rd := [rG q], wr := wG k p 1 }
  | .gbar g => { guard := some g, ckpt := true, gbar := true }
  | .sbind g _ q => { guard := some g, rd := rOct q, ckpt := true }
  | .sunbind g _ => { guard := some g, ckpt := true }
  | .treg g _ q => { guard := some g, rd := rOct q }
  | .tunreg g _ => { guard := some g }
  | .ecopy g p q => { guard := some g, rd := [rG q] ++ rOct p, ckpt := true }
  | .emcast g p q => { guard := some g, rd := [rG q] ++ rOct p, ckpt := true }
  | .egather g p q => { guard := some g, rd := [rG q] ++ rOct p, ckpt := true }
  | .escatter g p q => { guard := some g, rd := [rG q] ++ rOct p, ckpt := true }
  | .eplane g p q => { guard := some g, rd := [rG q] ++ rOct p, ckpt := true }
  | .efeed g p q => { guard := some g, rd := [rG q] ++ rOct p, ckpt := true }
  | .ewait g q => { guard := some g, rd := [rG q], ckpt := true }
  | .etest g p _ q => { guard := some g, rd := [rG q], wr := wG k p 1 }
  | .qpush g p q => { guard := some g, rd := [rG q] ++ rOct p, ckpt := true }
  | .qpop g _ q => { guard := some g, rd := [rG q], ckpt := true }
  | .qlen g _ q => { guard := some g, rd := [rG q] }
  | .cntadd g q => { guard := some g, rd := [rG q], ckpt := true }
  | .cntrd g d => { guard := some g, wr := dstWr d k 1 }
  | .kbind g _ q => { guard := some g, rd := [2 * q.val, 2 * q.val + 1], ckpt := true }
  | .kunbind g _ => { guard := some g, ckpt := true }
  | .kstat g d _ => { guard := some g, wr := dstWr d k 1 }
  | .susp g q => { guard := some g, rd := [rG q], ckpt := true }
  | .cres g q => { guard := some g, rd := [rG q], ckpt := true }
  | .cresT g _ q => { guard := some g, rd := [rG q], ckpt := true }
  | .ccopy g p q => { guard := some g, rd := [rG q] ++ [rG p], ckpt := true }
  | .cdrop g q => { guard := some g, rd := [rG q], ckpt := true }
  | .cinfo g _ q => { guard := some g, rd := [rG q] }
  | .kslotld g p q => { guard := some g, rd := [rG q] ++ rOct p, ckpt := true, priv := true }
  | .kslotz g q => { guard := some g, rd := [rG q], ckpt := true, priv := true }
  | .glean g p => { guard := some g, rd := rOct p, ckpt := true, priv := true }
  | .notify g q => { guard := some g, rd := [rG q], ckpt := true }
  | .issueBundle _ => {}
  | .fixedLatencyLanding _ => {}
  | .loadValueLanding _ _ => {}
  | .checkpointCommit _ => {}
  | .commitQueuePerform _ _ => {}
  | .yield _ => {}
  | .idleCoreChoice _ => {}
  | .spinlimPark _ => {}
  | .parkEnd _ => {}
  | .qpushRetry _ => {}
  | .takeRecord _ _ _ _ => {}
  | .loadingComplete _ => {}
  | .groupPlacement _ _ _ => {}
  | .releaseAsRecord _ => {}
  | .drainingEnd _ => {}
  | .dataErrorVerification _ => {}
  | .streamFetch _ _ => {}
  | .refreshWindowAdvance _ => {}
  | .patrolScrub _ => {}
  | .hbmCalibration _ => {}
  | .linkCalibration _ => {}
  | .translationWalk _ _ _ => {}
  | .homeStackPerform _ _ => {}
  | .dieUpdateApply _ _ => {}
  | .copyEngineTransfer _ => {}
  | .planeBuildSlice _ => {}
  | .feedLoaderItem _ => {}
  | .feedStorerItem _ => {}
  | .weightLoadOperation _ => {}
  | .completionObjectLanding _ => {}
  | .queueAccept _ => {}
  | .queueHeadRemove _ => {}
  | .heathRefill _ _ => {}
  | .queueMappingTick _ => {}
  | .gangEnd _ _ => {}
  | .gangIdFree _ _ => {}
  | .launch _ _ => {}
  | .graphNodeStart _ _ => {}
  | .graphNodeComplete _ _ => {}
  | .sliceDeadline _ => {}
  | .ckwaitExpiry _ => {}
  | .groupSave _ => {}
  | .restorePlacement _ => {}
  | .groupRestore _ _ => {}
  | .packetSend _ _ => {}
  | .packetArrival _ => {}
  | .refusedResend _ _ => {}
  | .landingEntryMove _ _ => {}
  | .remoteOperationPerform _ _ => {}
  | .remoteAckArrival _ _ => {}
  | .remoteFailure _ _ _ => {}
  | .revokeArrival _ _ _ => {}
  | .purseDecay => {}
  | .shareWindowStart _ => {}
  | .shareExhausted _ _ _ => {}
  | .gleanBlockWrite => {}
  | .estateCreate _ => {}
  | .estateDestroy _ => {}
  | .plotCreate _ => {}
  | .plotDestroy _ => {}
  | .policyWrite _ => {}
  | .policyRead _ => {}
  | .grant _ => {}
  | .ungrant _ => {}
  | .root _ => {}
  | .inval _ => {}
  | .handle _ => {}
  | .unhandle _ => {}
  | .rights _ => {}
  | .preempt _ => {}
  | .pair _ => {}
  | .qcreate _ => {}
  | .attest _ => {}
  | .timeset _ => {}
  | .kreg _ => {}
  | .kunreg _ => {}
  | .greg _ => {}
  | .gunreg _ => {}
  | .mcmdUnknownOp _ => {}
  | .frelResume _ => {}
  | .frelRefuse _ => {}
  | .flogConsWrite _ _ => {}
  | .floglostClear _ _ => {}
  | .patrolueClear _ => {}
  | .registerWrite _ _ _ _ _ => {}
  | .hostWindowAccess _ _ _ => {}
  | .vfEnableClear => {}
  | .vfEnableSet => {}
  | .functionLevelReset _ => {}
  | .powerOn => {}
  | .startWarmRequest => {}
  | .startColdRequest => {}
  | .fundamentalReset => {}
  | .clockLowering _ => {}
  | .landingFullReplyArrival _ _ => {}
  | .wearManagementMigration _ => {}
  | .msixVectorUnmask _ _ => {}
  | .clockRestore _ => {}

/-- An instruction's meaning in a bundle. -/
def meaningOf : Instr → Slot
  | .bnop => slotBnop
  | .b cr cb cs off => slotB cr cb cs off
  | .bA cr cb cs off => slotBA cr cb cs off
  | .br cr cb cs tr => slotBr cr cb cs tr
  | .brA cr cb cs tr => slotBrA cr cb cs tr
  | .call lr off => slotCall lr off
  | .callr lr tr => slotCallr lr tr
  | .bvu vr cs off => slotBvu vr cs off
  | .bvuA vr cs off => slotBvuA vr cs off
  | .loop tg off => slotLoop tg off
  | .loopi trip off => slotLoopi trip off
  | .loopm tg ii sc => slotLoopm tg ii sc
  | .loopmi trip ii sc => slotLoopmi trip ii sc
  | .lexit cr cb cs => slotLexit cr cb cs
  | .exit => slotExit
  | .trap code => slotTrap code
  | .snop => slotSnop
  | .add g d a b => slotAdd g d a b
  | .sub g d a b => slotSub g d a b
  | .adds g d a b => slotAdds g d a b
  | .subs g d a b => slotSubs g d a b
  | .addus g d a b => slotAddus g d a b
  | .subus g d a b => slotSubus g d a b
  | .adc g d a b cy p z => slotAdc g d a b cy p z
  | .sbc g d a b cy p z => slotSbc g d a b cy p z
  | .mul g d a b => slotMul g d a b
  | .mulh g d a b => slotMulh g d a b
  | .mulhu g d a b => slotMulhu g d a b
  | .madc g d a b cy p z => slotMadc g d a b cy p z
  | .div g d a b => slotDiv g d a b
  | .divu g d a b => slotDivu g d a b
  | .rem g d a b => slotRem g d a b
  | .remu g d a b => slotRemu g d a b
  | .and g d a b => slotAnd g d a b
  | .or g d a b => slotOr g d a b
  | .xor g d a b => slotXor g d a b
  | .andn g d a b => slotAndn g d a b
  | .orn g d a b => slotOrn g d a b
  | .shl g d a b => slotShl g d a b
  | .shr g d a b => slotShr g d a b
  | .sra g d a b => slotSra g d a b
  | .rol g d a b => slotRol g d a b
  | .clz g d a => slotClz g d a
  | .ctz g d a => slotCtz g d a
  | .popc g d a => slotPopc g d a
  | .bext g d a b f => slotBext g d a b f
  | .bins g d a b f => slotBins g d a b f
  | .sext g d a f => slotSext g d a f
  | .zext g d a f => slotZext g d a f
  | .cmpeq g d n a b => slotCmpeq g d n a b
  | .cmpne g d n a b => slotCmpne g d n a b
  | .cmplt g d n a b => slotCmplt g d n a b
  | .cmple g d n a b => slotCmple g d n a b
  | .cmpltu g d n a b => slotCmpltu g d n a b
  | .cmpleu g d n a b => slotCmpleu g d n a b
  | .min g d a b => slotMin g d a b
  | .max g d a b => slotMax g d a b
  | .minu g d a b => slotMinu g d a b
  | .maxu g d a b => slotMaxu g d a b
  | .movi g d imm => slotMovi g d imm
  | .movk g d hw imm => slotMovk g d hw imm
  | .mfs g d csr => slotMfs g d csr
  | .mts g a csr => slotMts g a csr
  | .movb g d n inv a bit => slotMovb g d n inv a bit
  | .fadd g d a b r => slotFadd g d a b r
  | .fsub g d a b r => slotFsub g d a b r
  | .fmul g d a b r => slotFmul g d a b r
  | .fma g d a b r => slotFma g d a b r
  | .fmin g d a b r => slotFmin g d a b r
  | .fmax g d a b r => slotFmax g d a b r
  | .fminnum g d a b r => slotFminnum g d a b r
  | .fmaxnum g d a b r => slotFmaxnum g d a b r
  | .fcmpeq g d n a b => slotFcmpeq g d n a b
  | .fcmplt g d n a b => slotFcmplt g d n a b
  | .fcmple g d n a b => slotFcmple g d n a b
  | .fcmpun g d n a b => slotFcmpun g d n a b
  | .fcvtif g d a r => slotFcvtif g d a r
  | .fcvtfi g d a r => slotFcvtfi g d a r
  | .fcvtf g d a k r => slotFcvtf g d a k r
  | .fclass g d a => slotFclass g d a
  | .anop => slotAnop
  | .lds g d a m => slotLds g d a m
  | .ldw g d a m => slotLdw g d a m
  | .ldwu g d a m => slotLdwu g d a m
  | .ldh g d a m => slotLdh g d a m
  | .ldhu g d a m => slotLdhu g d a m
  | .ldb g d a m => slotLdb g d a m
  | .ldbu g d a m => slotLdbu g d a m
  | .sts g x a m => slotSts g x a m
  | .stw g x a m => slotStw g x a m
  | .sth g x a m => slotSth g x a m
  | .stb g x a m => slotStb g x a m
  | .ldv g v a m => slotLdv g v a m
  | .stv g v a m => slotStv g v a m
  | .wlds g d a m => slotWlds g d a m
  | .wldv g v a m => slotWldv g v a m
  | .aadd g a x => slotAadd g a x
  | .amov g a x => slotAmov g a x
  | .aget g d a => slotAget g d a
  | .mset g m x => slotMset g m x
  | .mget g d m => slotMget g d m
  | .lea g d a m => slotLea g d a m
  | .acmplt g d n a => slotAcmplt g d n a
  | .clrv g a m => slotClrv g a m
  | .vnop => slotVnop
  | .vmov g d a => slotVmov g d a
  | .vadd g d a b => slotVadd g d a b
  | .vsub g d a b => slotVsub g d a b
  | .vadds g d a b => slotVadds g d a b
  | .vsubs g d a b => slotVsubs g d a b
  | .vaddus g d a b => slotVaddus g d a b
  | .vsubus g d a b => slotVsubus g d a b
  | .vmul g d a b sat => slotVmul g d a b sat
  | .vmulh g d a b => slotVmulh g d a b
  | .vmulhu g d a b => slotVmulhu g d a b
  | .vmulw g d a b h u => slotVmulw g d a b h u
  | .vmacw g d a b h u sat => slotVmacw g d a b h u sat
  | .vdot4 g d a b h u sat => slotVdot4 g d a b h u sat
  | .vmadc g d a b cy z => slotVmadc g d a b cy z
  | .vadc g d a b cy z => slotVadc g d a b cy z
  | .vsbc g d a b cy z => slotVsbc g d a b cy z
  | .vabs g d a sat => slotVabs g d a sat
  | .vneg g d a sat => slotVneg g d a sat
  | .vmini g d a b => slotVmini g d a b
  | .vmaxi g d a b => slotVmaxi g d a b
  | .vminu g d a b => slotVminu g d a b
  | .vmaxu g d a b => slotVmaxu g d a b
  | .vclamp g d a b => slotVclamp g d a b
  | .vavg g d a b => slotVavg g d a b
  | .vavgu g d a b => slotVavgu g d a b
  | .vabd g d a b => slotVabd g d a b
  | .vabdu g d a b => slotVabdu g d a b
  | .vand g d a b => slotVand g d a b
  | .vor g d a b => slotVor g d a b
  | .vxor g d a b => slotVxor g d a b
  | .vandn g d a b => slotVandn g d a b
  | .vbitsel g d a b => slotVbitsel g d a b
  | .vshl g d a b sat => slotVshl g d a b sat
  | .vshr g d a b => slotVshr g d a b
  | .vsra g d a b => slotVsra g d a b
  | .vrol g d a b => slotVrol g d a b
  | .vclz g d a => slotVclz g d a
  | .vpopc g d a => slotVpopc g d a
  | .vbext g d a b f => slotVbext g d a b f
  | .vbins g d a b f => slotVbins g d a b f
  | .vsext g d a f => slotVsext g d a f
  | .vzext g d a f => slotVzext g d a f
  | .vrev g d a => slotVrev g d a
  | .vbswap g d a => slotVbswap g d a
  | .vcmpeq g d a b => slotVcmpeq g d a b
  | .vcmpne g d a b => slotVcmpne g d a b
  | .vcmplt g d a b => slotVcmplt g d a b
  | .vcmple g d a b => slotVcmple g d a b
  | .vcmpltu g d a b => slotVcmpltu g d a b
  | .vcmpleu g d a b => slotVcmpleu g d a b
  | .vsel g d a b => slotVsel g d a b
  | .vfadd g d a b r => slotVfadd g d a b r
  | .vfsub g d a b r => slotVfsub g d a b r
  | .vfmul g d a b r => slotVfmul g d a b r
  | .vfma g d a b r => slotVfma g d a b r
  | .vfms g d a b r => slotVfms g d a b r
  | .vfnma g d a b r => slotVfnma g d a b r
  | .vfmaw g d a b h f r => slotVfmaw g d a b h f r
  | .vfabs g d a => slotVfabs g d a
  | .vfneg g d a => slotVfneg g d a
  | .vmin g d a b => slotVmin g d a b
  | .vmax g d a b => slotVmax g d a b
  | .vminnum g d a b => slotVminnum g d a b
  | .vmaxnum g d a b => slotVmaxnum g d a b
  | .vfclamp g d a b => slotVfclamp g d a b
  | .vfrnd g d a r => slotVfrnd g d a r
  | .vfclass g d a => slotVfclass g d a
  | .vfcopys g d a b => slotVfcopys g d a b
  | .vfscale g d a b r => slotVfscale g d a b r
  | .vfcmpeq g d a b => slotVfcmpeq g d a b
  | .vfcmplt g d a b => slotVfcmplt g d a b
  | .vfcmple g d a b => slotVfcmple g d a b
  | .vfcmpun g d a b => slotVfcmpun g d a b
  | .vcvtfi g d a f u r => slotVcvtfi g d a f u r
  | .vcvtif g d a f u r => slotVcvtif g d a f u r
  | .vcvtff g d a k h r => slotVcvtff g d a k h r
  | .vcvtii g d a k h u sat => slotVcvtii g d a k h u sat
  | .vpack g d a q u sat => slotVpack g d a q u sat
  | .vunpack g d a q u => slotVunpack g d a q u
  | .vqnq4 g d a ty r => slotVqnq4 g d a ty r
  | .vdqnq4 g d a => slotVdqnq4 g d a
  | .vrcp g d a r => slotVrcp g d a r
  | .vrsqrt g d a r => slotVrsqrt g d a r
  | .vexp2 g d a r => slotVexp2 g d a r
  | .vlog2 g d a r => slotVlog2 g d a r
  | .vscacc g d a b ga => slotVscacc g d a b ga
  | .vcsum g t => slotVcsum g t
  | .vcsumRow g d t sel => slotVcsumRow g d t sel
  | .vcchk g t => slotVcchk g t
  | .vredadd g d a => slotVredadd g d a
  | .vredaddw g d a u => slotVredaddw g d a u
  | .vredfadd g d a r => slotVredfadd g d a r
  | .vredmin g d a u => slotVredmin g d a u
  | .vredmax g d a u => slotVredmax g d a u
  | .vredfmin g d a => slotVredfmin g d a
  | .vredfmax g d a => slotVredfmax g d a
  | .vredand g d a => slotVredand g d a
  | .vredor g d a => slotVredor g d a
  | .vbcast g d a b => slotVbcast g d a b
  | .vperm g d a b => slotVperm g d a b
  | .vshuf g d a b => slotVshuf g d a b
  | .vrotl g d a b => slotVrotl g d a b
  | .vslide g d a b => slotVslide g d a b
  | .vzip g d a b h => slotVzip g d a b h
  | .vunzip g d a b h => slotVunzip g d a b h
  | .vrevl g d a => slotVrevl g d a
  | .vcompress g d a b n => slotVcompress g d a b n
  | .vexpand g d a b n => slotVexpand g d a b n
  | .vtopk g d a b h => slotVtopk g d a b h
  | .viota g d a u => slotViota g d a u
  | .vany g gn b a => slotVany g gn b a
  | .vall g gn b a => slotVall g gn b a
  | .vmcount g gn a => slotVmcount g gn a
  | .vmskg g gn a q => slotVmskg g gn a q
  | .vgmsk g d gs q => slotVgmsk g d gs q
  | .vins g d gs t => slotVins g d gs t
  | .vext g gn a t => slotVext g gn a t
  | .tcfg g t ty => slotTcfg g t ty
  | .vcvt8 g d a q e r => slotVcvt8 g d a q e r
  | .vcvt8w g d a q u => slotVcvt8w g d a q u
  | .mnop => slotMnop
  | .mclr set => slotMclr set
  | .mpush w sa sb => slotMpush w sa sb
  | .macc w sa sb => slotMacc w sa sb
  | .mshift sa sb => slotMshift sa sb
  | .mdrain arow t => slotMdrain arow t
  | .mswap => slotMswap
  | .mcfg pa pb => slotMcfg pa pb
  | .xnop => slotXnop
  | .ldg g d s size acq scope => slotLdg g d s size acq scope
  | .ldgu g d s size acq scope => slotLdgu g d s size acq scope
  | .ldgnc g d s size acq scope => slotLdgnc g d s size acq scope
  | .stg g d s size rel scope => slotStg g d s size rel scope
  | .ldgv g v s acq scope => slotLdgv g v s acq scope
  | .stgv g v s rel scope => slotStgv g v s rel scope
  | .prefg g s => slotPrefg g s
  | .atadd g d s wide ord scope => slotAtadd g d s wide ord scope
  | .atmin g d s wide ord scope => slotAtmin g d s wide ord scope
  | .atmax g d s wide ord scope => slotAtmax g d s wide ord scope
  | .atminu g d s wide ord scope => slotAtminu g d s wide ord scope
  | .atmaxu g d s wide ord scope => slotAtmaxu g d s wide ord scope
  | .atand g d s wide ord scope => slotAtand g d s wide ord scope
  | .ator g d s wide ord scope => slotAtor g d s wide ord scope
  | .atxor g d s wide ord scope => slotAtxor g d s wide ord scope
  | .atxchg g d s wide ord scope => slotAtxchg g d s wide ord scope
  | .atcas g d s wide ord scope => slotAtcas g d s wide ord scope
  | .atfadd g d s ord scope => slotAtfadd g d s ord scope
  | .atfmax g d s ord scope => slotAtfmax g d s ord scope
  | .fence g ord scope => slotFence g ord scope
  | .ldfe g p q size clear => slotLdfe g p q size clear
  | .stfe g p q size => slotStfe g p q size
  | .feset g p q v => slotFeset g p q v
  | .fetest g p b q => slotFetest g p b q
  | .gbar g => slotGbar g
  | .sbind g n q => slotSbind g n q
  | .sunbind g n => slotSunbind g n
  | .treg g e q => slotTreg g e q
  | .tunreg g e => slotTunreg g e
  | .ecopy g p q => slotEcopy g p q
  | .emcast g p q => slotEmcast g p q
  | .egather g p q => slotEgather g p q
  | .escatter g p q => slotEscatter g p q
  | .eplane g p q => slotEplane g p q
  | .efeed g p q => slotEfeed g p q
  | .ewait g q => slotEwait g q
  | .etest g p b q => slotEtest g p b q
  | .qpush g p q => slotQpush g p q
  | .qpop g p q => slotQpop g p q
  | .qlen g p q => slotQlen g p q
  | .cntadd g q => slotCntadd g q
  | .cntrd g d => slotCntrd g d
  | .kbind g n q => slotKbind g n q
  | .kunbind g n => slotKunbind g n
  | .kstat g d n => slotKstat g d n
  | .susp g q => slotSusp g q
  | .cres g q => slotCres g q
  | .cresT g p q => slotCresT g p q
  | .ccopy g p q => slotCcopy g p q
  | .cdrop g q => slotCdrop g q
  | .cinfo g p q => slotCinfo g p q
  | .kslotld g p q => slotKslotld g p q
  | .kslotz g q => slotKslotz g q
  | .glean g p => slotGlean g p
  | .notify g q => slotNotify g q
  | .issueBundle _ => fun _ c => .ok c
  | .fixedLatencyLanding _ => fun _ c => .ok c
  | .loadValueLanding _ _ => fun _ c => .ok c
  | .checkpointCommit _ => fun _ c => .ok c
  | .commitQueuePerform _ _ => fun _ c => .ok c
  | .yield _ => fun _ c => .ok c
  | .idleCoreChoice _ => fun _ c => .ok c
  | .spinlimPark _ => fun _ c => .ok c
  | .parkEnd _ => fun _ c => .ok c
  | .qpushRetry _ => fun _ c => .ok c
  | .takeRecord _ _ _ _ => fun _ c => .ok c
  | .loadingComplete _ => fun _ c => .ok c
  | .groupPlacement _ _ _ => fun _ c => .ok c
  | .releaseAsRecord _ => fun _ c => .ok c
  | .drainingEnd _ => fun _ c => .ok c
  | .dataErrorVerification _ => fun _ c => .ok c
  | .streamFetch _ _ => fun _ c => .ok c
  | .refreshWindowAdvance _ => fun _ c => .ok c
  | .patrolScrub _ => fun _ c => .ok c
  | .hbmCalibration _ => fun _ c => .ok c
  | .linkCalibration _ => fun _ c => .ok c
  | .translationWalk _ _ _ => fun _ c => .ok c
  | .homeStackPerform _ _ => fun _ c => .ok c
  | .dieUpdateApply _ _ => fun _ c => .ok c
  | .copyEngineTransfer _ => fun _ c => .ok c
  | .planeBuildSlice _ => fun _ c => .ok c
  | .feedLoaderItem _ => fun _ c => .ok c
  | .feedStorerItem _ => fun _ c => .ok c
  | .weightLoadOperation _ => fun _ c => .ok c
  | .completionObjectLanding _ => fun _ c => .ok c
  | .queueAccept _ => fun _ c => .ok c
  | .queueHeadRemove _ => fun _ c => .ok c
  | .heathRefill _ _ => fun _ c => .ok c
  | .queueMappingTick _ => fun _ c => .ok c
  | .gangEnd _ _ => fun _ c => .ok c
  | .gangIdFree _ _ => fun _ c => .ok c
  | .launch _ _ => fun _ c => .ok c
  | .graphNodeStart _ _ => fun _ c => .ok c
  | .graphNodeComplete _ _ => fun _ c => .ok c
  | .sliceDeadline _ => fun _ c => .ok c
  | .ckwaitExpiry _ => fun _ c => .ok c
  | .groupSave _ => fun _ c => .ok c
  | .restorePlacement _ => fun _ c => .ok c
  | .groupRestore _ _ => fun _ c => .ok c
  | .packetSend _ _ => fun _ c => .ok c
  | .packetArrival _ => fun _ c => .ok c
  | .refusedResend _ _ => fun _ c => .ok c
  | .landingEntryMove _ _ => fun _ c => .ok c
  | .remoteOperationPerform _ _ => fun _ c => .ok c
  | .remoteAckArrival _ _ => fun _ c => .ok c
  | .remoteFailure _ _ _ => fun _ c => .ok c
  | .revokeArrival _ _ _ => fun _ c => .ok c
  | .purseDecay => fun _ c => .ok c
  | .shareWindowStart _ => fun _ c => .ok c
  | .shareExhausted _ _ _ => fun _ c => .ok c
  | .gleanBlockWrite => fun _ c => .ok c
  | .estateCreate _ => fun _ c => .ok c
  | .estateDestroy _ => fun _ c => .ok c
  | .plotCreate _ => fun _ c => .ok c
  | .plotDestroy _ => fun _ c => .ok c
  | .policyWrite _ => fun _ c => .ok c
  | .policyRead _ => fun _ c => .ok c
  | .grant _ => fun _ c => .ok c
  | .ungrant _ => fun _ c => .ok c
  | .root _ => fun _ c => .ok c
  | .inval _ => fun _ c => .ok c
  | .handle _ => fun _ c => .ok c
  | .unhandle _ => fun _ c => .ok c
  | .rights _ => fun _ c => .ok c
  | .preempt _ => fun _ c => .ok c
  | .pair _ => fun _ c => .ok c
  | .qcreate _ => fun _ c => .ok c
  | .attest _ => fun _ c => .ok c
  | .timeset _ => fun _ c => .ok c
  | .kreg _ => fun _ c => .ok c
  | .kunreg _ => fun _ c => .ok c
  | .greg _ => fun _ c => .ok c
  | .gunreg _ => fun _ c => .ok c
  | .mcmdUnknownOp _ => fun _ c => .ok c
  | .frelResume _ => fun _ c => .ok c
  | .frelRefuse _ => fun _ c => .ok c
  | .flogConsWrite _ _ => fun _ c => .ok c
  | .floglostClear _ _ => fun _ c => .ok c
  | .patrolueClear _ => fun _ c => .ok c
  | .registerWrite _ _ _ _ _ => fun _ c => .ok c
  | .hostWindowAccess _ _ _ => fun _ c => .ok c
  | .vfEnableClear => fun _ c => .ok c
  | .vfEnableSet => fun _ c => .ok c
  | .functionLevelReset _ => fun _ c => .ok c
  | .powerOn => fun _ c => .ok c
  | .startWarmRequest => fun _ c => .ok c
  | .startColdRequest => fun _ c => .ok c
  | .fundamentalReset => fun _ c => .ok c
  | .clockLowering _ => fun _ c => .ok c
  | .landingFullReplyArrival _ _ => fun _ c => .ok c
  | .wearManagementMigration _ => fun _ c => .ok c
  | .msixVectorUnmask _ _ => fun _ c => .ok c
  | .clockRestore _ => fun _ c => .ok c

/-- An instruction as the core reads it from a bundle. -/
structure Ins where
  run : Slot
  use : Nat → Use

def insOf (i : Instr) : Ins := ⟨meaningOf i, fun k => useOf k i⟩

end Sys2Proof.Machine
end

