-- ==== Sys2Proof/Machine/Read.lean ====
section
/-!
DEFINITION. A slot's bits as the core reads them: what the decoder answers, with each instruction's meaning. The transfer
slot's table is written a second time, meaning by meaning, for evaluation; a theorem says that it is the same.
-/
namespace Sys2Proof.Machine

/-- The transfer slot, read. -/
noncomputable def readTransfer (w : Nat) : Dec Ins := (decodeTransfer w).map insOf

/-- The same table over the meanings themselves. -/
def transferRun (op w : Nat) : Dec Ins :=
  match op with
  | 0x00 => dXNOP ⟨slotXnop, fun _ => {}⟩ w
  | 0x01 => dXLD (fun g d s size acq scope => ⟨slotLdg g d s size acq scope, fun _ => { guard := some g, rd := [rG s] }⟩) w
  | 0x02 => dXLD (fun g d s size acq scope => ⟨slotLdgu g d s size acq scope, fun _ => { guard := some g, rd := [rG s] }⟩) w
  | 0x03 => dXLD (fun g d s size acq scope => ⟨slotLdgnc g d s size acq scope, fun _ => { guard := some g, rd := [rG s] }⟩) w
  | 0x04 => dXST (fun g d s size rel scope => ⟨slotStg g d s size rel scope, fun _ => { guard := some g, rd := [rG d] ++ [rG s], stores := 1 }⟩) w
  | 0x05 => dXLDV (fun g v s acq scope => ⟨slotLdgv g v s acq scope, fun _ => { guard := some g, rd := [rG s] }⟩) w
  | 0x06 => dXSTV (fun g v s rel scope => ⟨slotStgv g v s rel scope, fun _ => { guard := some g, rd := [rV v] ++ [rG s], stores := 1 }⟩) w
  | 0x07 => dXPF (fun g s => ⟨slotPrefg g s, fun _ => { guard := some g, rd := [rG s] }⟩) w
  | 0x08 => dXAT (fun g d s wide ord scope => ⟨slotAtadd g d s wide ord scope, fun _ => { guard := some g, rd := [rG d] ++ [rG s], ckpt := true }⟩) w
  | 0x09 => dXAT (fun g d s wide ord scope => ⟨slotAtmin g d s wide ord scope, fun _ => { guard := some g, rd := [rG d] ++ [rG s], ckpt := true }⟩) w
  | 0x0A => dXAT (fun g d s wide ord scope => ⟨slotAtmax g d s wide ord scope, fun _ => { guard := some g, rd := [rG d] ++ [rG s], ckpt := true }⟩) w
  | 0x0B => dXAT (fun g d s wide ord scope => ⟨slotAtminu g d s wide ord scope, fun _ => { guard := some g, rd := [rG d] ++ [rG s], ckpt := true }⟩) w
  | 0x0C => dXAT (fun g d s wide ord scope => ⟨slotAtmaxu g d s wide ord scope, fun _ => { guard := some g, rd := [rG d] ++ [rG s], ckpt := true }⟩) w
  | 0x0D => dXAT (fun g d s wide ord scope => ⟨slotAtand g d s wide ord scope, fun _ => { guard := some g, rd := [rG d] ++ [rG s], ckpt := true }⟩) w
  | 0x0E => dXAT (fun g d s wide ord scope => ⟨slotAtor g d s wide ord scope, fun _ => { guard := some g, rd := [rG d] ++ [rG s], ckpt := true }⟩) w
  | 0x0F => dXAT (fun g d s wide ord scope => ⟨slotAtxor g d s wide ord scope, fun _ => { guard := some g, rd := [rG d] ++ [rG s], ckpt := true }⟩) w
  | 0x10 => dXAT (fun g d s wide ord scope => ⟨slotAtxchg g d s wide ord scope, fun _ => { guard := some g, rd := [rG d] ++ [rG s], ckpt := true }⟩) w
  | 0x11 => dXATCAS (fun g d s wide ord scope => ⟨slotAtcas g d s wide ord scope, fun _ => { guard := some g, rd := [rG d] ++ [rG s] ++ [rG (d + 1)], ckpt := true }⟩) w
  | 0x12 => dXATF (fun g d s ord scope => ⟨slotAtfadd g d s ord scope, fun _ => { guard := some g, rd := [rG d] ++ [rG s], ckpt := true }⟩) w
  | 0x13 => dXATF (fun g d s ord scope => ⟨slotAtfmax g d s ord scope, fun _ => { guard := some g, rd := [rG d] ++ [rG s], ckpt := true }⟩) w
  | 0x14 => dXFENCE (fun g ord scope => ⟨slotFence g ord scope, fun _ => { guard := some g, ckpt := true }⟩) w
  | 0x15 => dXLDFE (fun g p q size clear => ⟨slotLdfe g p q size clear, fun _ => { guard := some g, rd := [rG q], stores := clear.toNat }⟩) w
  | 0x16 => dXSTFE (fun g p q size => ⟨slotStfe g p q size, fun _ => { guard := some g, rd := [rG p] ++ [rG q], stores := 1 }⟩) w
  | 0x17 => dXFESET (fun g p q v => ⟨slotFeset g p q v, fun _ => { guard := some g, rd := [rG p] ++ [rG q], stores := 1 }⟩) w
  | 0x18 => dXTEST (fun g p b q => ⟨slotFetest g p b q, fun k => { guard := some g, rd := [rG q], wr := wG k p 1 }⟩) w
  | 0x19 => dXG (fun g => ⟨slotGbar g, fun _ => { guard := some g, ckpt := true, gbar := true }⟩) w
  | 0x1A => dXSB (fun g n q => ⟨slotSbind g n q, fun _ => { guard := some g, rd := rOct q, ckpt := true }⟩) w
  | 0x1B => dXSU (fun g n => ⟨slotSunbind g n, fun _ => { guard := some g, ckpt := true }⟩) w
  | 0x1C => dXTR (fun g e q => ⟨slotTreg g e q, fun _ => { guard := some g, rd := rOct q }⟩) w
  | 0x1D => dXTU (fun g e => ⟨slotTunreg g e, fun _ => { guard := some g }⟩) w
  | 0x1E => dXEN (fun g p q => ⟨slotEcopy g p q, fun _ => { guard := some g, rd := [rG q] ++ rOct p, ckpt := true }⟩) w
  | 0x1F => dXEN (fun g p q => ⟨slotEmcast g p q, fun _ => { guard := some g, rd := [rG q] ++ rOct p, ckpt := true }⟩) w
  | 0x20 => dXEN (fun g p q => ⟨slotEgather g p q, fun _ => { guard := some g, rd := [rG q] ++ rOct p, ckpt := true }⟩) w
  | 0x21 => dXEN (fun g p q => ⟨slotEscatter g p q, fun _ => { guard := some g, rd := [rG q] ++ rOct p, ckpt := true }⟩) w
  | 0x22 => dXEN (fun g p q => ⟨slotEplane g p q, fun _ => { guard := some g, rd := [rG q] ++ rOct p, ckpt := true }⟩) w
  | 0x23 => dXEN (fun g p q => ⟨slotEfeed g p q, fun _ => { guard := some g, rd := [rG q] ++ rOct p, ckpt := true }⟩) w
  | 0x24 => dXQ (fun g q => ⟨slotEwait g q, fun _ => { guard := some g, rd := [rG q], ckpt := true }⟩) w
  | 0x25 => dXTEST (fun g p b q => ⟨slotEtest g p b q, fun k => { guard := some g, rd := [rG q], wr := wG k p 1 }⟩) w
  | 0x26 => dXEN (fun g p q => ⟨slotQpush g p q, fun _ => { guard := some g, rd := [rG q] ++ rOct p, ckpt := true }⟩) w
  | 0x27 => dXEN (fun g p q => ⟨slotQpop g p q, fun _ => { guard := some g, rd := [rG q], ckpt := true }⟩) w
  | 0x28 => dXPQ (fun g p q => ⟨slotQlen g p q, fun _ => { guard := some g, rd := [rG q] }⟩) w
  | 0x29 => dXQ (fun g q => ⟨slotCntadd g q, fun _ => { guard := some g, rd := [rG q], ckpt := true }⟩) w
  | 0x2A => dXCNTRD (fun g d => ⟨slotCntrd g d, fun k => { guard := some g, wr := dstWr d k 1 }⟩) w
  | 0x2B => dXKB (fun g n q => ⟨slotKbind g n q, fun _ => { guard := some g, rd := [2 * q.val, 2 * q.val + 1], ckpt := true }⟩) w
  | 0x2C => dXKU (fun g n => ⟨slotKunbind g n, fun _ => { guard := some g, ckpt := true }⟩) w
  | 0x2D => dXKS (fun g d n => ⟨slotKstat g d n, fun k => { guard := some g, wr := dstWr d k 1 }⟩) w
  | 0x2E => dXQ (fun g q => ⟨slotSusp g q, fun _ => { guard := some g, rd := [rG q], ckpt := true }⟩) w
  | 0x2F => dXQ (fun g q => ⟨slotCres g q, fun _ => { guard := some g, rd := [rG q], ckpt := true }⟩) w
  | 0x30 => dXPQ (fun g p q => ⟨slotCresT g p q, fun _ => { guard := some g, rd := [rG q], ckpt := true }⟩) w
  | 0x31 => dXPQ (fun g p q => ⟨slotCcopy g p q, fun _ => { guard := some g, rd := [rG q] ++ [rG p], ckpt := true }⟩) w
  | 0x32 => dXQ (fun g q => ⟨slotCdrop g q, fun _ => { guard := some g, rd := [rG q], ckpt := true }⟩) w
  | 0x33 => dXEN (fun g p q => ⟨slotCinfo g p q, fun _ => { guard := some g, rd := [rG q] }⟩) w
  | 0x34 => dXEN (fun g p q => ⟨slotKslotld g p q, fun _ => { guard := some g, rd := [rG q] ++ rOct p, ckpt := true, priv := true }⟩) w
  | 0x35 => dXQ (fun g q => ⟨slotKslotz g q, fun _ => { guard := some g, rd := [rG q], ckpt := true, priv := true }⟩) w
  | 0x36 => dXP8 (fun g p => ⟨slotGlean g p, fun _ => { guard := some g, rd := rOct p, ckpt := true, priv := true }⟩) w
  | 0x37 => dXQ (fun g q => ⟨slotNotify g q, fun _ => { guard := some g, rd := [rG q], ckpt := true }⟩) w
  | _ => .error .unassignedOpcode

def readTransferRun (w : Nat) : Dec Ins :=
  match unpack [13, 6, 21] w with
  | [_, op, _] => transferRun op w
  | _ => .error .unassignedOpcode

set_option linter.unusedSimpArgs false

theorem map_need {α β : Type} (f : α → β) (c : Bool) (r : Reject) (k : Dec α) : (need c r k).map f = need c r (k.map f) := by
  cases c <;> rfl

theorem map_opt {α β γ : Type} (f : β → γ) (o : Option α) (r : Reject) (k : α → Dec β) :
    (opt o r k).map f = opt o r (fun x => (k x).map f) := by
  cases o <;> rfl

theorem map_ok {α β : Type} (f : α → β) (x : α) : (Except.ok x : Dec α).map f = .ok (f x) := rfl

theorem map_bad {α β : Type} (f : α → β) : (bad : Dec α).map f = bad := rfl

theorem map_dXNOP {α β : Type} (f : α → β) (c : α) (w : Nat) : (dXNOP c w).map f = dXNOP (f c) w := by
  unfold dXNOP
  split
  · simp only [zero, flag, withG, withV, withOct, withEven, withTDst, lit, map_need, map_opt, map_ok]
  · rfl

theorem map_dXLD {α β : Type} (f : α → β) (c : Guard → GReg → GReg → Code4 → Bool → Scope → α) (w : Nat) :
    (dXLD c w).map f = dXLD (fun g d s size acq scope => f (c g d s size acq scope)) w := by
  unfold dXLD
  split
  · simp only [zero, flag, withG, withV, withOct, withEven, withTDst, lit, map_need, map_opt, map_ok]
  · rfl

theorem map_dXST {α β : Type} (f : α → β) (c : Guard → GReg → GReg → Code4 → Bool → Scope → α) (w : Nat) :
    (dXST c w).map f = dXST (fun g d s size rel scope => f (c g d s size rel scope)) w := by
  unfold dXST
  split
  · simp only [zero, flag, withG, withV, withOct, withEven, withTDst, lit, map_need, map_opt, map_ok]
  · rfl

theorem map_dXLDV {α β : Type} (f : α → β) (c : Guard → VReg → GReg → Bool → Scope → α) (w : Nat) :
    (dXLDV c w).map f = dXLDV (fun g v s acq scope => f (c g v s acq scope)) w := by
  unfold dXLDV
  split
  · simp only [zero, flag, withG, withV, withOct, withEven, withTDst, lit, map_need, map_opt, map_ok]
  · rfl

theorem map_dXSTV {α β : Type} (f : α → β) (c : Guard → VReg → GReg → Bool → Scope → α) (w : Nat) :
    (dXSTV c w).map f = dXSTV (fun g v s rel scope => f (c g v s rel scope)) w := by
  unfold dXSTV
  split
  · simp only [zero, flag, withG, withV, withOct, withEven, withTDst, lit, map_need, map_opt, map_ok]
  · rfl

theorem map_dXPF {α β : Type} (f : α → β) (c : Guard → GReg → α) (w : Nat) :
    (dXPF c w).map f = dXPF (fun g s => f (c g s)) w := by
  unfold dXPF
  split
  · simp only [zero, flag, withG, withV, withOct, withEven, withTDst, lit, map_need, map_opt, map_ok]
  · rfl

theorem map_dXAT {α β : Type} (f : α → β) (c : Guard → GReg → GReg → Bool → Ord4 → Scope → α) (w : Nat) :
    (dXAT c w).map f = dXAT (fun g d s wide ord scope => f (c g d s wide ord scope)) w := by
  unfold dXAT
  split
  · simp only [zero, flag, withG, withV, withOct, withEven, withTDst, lit, map_need, map_opt, map_ok]
  · rfl

theorem map_dXATCAS {α β : Type} (f : α → β) (c : Guard → GReg → GReg → Bool → Ord4 → Scope → α) (w : Nat) :
    (dXATCAS c w).map f = dXATCAS (fun g d s wide ord scope => f (c g d s wide ord scope)) w := by
  unfold dXATCAS
  split
  · simp only [zero, flag, withG, withV, withOct, withEven, withTDst, lit, map_need, map_opt, map_ok]
  · rfl

theorem map_dXATF {α β : Type} (f : α → β) (c : Guard → GReg → GReg → Ord4 → Scope → α) (w : Nat) :
    (dXATF c w).map f = dXATF (fun g d s ord scope => f (c g d s ord scope)) w := by
  unfold dXATF
  split
  · simp only [zero, flag, withG, withV, withOct, withEven, withTDst, lit, map_need, map_opt, map_ok]
  · rfl

theorem map_dXFENCE {α β : Type} (f : α → β) (c : Guard → Ord4 → Scope → α) (w : Nat) :
    (dXFENCE c w).map f = dXFENCE (fun g ord scope => f (c g ord scope)) w := by
  unfold dXFENCE
  split
  · simp only [zero, flag, withG, withV, withOct, withEven, withTDst, lit, map_need, map_opt, map_ok]
  · rfl

theorem map_dXLDFE {α β : Type} (f : α → β) (c : Guard → GReg → GReg → Code4 → Bool → α) (w : Nat) :
    (dXLDFE c w).map f = dXLDFE (fun g p q size clear => f (c g p q size clear)) w := by
  unfold dXLDFE
  split
  · simp only [zero, flag, withG, withV, withOct, withEven, withTDst, lit, map_need, map_opt, map_ok]
  · rfl

theorem map_dXSTFE {α β : Type} (f : α → β) (c : Guard → GReg → GReg → Code4 → α) (w : Nat) :
    (dXSTFE c w).map f = dXSTFE (fun g p q size => f (c g p q size)) w := by
  unfold dXSTFE
  split
  · simp only [zero, flag, withG, withV, withOct, withEven, withTDst, lit, map_need, map_opt, map_ok]
  · rfl

theorem map_dXFESET {α β : Type} (f : α → β) (c : Guard → GReg → GReg → Bool → α) (w : Nat) :
    (dXFESET c w).map f = dXFESET (fun g p q v => f (c g p q v)) w := by
  unfold dXFESET
  split
  · simp only [zero, flag, withG, withV, withOct, withEven, withTDst, lit, map_need, map_opt, map_ok]
  · rfl

theorem map_dXTEST {α β : Type} (f : α → β) (c : Guard → GReg → BitNo → GReg → α) (w : Nat) :
    (dXTEST c w).map f = dXTEST (fun g p b q => f (c g p b q)) w := by
  unfold dXTEST
  split
  · simp only [zero, flag, withG, withV, withOct, withEven, withTDst, lit, map_need, map_opt, map_ok]
  · rfl

theorem map_dXG {α β : Type} (f : α → β) (c : Guard → α) (w : Nat) :
    (dXG c w).map f = dXG (fun g => f (c g)) w := by
  unfold dXG
  split
  · simp only [zero, flag, withG, withV, withOct, withEven, withTDst, lit, map_need, map_opt, map_ok]
  · rfl

theorem map_dXSB {α β : Type} (f : α → β) (c : Guard → SReg → Oct → α) (w : Nat) :
    (dXSB c w).map f = dXSB (fun g n q => f (c g n q)) w := by
  unfold dXSB
  split
  · simp only [zero, flag, withG, withV, withOct, withEven, withTDst, lit, map_need, map_opt, map_ok]
  · rfl

theorem map_dXSU {α β : Type} (f : α → β) (c : Guard → SReg → α) (w : Nat) :
    (dXSU c w).map f = dXSU (fun g n => f (c g n)) w := by
  unfold dXSU
  split
  · simp only [zero, flag, withG, withV, withOct, withEven, withTDst, lit, map_need, map_opt, map_ok]
  · rfl

theorem map_dXTR {α β : Type} (f : α → β) (c : Guard → TEntry → Oct → α) (w : Nat) :
    (dXTR c w).map f = dXTR (fun g e q => f (c g e q)) w := by
  unfold dXTR
  split
  · simp only [zero, flag, withG, withV, withOct, withEven, withTDst, lit, map_need, map_opt, map_ok]
  · rfl

theorem map_dXTU {α β : Type} (f : α → β) (c : Guard → TEntry → α) (w : Nat) :
    (dXTU c w).map f = dXTU (fun g e => f (c g e)) w := by
  unfold dXTU
  split
  · simp only [zero, flag, withG, withV, withOct, withEven, withTDst, lit, map_need, map_opt, map_ok]
  · rfl

theorem map_dXEN {α β : Type} (f : α → β) (c : Guard → Oct → GReg → α) (w : Nat) :
    (dXEN c w).map f = dXEN (fun g p q => f (c g p q)) w := by
  unfold dXEN
  split
  · simp only [zero, flag, withG, withV, withOct, withEven, withTDst, lit, map_need, map_opt, map_ok]
  · rfl

theorem map_dXQ {α β : Type} (f : α → β) (c : Guard → GReg → α) (w : Nat) :
    (dXQ c w).map f = dXQ (fun g q => f (c g q)) w := by
  unfold dXQ
  split
  · simp only [zero, flag, withG, withV, withOct, withEven, withTDst, lit, map_need, map_opt, map_ok]
  · rfl

theorem map_dXPQ {α β : Type} (f : α → β) (c : Guard → GReg → GReg → α) (w : Nat) :
    (dXPQ c w).map f = dXPQ (fun g p q => f (c g p q)) w := by
  unfold dXPQ
  split
  · simp only [zero, flag, withG, withV, withOct, withEven, withTDst, lit, map_need, map_opt, map_ok]
  · rfl

theorem map_dXCNTRD {α β : Type} (f : α → β) (c : Guard → Dst → α) (w : Nat) :
    (dXCNTRD c w).map f = dXCNTRD (fun g d => f (c g d)) w := by
  unfold dXCNTRD
  split
  · simp only [zero, flag, withG, withV, withOct, withEven, withTDst, lit, map_need, map_opt, map_ok]
  · rfl

theorem map_dXKB {α β : Type} (f : α → β) (c : Guard → KReg → EvenReg → α) (w : Nat) :
    (dXKB c w).map f = dXKB (fun g n q => f (c g n q)) w := by
  unfold dXKB
  split
  · simp only [zero, flag, withG, withV, withOct, withEven, withTDst, lit, map_need, map_opt, map_ok]
  · rfl

theorem map_dXKU {α β : Type} (f : α → β) (c : Guard → KReg → α) (w : Nat) :
    (dXKU c w).map f = dXKU (fun g n => f (c g n)) w := by
  unfold dXKU
  split
  · simp only [zero, flag, withG, withV, withOct, withEven, withTDst, lit, map_need, map_opt, map_ok]
  · rfl

theorem map_dXKS {α β : Type} (f : α → β) (c : Guard → Dst → KReg → α) (w : Nat) :
    (dXKS c w).map f = dXKS (fun g d n => f (c g d n)) w := by
  unfold dXKS
  split
  · simp only [zero, flag, withG, withV, withOct, withEven, withTDst, lit, map_need, map_opt, map_ok]
  · rfl

theorem map_dXP8 {α β : Type} (f : α → β) (c : Guard → Oct → α) (w : Nat) :
    (dXP8 c w).map f = dXP8 (fun g p => f (c g p)) w := by
  unfold dXP8
  split
  · simp only [zero, flag, withG, withV, withOct, withEven, withTDst, lit, map_need, map_opt, map_ok]
  · rfl

theorem table_eq (op w : Nat) :
    (match op with
    | 0x00 => dXNOP .xnop w
    | 0x01 => dXLD .ldg w
    | 0x02 => dXLD .ldgu w
    | 0x03 => dXLD .ldgnc w
    | 0x04 => dXST .stg w
    | 0x05 => dXLDV .ldgv w
    | 0x06 => dXSTV .stgv w
    | 0x07 => dXPF .prefg w
    | 0x08 => dXAT .atadd w
    | 0x09 => dXAT .atmin w
    | 0x0A => dXAT .atmax w
    | 0x0B => dXAT .atminu w
    | 0x0C => dXAT .atmaxu w
    | 0x0D => dXAT .atand w
    | 0x0E => dXAT .ator w
    | 0x0F => dXAT .atxor w
    | 0x10 => dXAT .atxchg w
    | 0x11 => dXATCAS .atcas w
    | 0x12 => dXATF .atfadd w
    | 0x13 => dXATF .atfmax w
    | 0x14 => dXFENCE .fence w
    | 0x15 => dXLDFE .ldfe w
    | 0x16 => dXSTFE .stfe w
    | 0x17 => dXFESET .feset w
    | 0x18 => dXTEST .fetest w
    | 0x19 => dXG .gbar w
    | 0x1A => dXSB .sbind w
    | 0x1B => dXSU .sunbind w
    | 0x1C => dXTR .treg w
    | 0x1D => dXTU .tunreg w
    | 0x1E => dXEN .ecopy w
    | 0x1F => dXEN .emcast w
    | 0x20 => dXEN .egather w
    | 0x21 => dXEN .escatter w
    | 0x22 => dXEN .eplane w
    | 0x23 => dXEN .efeed w
    | 0x24 => dXQ .ewait w
    | 0x25 => dXTEST .etest w
    | 0x26 => dXEN .qpush w
    | 0x27 => dXEN .qpop w
    | 0x28 => dXPQ .qlen w
    | 0x29 => dXQ .cntadd w
    | 0x2A => dXCNTRD .cntrd w
    | 0x2B => dXKB .kbind w
    | 0x2C => dXKU .kunbind w
    | 0x2D => dXKS .kstat w
    | 0x2E => dXQ .susp w
    | 0x2F => dXQ .cres w
    | 0x30 => dXPQ .cresT w
    | 0x31 => dXPQ .ccopy w
    | 0x32 => dXQ .cdrop w
    | 0x33 => dXEN .cinfo w
    | 0x34 => dXEN .kslotld w
    | 0x35 => dXQ .kslotz w
    | 0x36 => dXP8 .glean w
    | 0x37 => dXQ .notify w
    | _ => .error .unassignedOpcode : Dec Instr).map insOf = transferRun op w := by
  match op with
  | 0 => exact map_dXNOP insOf _ w
  | 1 => exact map_dXLD insOf _ w
  | 2 => exact map_dXLD insOf _ w
  | 3 => exact map_dXLD insOf _ w
  | 4 => exact map_dXST insOf _ w
  | 5 => exact map_dXLDV insOf _ w
  | 6 => exact map_dXSTV insOf _ w
  | 7 => exact map_dXPF insOf _ w
  | 8 => exact map_dXAT insOf _ w
  | 9 => exact map_dXAT insOf _ w
  | 10 => exact map_dXAT insOf _ w
  | 11 => exact map_dXAT insOf _ w
  | 12 => exact map_dXAT insOf _ w
  | 13 => exact map_dXAT insOf _ w
  | 14 => exact map_dXAT insOf _ w
  | 15 => exact map_dXAT insOf _ w
  | 16 => exact map_dXAT insOf _ w
  | 17 => exact map_dXATCAS insOf _ w
  | 18 => exact map_dXATF insOf _ w
  | 19 => exact map_dXATF insOf _ w
  | 20 => exact map_dXFENCE insOf _ w
  | 21 => exact map_dXLDFE insOf _ w
  | 22 => exact map_dXSTFE insOf _ w
  | 23 => exact map_dXFESET insOf _ w
  | 24 => exact map_dXTEST insOf _ w
  | 25 => exact map_dXG insOf _ w
  | 26 => exact map_dXSB insOf _ w
  | 27 => exact map_dXSU insOf _ w
  | 28 => exact map_dXTR insOf _ w
  | 29 => exact map_dXTU insOf _ w
  | 30 => exact map_dXEN insOf _ w
  | 31 => exact map_dXEN insOf _ w
  | 32 => exact map_dXEN insOf _ w
  | 33 => exact map_dXEN insOf _ w
  | 34 => exact map_dXEN insOf _ w
  | 35 => exact map_dXEN insOf _ w
  | 36 => exact map_dXQ insOf _ w
  | 37 => exact map_dXTEST insOf _ w
  | 38 => exact map_dXEN insOf _ w
  | 39 => exact map_dXEN insOf _ w
  | 40 => exact map_dXPQ insOf _ w
  | 41 => exact map_dXQ insOf _ w
  | 42 => exact map_dXCNTRD insOf _ w
  | 43 => exact map_dXKB insOf _ w
  | 44 => exact map_dXKU insOf _ w
  | 45 => exact map_dXKS insOf _ w
  | 46 => exact map_dXQ insOf _ w
  | 47 => exact map_dXQ insOf _ w
  | 48 => exact map_dXPQ insOf _ w
  | 49 => exact map_dXPQ insOf _ w
  | 50 => exact map_dXQ insOf _ w
  | 51 => exact map_dXEN insOf _ w
  | 52 => exact map_dXEN insOf _ w
  | 53 => exact map_dXQ insOf _ w
  | 54 => exact map_dXP8 insOf _ w
  | 55 => exact map_dXQ insOf _ w
  | n + 56 => rfl

theorem readTransfer_eq (w : Nat) : readTransfer w = readTransferRun w := by
  unfold readTransfer decodeTransfer readTransferRun
  generalize unpack [13, 6, 21] w = l
  rcases l with _ | ⟨a, _ | ⟨b, _ | ⟨c, _ | ⟨d, l⟩⟩⟩⟩
  · rfl
  · rfl
  · rfl
  · exact table_eq b w
  · rfl

@[csimp] theorem readTransfer_run : @readTransfer = @readTransferRun := funext readTransfer_eq

/-- A slot read, in the order of R24. -/
def readSlot (k : Nat) (w : Nat) : Dec Ins :=
  match k with
  | 0 => (decodeBranch w).map insOf
  | 1 | 2 => (decodeScalar w).map insOf
  | 3 => (decodeAddress w).map insOf
  | 4 | 5 => (decodeVector w).map insOf
  | 6 => (decodeMatrix w).map insOf
  | _ => readTransfer w

end Sys2Proof.Machine
end

