-- ==== Sys2Proof/Machine/Register.lean ====
section
/-!
DEFINITION. Reading code (R49 to R52, R57) and the checks of registration (R84 to R87, R331, R370): a bundle by itself, the
kernel's loops and delay slots, and the paths between checkpoints.
-/
namespace Sys2Proof.Machine

/-! ### Code units (R49) -/

/-- A unit of the code: a bundle from the dictionary, a bundle in the stream, a run of idle bundles. -/
inductive CodeUnit where
  | dict (raw : Nat)
  | lit (raw : Nat)
  | idle (n : Nat)
deriving DecidableEq, Repr

/-- The bundle that 24 code words hold, header first (R50). -/
def rawOf (ws : List W16) : Nat := ws.foldl (fun acc w => acc * 65536 + w.toNat) 0

/-- The unit at a code address, or the check of R84 that rejects it; none outside the code. -/
def Kernel.unitAt (k : Kernel) (a : Nat) : Option (Except Nat (CodeUnit × Nat)) :=
  (k.at a).map fun (w : W16) =>
    if w.toNat < 0x1000 then
      match k.dict[w.toNat]? with
      | some raw => .ok (.dict raw, 1)
      | none => .error 0x01
    else if w = 0xFFFF then
      if a + 24 < k.code.length then .ok (.lit (rawOf ((k.code.drop (a + 1)).take 24)), 25) else .error 0x02
    else if w = 0xFFFE then
      match k.at (a + 1) with
      | some n => .ok (.idle (n.toNat + 1), 2)
      | none => .error 0x02
    else .error 0x01

/-- The units from an address on, in code order, or the check and address that stop the reading. -/
def Kernel.unitsFrom (k : Kernel) : Nat → Nat → Except (Nat × Nat) (List (Nat × CodeUnit))
  | 0, _ => .ok []
  | f + 1, a =>
    match k.unitAt a with
    | none => .ok []
    | some (.error c) => .error (c, a)
    | some (.ok (u, n)) => (k.unitsFrom f (a + n)).map ((a, u) :: ·)

/-- Whether an address is the first code word of a unit. -/
def Kernel.isUnit (k : Kernel) (x : Nat) : Nat → Nat → Bool
  | 0, _ => false
  | f + 1, a =>
    if a = x then true
    else if x < a then false
    else match k.unitAt a with
      | some (.ok (_, n)) => k.isUnit x f (a + n)
      | _ => false

/-! ### A bundle by itself (R58 to R64, R87) -/

/-- The words of the slots, in the order of R24. -/
def slotWords (raw : Nat) : List Nat := ((unpack bundleFmt raw).drop 1).take 8

/-- The slots of a bundle, read. -/
def readSlots (raw : Nat) : List (Dec Ins) := (slotWords raw).zipIdx.map fun (w, k) => readSlot k w

/-- What registration sees of a bundle: header, the slots' uses in the order of R24, the failures of its single-bundle checks
as (check, SLOT of R86). -/
structure BundleUse where
  hdr : Header
  uses : List Use
  errs : List (Nat × Nat)
deriving DecidableEq, Repr

/-- The slots after the first that name a stream or channel already named (R26); a slot may not name one twice either, but for
a beat's pair, which R198 leaves to the run. -/
def repeated (l : List (Nat × Nat)) : List (Nat × Nat) :=
  l.zipIdx.filterMap fun (p, i) =>
    if codeStream p.1 && (l.take i).any (fun q => q.1 == p.1) then some (0x08, p.2 + 1) else none

/-- Whether a slot's word names the immediate pool in its second-source field (R63, R64, R91), whatever else is wrong with it. -/
def namesPool (k w : Nat) : Bool :=
  match k with
  | 1 | 2 => !([0x07, 0x08, 0x0C, 0x2B, 0x2C, 0x2D, 0x2E].contains (bits w 29 6)) && bits w 7 7 == 127
  | 3 => [0x08, 0x09, 0x0A, 0x0B, 0x10, 0x11, 0x13].contains (bits w 22 5) && bits w 14 7 == 127
  | 4 | 5 => !([0x6E, 0x6F, 0x70, 0x71].contains (bits w 36 7)) && bits w 11 8 == 255
  | _ => false

/-- A bundle against checks 0x04 to 0x0A, 0x14, 0x16 and the header's part of 0x0B. A GBAR without YIELD is reported at the transfer slot,
check 0x08 at the later of the two slots (DESIGN CHOICE, log entry 164). -/
def bundleUse (live : List LiveEntry) (owner : Bool) (raw : Nat) : BundleUse :=
  let h := Header.dec (raw / 2 ^ 368)
  let sl := readSlots raw
  let uses := sl.zipIdx.map fun (r, k) => match r with
    | .ok i => i.use k
    | .error _ => { pool := namesPool k ((slotWords raw).getD k 0) }
  let u := uses.zipIdx
  let rd := u.flatMap fun (x, k) => x.rd.map fun c => (c, k)
  let wr := u.flatMap fun (x, k) => x.wr.map fun c => (c.1, k)
  { hdr := h, uses := uses
    errs :=
      (sl.zipIdx.filterMap fun (r, k) => match r with
        | .ok _ => none
        | .error e => some (e.check, k + 1)) ++
      (if raw % 65536 ≠ 0 ∧ !uses.any Use.pool then [(0x05, 9)] else []) ++
      repeated rd ++ repeated wr ++
      (if !h.ckpt && (h.yield || h.live != 0) then [(0x0A, 0)] else []) ++
      (if h.ckpt && decide (live.length ≤ h.live.val) then [(0x0A, 0)] else []) ++
      (if h.yield && (live[h.live.val]?.map LiveEntry.mx).getD false then [(0x0A, 0)] else []) ++
      (if uses.any Use.gbar && !h.yield then [(0x0A, 8)] else []) ++
      (if (if h.first || h.last then decide (5 < h.level.val) else h.level != 0) then [(0x0B, 0)] else []) ++
      (if uses.any Use.priv && !owner then [(0x14, 8)] else []) ++
      (if h.ckpt then u.filterMap fun (x, k) => if x.check then some (0x16, k + 1) else none else []) }

/-- The branch slot of a bundle. -/
def BundleUse.br (b : BundleUse) : BrKind := (b.uses.head?.map Use.br).getD .none

/-- The first slot that reads or writes k0 to k7. -/
def BundleUse.chanSlot (b : BundleUse) : Option Nat :=
  b.uses.zipIdx.findSome? fun (u, k) => if u.rd.any codeChannel || u.wr.any (fun w => codeChannel w.1) then some (k + 1) else none

/-- SLOT of what makes the bundle a required checkpoint (R82). -/
def BundleUse.ckptSlot (b : BundleUse) : Option Nat :=
  if b.hdr.yield then some 0
  else if b.br = .exit then some 1
  else if b.uses.any Use.ckpt then some 8
  else b.chanSlot

/-- SLOT of what a delay-slot position may not hold (R36). -/
def BundleUse.delaySlot (b : BundleUse) : Option Nat :=
  if b.hdr.yield then some 0
  else match b.br with
    | .loop .. | .loopm .. | .exit => some 1
    | _ => if b.uses.any Use.ckpt then some 8 else b.chanSlot

/-! ### Loops (R38 to R43, R120, R121) -/

/-- A loop of the code: its opener, body, whether it is modulo, the body's runs when that is known, whether its body holds a
checkpoint, whether it holds a LEXIT. -/
structure CodeLoop where
  opener : Nat
  start : Nat
  stop : Nat
  modulo : Bool
  runs : Option Nat
  ckpt : Bool
  lexit : Bool
deriving DecidableEq, Repr

/-- A unit with what registration sees of its bundle; an idle run is none. -/
abbrev Seen := Nat × CodeUnit × Option BundleUse

def CodeUnit.count : CodeUnit → Nat
  | .idle n => n
  | _ => 1

/-- The next bundle positions after a unit in code order: (unit, whether it is the last bundle of it), and the units that
follow. -/
def after : List Seen → Nat → List (Seen × Bool) × List Seen
  | us, 0 => ([], us)
  | [], _ + 1 => ([], [])
  | u :: us, n + 1 =>
    let c := u.2.1.count
    if c ≤ n + 1 then
      let (r, rest) := after us (n + 1 - c)
      (List.replicate (c - 1) (u, false) ++ (u, true) :: r, rest)
    else (List.replicate (n + 1) (u, false), u :: us)

/-- The loop that a unit opens, from the units after it, and whether it fails check 0x0D; a body with a level opened inside it is
still a body. -/
def loopOf (a : Nat) (k : BrKind) (rest all : List Seen) : Option CodeLoop × Bool :=
  let (ds, rest) := after rest 2
  let body (stop : Nat) : List Seen := rest.takeWhile fun u => decide (u.1 ≤ stop)
  let mk (start stop : Nat) (modulo : Bool) (runs : Option Nat) : Option CodeLoop :=
    some ⟨a, start, stop, modulo, runs, (body stop).any (fun u => (u.2.2.map fun b => b.hdr.ckpt).getD false),
      (body stop).any fun u => (u.2.2.map fun b => b.br == .lexit).getD false⟩
  let well := ds.length == 2 && (ds.getLast?.map Prod.snd).getD false
  match k, rest with
  | .loop trip off, u :: _ =>
    let stop := ((a : Int) + off).toNat
    if !well || u.2.2.isNone || (a : Int) + off < u.1 || !(all.any fun v => v.1 == stop && v.2.2.isSome) then (none, true)
    else (mk u.1 stop false trip, false)
  | .loopm trip ii sc, u :: _ =>
    let b := rest.take ii
    let dict := b.all fun v => match v.2.1 with
      | .dict _ => true
      | _ => false
    if !well || b.length < ii || !dict then (none, true)
    else
      (mk u.1 (u.1 + ii - 1) true (trip.map fun t => if t = 0 then 0 else t + sc - 1), b.any fun v => match v.2.2.map BundleUse.br with
        | some (.loop ..) => true
        | some (.loopm ..) => true
        | _ => false)
  | .loop .., [] => (none, true)
  | .loopm .., [] => (none, true)
  | _, _ => (none, false)

/-- Loops of the code with their failures. -/
def codeLoops (all : List Seen) : List Seen → List CodeLoop × List (Nat × Nat × Nat)
  | [] => ([], [])
  | u :: us =>
    let (ls, es) := codeLoops all us
    match u.2.2 with
    | none => (ls, es)
    | some b =>
      let (l, bad) := loopOf u.1 b.br us all
      (l.toList ++ ls, if bad then (0x0D, u.1, 1) :: es else es)

/-- The static level of a loop: the other bodies around its body (R41). -/
def staticLevel (ls : List CodeLoop) (l : CodeLoop) : Nat :=
  (ls.filter fun m => m.opener != l.opener && decide (m.start ≤ l.start ∧ l.stop ≤ m.stop)).length

/-- STAGE, FIRST and LAST of a bundle against the bodies that hold it (R41, R43). -/
def levelErr (ls : List CodeLoop) (a : Nat) (h : Header) : Bool :=
  let inside := ls.filter fun l => decide (l.start ≤ a ∧ a ≤ l.stop)
  (h.stage != 0 && !inside.any CodeLoop.modulo) ||
    ((h.first || h.last) && !inside.any fun l => staticLevel ls l == h.level.val)

/-! ### Paths between checkpoints (R25, R28, R85) -/

/-- A position of the program-counter queue on a path: an address with its idle index; none where a register target stands. -/
abbrev PathPos := Option (Nat × Nat)

/-- Where a path stands: the queue, whether the entries of pc, npc and nnpc are annulled (R35), and the counted bodies it is in, the
innermost first, with their runs to come. -/
structure PathNode where
  queue : PathPos × PathPos × PathPos
  annul : Bool × Bool × Bool
  counted : List (CodeLoop × Nat)
deriving DecidableEq, Repr

/-- What is known on every path, or feared on some, that reaches a node: bundles and stores since the checkpoint; latches
that hold a result issued after it and those on their way; writes in flight issued after it, and across it. -/
structure PathFacts where
  dist : Nat
  stores : Nat
  valid : List Nat
  coming : List (Nat × Nat)
  mine : List (Nat × Nat)
  across : List (Nat × Nat)
deriving DecidableEq, Repr

def PathFacts.start : PathFacts := ⟨0, 0, [], [], [], []⟩

def union {α : Type} [BEq α] (a b : List α) : List α := a ++ b.filter fun x => !a.contains x

/-- The issues after which a latch receives the results that a path has sent it: 0 where it holds one. -/
def PathFacts.times (f : PathFacts) (c : Nat) : List Nat :=
  (if f.valid.contains c then [0] else []) ++ f.coming.filterMap fun w => if w.1 = c then some w.2 else none

/-- The issues after which both of two paths have delivered a result. -/
def bothTimes (a b : List Nat) : List Nat :=
  (List.range 16).filter fun t => (a.contains t && b.any (decide <| · ≤ t)) || (b.contains t && a.any (decide <| · ≤ t))

/-- Two paths that meet: a latch holds what the later of the two delivers. -/
def PathFacts.join (a b : PathFacts) : PathFacts :=
  let codes := (List.range 32).map (224 + ·)
  let both (c : Nat) := bothTimes (a.times c) (b.times c)
  ⟨max a.dist b.dist, max a.stores b.stores, codes.filter fun c => (both c).contains 0,
    codes.flatMap fun c => ((both c).filter (· != 0)).map fun t => (c, t), union a.mine b.mine, union a.across b.across⟩

/-- The kernel as the path checks see it. -/
structure PathCode where
  units : List Seen
  loops : List CodeLoop
deriving DecidableEq, Repr

def PathCode.unit (p : PathCode) (a : Nat) : Option Seen := p.units.find? fun u => u.1 == a

/-- The positions that may follow one in the queue, the sequencer included (R34, R39). -/
def PathCode.next (p : PathCode) (counted : List (CodeLoop × Nat)) (x : Nat × Nat) : List (PathPos × List (CodeLoop × Nat)) :=
  match p.unit x.1 with
  | some (_, .idle n, _) => if x.2 + 1 < n then [(some (x.1, x.2 + 1), counted)] else [(some (x.1 + 2, 0), counted)]
  | some (_, .lit _, _) => go (x.1 + 25) counted
  | _ => go (x.1 + 1) counted
where
  go (plain : Nat) : List (CodeLoop × Nat) → List (PathPos × List (CodeLoop × Nat))
    | [] => (some (plain, 0), []) :: (p.loops.filter fun l => l.stop == x.1 && (l.ckpt || l.runs.isNone)).map fun l => (some (l.start, 0), [])
    | (l, n) :: ls =>
      if l.stop = x.1 then
        if 1 < n then (some (l.start, 0), (l, n - 1) :: ls) :: (if l.lexit then go plain ls else [])
        else go plain ls
      else [(some (plain, 0), (l, n) :: ls)]

/-- Whether the bundle of a unit may issue none of its slots: by stage, FIRST or LAST (R41, R43). -/
def PathCode.maySuppress (p : PathCode) (a : Nat) (b : Option BundleUse) : Bool :=
  (b.any fun x => x.hdr.stage != 0 || x.hdr.first || x.hdr.last) || p.loops.any fun l => l.modulo && decide (l.start ≤ a ∧ a ≤ l.stop)

/-- The nodes that follow a bundle without effect on the queue; `an` annuls the two entries behind it. -/
def PathCode.falls (p : PathCode) (n : PathNode) (ls : List (CodeLoop × Nat)) (an : Bool) : List PathNode :=
  let q1 := n.queue.2.1
  let q2 := n.queue.2.2
  let flags := (n.annul.2.1 || an, n.annul.2.2 || an, false)
  match q2 with
  | none => [⟨(q1, q2, none), flags, ls⟩]
  | some x => (p.next ls x).map fun r => ⟨(q1, q2, r.1), flags, r.2⟩

/-- The nodes that follow a bundle whose branch slot acts. -/
def PathCode.acts (p : PathCode) (n : PathNode) (k : BrKind) (an : Bool) : List PathNode :=
  let a := (n.queue.1.map Prod.fst).getD 0
  let goes (x : PathPos) (ls : List (CodeLoop × Nat)) : PathNode := ⟨(n.queue.2.1, n.queue.2.2, x), (n.annul.2.1, n.annul.2.2, false), ls⟩
  match k with
  | .exit | .trap => []
  | .jump off t =>
    let y := ((a : Int) + off).toNat
    (if t = some false then [] else [goes (some (y, 0)) (n.counted.dropWhile fun l => !decide (l.1.start ≤ y ∧ y ≤ l.1.stop))]) ++
      (if t = some true then [] else p.falls n n.counted an)
  | .reg t => (if t = some false then [] else [goes none []]) ++ (if t = some true then [] else p.falls n n.counted an)
  | .loop .. | .loopm .. =>
    match p.loops.find? fun l => l.opener == a with
    | none => []
    | some l =>
      let enter := [goes (some (l.start, 0)) (if l.ckpt then n.counted else match l.runs with
        | some t => (l, t) :: n.counted
        | none => n.counted)]
      let skip := (p.next n.counted (l.stop, 0)).map fun r => goes r.1 r.2
      match l.runs with
      | some 0 => skip
      | some _ => enter
      | none => enter ++ skip
  | _ => p.falls n n.counted false

/-- The nodes that may follow a bundle: an annulled bundle's branch slot does not act, and one that may be suppressed may not act (R31, R35,
R41, R43). -/
def PathCode.succs (p : PathCode) (n : PathNode) (b : Option BundleUse) : List PathNode :=
  let k := (b.map BundleUse.br).getD .none
  let an := b.any fun x => (x.uses.head?.map Use.annul).getD false
  if n.annul.1 then p.falls n n.counted false
  else p.acts n k an ++ (if k != .none && p.maySuppress ((n.queue.1.map Prod.fst).getD 0) b then p.falls n n.counted false else [])

/-- One issue later: the writes still in flight. -/
def older (l : List (Nat × Nat)) : List (Nat × Nat) := l.filterMap fun w => if 1 < w.2 then some (w.1, w.2 - 1) else none
def landing (l : List (Nat × Nat)) : List Nat := l.filterMap fun w => if w.2 ≤ 1 then some w.1 else none

/-- The facts after a bundle. -/
def PathFacts.issue (f : PathFacts) (b : Option BundleUse) : PathFacts :=
  let uses := (b.map BundleUse.uses).getD []
  let ws := (uses.flatMap Use.wr).filter fun w => w.1 != 0 && !codeStream w.1
  let latches := ws.filter fun w => codeLatch w.1
  let st := (uses.map Use.allStores).foldl (· + ·) 0
  let kept := f.valid.filter fun c => !(landing f.across).contains c
  if (b.map fun x => x.hdr.ckpt).getD false then ⟨0, 0, [], [], [], older (union f.across (union f.mine ws))⟩
  else ⟨f.dist + 1, f.stores + st, union kept (landing (f.coming ++ latches)), older (f.coming ++ latches),
    older (union f.mine ws), older f.across⟩

/-- The failures of checks 0x10 to 0x13 at a bundle (R85, R28, R25). The closing checkpoint bundle counts in its distance (DESIGN CHOICE, log
entry 163). -/
def PathFacts.errs (f : PathFacts) (a : Nat) (b : Option BundleUse) : List (Nat × Nat × Nat) :=
  let u := ((b.map BundleUse.uses).getD []).zipIdx
  let st := (u.map fun x => x.1.allStores).foldl (· + ·) 0
  (if 1024 < f.dist + 1 then [(0x10, a, 15)] else []) ++
    (if 64 < f.stores + st then [(0x11, a, ((u.find? fun x => x.1.allStores != 0).map fun x => x.2 + 1).getD 15)] else []) ++
    u.flatMap fun (x, k) =>
      x.reads.filterMap fun c =>
        if codeLatch c then (if f.valid.contains c then none else some (0x12, a, k + 1))
        else if f.across.any fun w => w.1 == c then some (0x13, a, k + 1)
        else none

/-- Follow every path until nothing new is learnt. -/
def PathCode.explore (p : PathCode) : Nat → List (PathNode × PathFacts) → List (PathNode × PathFacts) → List (Nat × Nat × Nat) →
    List (Nat × Nat × Nat)
  | 0, _, _, es => es
  | _, [], _, es => es
  | fuel + 1, (n, f) :: work, known, es =>
    let old := (known.find? fun x => x.1 == n).map Prod.snd
    let g := match old with
      | some o => o.join f
      | none => f
    if old = some g then p.explore fuel work known es
    else
      let known := (n, g) :: known.filter fun x => x.1 != n
      match n.queue.1 with
      | none => p.explore fuel work known es
      | some x =>
        match p.unit x.1 with
        | none => p.explore fuel work known es
        | some u =>
          let bad := g.errs x.1 u.2.2
          if bad.isEmpty then
            let f1 := g.issue u.2.2
            p.explore fuel ((p.succs n u.2.2).map (fun m => (m, f1)) ++ work) known es
          else p.explore fuel work known (bad ++ es)

/-- Every checkpoint bundle starts paths (R85). -/
def PathCode.starts (p : PathCode) : List (PathNode × PathFacts) :=
  p.units.flatMap fun u =>
    match u.2.2 with
    | some b =>
      if b.hdr.ckpt then
        (p.next [] (u.1, 0)).flatMap fun r => match r.1 with
          | some y => (p.next r.2 y).map fun z => (⟨(some (u.1, 0), some y, z.1), (false, false, false), z.2⟩, PathFacts.start)
          | none => []
      else []
    | none => []

/-- Checks 0x10 to 0x13. -/
def PathCode.errs (p : PathCode) : List (Nat × Nat × Nat) :=
  (p.loops.filterMap fun l => if l.runs.isNone && !l.ckpt then some (0x10, l.opener, 1) else none) ++
    p.explore (2 ^ 40) p.starts [] []

/-! ### The whole (R84 to R86, R370) -/

/-- The least failure: by check, then in code order, then by slot. -/
def leastErr (l : List (Nat × Nat × Nat)) : Option (Nat × Nat × Nat) :=
  l.foldl (fun acc e => match acc with
    | none => some e
    | some b => some (if e.1 < b.1 ∨ (e.1 = b.1 ∧ (e.2.1 < b.2.1 ∨ (e.2.1 = b.2.1 ∧ e.2.2 < b.2.2))) then e else b)) none

/-- The status word of R86. -/
def statusWord (e : Nat × Nat × Nat) : Nat := e.1 * 2 ^ 48 + e.2.1 % 2 ^ 32 * 2 ^ 16 + e.2.2 * 2 ^ 12

/-- The failures that concern a bundle in its place: R82, R36, R37, R41, R43. -/
def placeErrs (units : List Seen) (loops : List CodeLoop) : List Seen → List (Nat × Nat × Nat)
  | [] => []
  | u :: us =>
    (match u.2.2 with
    | none => []
    | some b =>
      (match b.ckptSlot with
        | some k => if b.hdr.ckpt then [] else [(0x0F, u.1, k)]
        | none => []) ++
      (if b.br = .none then [] else (after us 2).1.filterMap fun (d, _) =>
        (d.2.2.bind BundleUse.delaySlot).map fun k => (0x0C, d.1, k)) ++
      (match b.br with
        | .jump off _ => if units.any fun v => (v.1 : Int) == (u.1 : Int) + off then [] else [(0x0E, u.1, 1)]
        | _ => []) ++
      (if levelErr loops u.1 b.hdr then [(0x0B, u.1, 0)] else [])) ++ placeErrs units loops us

/-- The kernel's code with what registration sees of each bundle. -/
def seeUnits (live : List LiveEntry) (owner : Bool) (us : List (Nat × CodeUnit)) : List Seen :=
  us.map fun (a, u) => (a, u, match u with
    | .dict raw => some (bundleUse live owner raw)
    | .lit raw => some (bundleUse live owner raw)
    | .idle _ => none)

/-- Register a kernel's code: the kernel with its MAXIMG, or the status word of its rejection. -/
def checkKernel (k : Kernel) (owner : Bool) (imgmax : Nat) : Except Nat Kernel :=
  match k.unitsFrom (k.code.length + 1) 0 with
  | .error (c, a) => .error (statusWord (c, a, 15))
  | .ok us =>
    if 1048576 < k.code.length ∨ 4096 < k.dict.length then .error (statusWord (0x03, 0xFFFFFFFF, 15))
    else
      let units := seeUnits k.live owner us
      let used := us.filterMap fun u => match u.2 with
        | .dict raw => some raw
        | _ => none
      let idle := (k.dict.filter fun raw => !used.contains raw).flatMap fun raw =>
        (bundleUse k.live owner raw).errs.map fun e => (e.1, 0xFFFFFFFF, e.2)
      let single := units.flatMap fun u => ((u.2.2.map BundleUse.errs).getD []).map fun e => (e.1, u.1, e.2)
      let (loops, le) := codeLoops units units
      let deep := loops.filterMap fun l => if 5 < staticLevel loops l then some (0x0D, l.opener, 1) else none
      let k1 := { k with maximg := maxImg k.live }
      let worst := (k.live.map LiveEntry.bytes).foldl max 0
      let big := if imgmax < k1.maximg then
          [(0x15, ((units.find? fun u => (u.2.2.map fun b =>
            b.hdr.ckpt && (k.live[b.hdr.live.val]?.map LiveEntry.bytes) == some worst).getD false).map Prod.fst).getD 0xFFFFFFFF, 0)]
        else []
      let es := idle ++ single ++ le ++ deep ++ placeErrs units loops units ++ big
      match leastErr (if es.any (fun e => e.1 < 0x10) then es else es ++ PathCode.errs ⟨units, loops⟩) with
      | some e => .error (statusWord e)
      | none => .ok k1

/-- The single-bundle checks that the core applies to a bundle reached through a literal's interior (R87): the lowest that
fails. -/
def interiorErr (k : Kernel) (owner : Bool) (a raw : Nat) : Option Nat :=
  let b := bundleUse k.live owner raw
  let units := match k.unitsFrom (k.code.length + 1) 0 with
    | .ok us => seeUnits k.live owner us
    | .error _ => []
  let lv := if levelErr (codeLoops units units).1 a b.hdr then [(0x0B, a, 0)] else []
  (leastErr (b.errs.map (fun e => (e.1, a, e.2)) ++ lv)).map Prod.fst

end Sys2Proof.Machine
end

