-- ==== Sys2Proof/Machine/Cycle.lean ====
section
/-!
DEFINITION. A core's cycle: fetching the bundle at pc (R37, R52, R54, R87, R88), suppression (R35, R41 to R43), the issue (R20, R33,
R44 to R46, R346), the commit of a checkpoint (R342), the landings of the cycle (R21, R45), and the switch (R224 to R230).
-/
namespace Sys2Proof.Machine

/-! ### Fetch -/

/-- The unit that pc names. -/
inductive Fetched where
  | idle
  | bundle (raw : Nat) (unit : Bool)
deriving DecidableEq, Repr

def Fetched.ckpt : Fetched → Bool
  | .idle => false
  | .bundle raw _ => bitAt raw 383

def Fetched.unit : Fetched → Bool
  | .idle => true
  | .bundle _ u => u

/-- Read the unit at a code address, or the trap that its code word raises (R37, R52). -/
def Kernel.fetch (k : Kernel) (a : Nat) : Except Nat Fetched :=
  match k.unitAt a with
  | none => .error 0x03
  | some (.error _) => .error 0x01
  | some (.ok (.idle _, _)) => .ok .idle
  | some (.ok (.dict raw, _)) => .ok (.bundle raw true)
  | some (.ok (.lit raw, _)) => .ok (.bundle raw (k.isUnit a (k.code.length + 1) 0))

/-- What stands at pc, with the cause that is raised in place of its issue (R37, R52, R54, R87, R88); or the cause of a pc at which no
bundle stands. -/
def State.fetch (s : State) (c : Context) : Except Cause (Fetched × Option Cause) :=
  let k := s.kernel c
  let a := c.w.pc.addr.toNat
  let address : Cause := ⟨0x03, 0, 0, none⟩
  match k.fetch a with
  | .error code => .error (if c.fresh then address else ⟨code, 0, 0, none⟩)
  | .ok b =>
    if c.fresh && !(b.ckpt && k.isUnit a (k.code.length + 1) 0) || c.w.pc.viaReg && !b.ckpt then .ok (b, some address)
    else match b with
      | .bundle raw false => .ok (b, (interiorErr k (c.plot == 0) a raw).map fun check => ⟨0x02, check, 0, none⟩)
      | _ => .ok (b, none)

/-! ### Suppression -/

/-- Whether the header's FIRST and LAST let a bundle's slots issue (R41, R42). -/
def iterOk (levels : List Level) (h : Header) : Bool :=
  if h.first || h.last then
    match levels[h.level.val]? with
    | none => false
    | some l => (!h.first || l.iter == 0) && (!h.last || decide (l.iter + 1 = l.total))
  else true

/-- Whether the stage of a bundle issues (R43): stage 0 of a modulo body only for the first T kernel iterations. -/
def stageOk (c : Context) (h : Header) : Bool :=
  if h.stage = 0 then
    match c.w.levels.getLast? with
    | some l =>
      match l.modulo with
      | some _ => !decide (l.start.toNat ≤ c.w.pc.addr.toNat ∧ c.w.pc.addr.toNat ≤ l.stop.toNat) || decide (l.iter < l.trip.toNat)
      | none => true
    | none => true
  else c.w.sp.getLsbD h.stage.val

/-- Whether a bundle issues none of its slots. -/
def suppressed (c : Context) (h : Header) : Bool := c.w.pc.annul || !iterOk c.w.levels h || !stageOk c h

/-! ### Earlier accesses of the interval (R284) -/

/-- The cause that a withheld global store meets (R264, R284). -/
def State.storeCause (s : State) (core : Nat) (c : Context) (st : Store) : Option Cause :=
  match s.storeTr core c st with
  | .fault code a => some ⟨code, if st.at?.isSome then 2 else 1, a, some (st.caddr, st.slot)⟩
  | _ => none

/-- The first access of the interval, in program order, that meets a cause. -/
def State.accessCause (s : State) (core : Nat) (c : Context) : Option Cause :=
  let l := (c.buf.filterMap fun st => (s.storeCause core c st).map fun t => (2 * st.after, t)) ++
    (c.loads.filterMap fun l => if l.covered then none else (s.loadCause core c l).map fun t => (2 * l.id + 1, t))
  (l.foldl (fun acc x => match acc with
    | none => some x
    | some y => some (if x.1 < y.1 then x else y)) none).map Prod.snd

/-- The ranges of the interval's global accesses that wait for a translation. -/
def State.untranslated (s : State) (core : Nat) (c : Context) : List (Nat × Nat) :=
  (c.buf.filterMap fun st => match s.storeTr core c st with
    | .wait => some (st.addr, st.bytes.length)
    | _ => none) ++
  c.loads.filterMap fun l => match s.loadTr core c l with
    | .wait => some (l.addr, l.size)
    | _ => none

/-- Whether the commit's scratchpad writes wait: for an acquire of an earlier bundle, or for a release store of an earlier interval that
is still in the commit queue (R289, R290). `old` is the context before the bundle. -/
def padWaits (old c : Context) : Bool :=
  c.buf.any (fun st => st.space == .spad) &&
    (old.cq.any Store.rel || c.loads.any fun l => l.acq && l.isGlobal && decide (l.id < old.nextLoad))

/-- What keeps a checkpoint bundle from its commit after its slots have acted: a cause of its own access, a translation, a comparison of the
interval, room in the commit queue, an order (R284, R289, R290, R342). -/
def State.commitHalt (s : State) (core : Nat) (old c : Context) : Option Halt :=
  match s.accessCause core c with
  | some t => some (.trap t)
  | none =>
    match s.untranslated core c with
    | (a, n) :: _ => some (.freeze .checkpoint (some (.walk a n)) .nothing)
    | [] => if old.checksDue || !c.cqRoom || padWaits old c then some (.freeze .checkpoint none .nothing) else none

/-! ### The slots of a bundle (R20, R24, R346) -/

/-- The issue in progress at one slot. -/
def State.atSlot (s : State) (k : Nat) : State := { s with iss := { s.iss with slot := k } }

/-- A detected data error of a later slot comes before the cause of an earlier one (R346). -/
def laterError (s : State) (c : Context) : List (Nat × Slot) → Option (Nat × Halt)
  | [] => none
  | (k, f) :: r =>
    match f (s.atSlot k) c with
    | .error (.dataErr code check) => some (k, .dataErr code check)
    | .ok c1 => laterError s c1 r
    | .error _ => laterError s c r

/-- The slots in the order of R24: the context they leave, or the first stop with its slot. -/
def runSlots (s : State) (c : Context) : List (Nat × Slot) → Except (Nat × Halt) Context
  | [] => .ok c
  | (k, f) :: r =>
    match f (s.atSlot k) c with
    | .ok c1 => runSlots s c1 r
    | .error (.trap t) => .error ((laterError s c r).getD (k, .trap t))
    | .error h => .error (k, h)

/-- Whether a register that a code of registration names disagrees with its parity. -/
def ParityErr.codeBad (p : ParityErr) (code : Nat) : Bool :=
  if code = 0 then false
  else if code < 64 then p.gBad (Fin.ofNat 64 code)
  else if code < 80 then p.aBad (Fin.ofNat 16 (code - 64))
  else if code < 96 then p.mBad (Fin.ofNat 16 (code - 80))
  else if code < 224 then p.vBad (Fin.ofNat 128 (code - 96))
  else false

/-- Whether a slot that executes reads a register whose parity disagrees (R31, R354). -/
def Use.meetsParity (u : Use) (a : Arch) : Bool :=
  match u.guard with
  | some g => a.parity.codeBad (rG g.reg) || ((a.gval g.reg).getLsbD g.bit.val == g.sense && u.rd.any a.parity.codeBad)
  | none => u.rd.any a.parity.codeBad

/-- A slot's meaning, whose cause gives way to a parity error of any register that the slot reads (R346). -/
def Ins.slot (k : Nat) (i : Ins) : Slot := fun s c =>
  match i.run s c with
  | .error (.trap t) => .error (if (i.use k).meetsParity c.w then .dataErr 0x16 4 else .trap t)
  | r => r

/-- The meanings in a bundle's slots; a registered bundle has no slot that fails to decode. -/
def bundleSlots (raw : Nat) : List (Nat × Slot) :=
  (readSlots raw).zipIdx.map fun (r, k) => (k, match r with
    | .ok i => i.slot k
    | .error e => fun _ _ => cause 0x02 e.check)

/-! ### The issue (R33) -/

/-- The header of what was fetched; an idle bundle's is zero (R51). -/
def Fetched.hdr : Fetched → Header
  | .idle => Header.dec 0
  | .bundle raw _ => Header.dec (raw / 2 ^ 368)

/-- The state in which the slots of a bundle read. -/
def State.beginIssue (s : State) (core x : Nat) (answer : Bool) (c : Context) (b : Fetched) : State :=
  { s with iss :=
    { core := core, ctx := x, slot := 0, caddr := c.w.pc.addr, ckpt := b.ckpt, answer := answer
      pool := match b with
        | .idle => 0
        | .bundle raw _ => BitVec.ofNat 16 raw } }

/-- The context after its bundle has issued: the queue and the sequencer moved on, the counts kept (R33, R45). -/
def Context.issued (k : Kernel) (ckpt : Bool) (next : Nat) (c : Context) : Context :=
  ({ c with
    st := .running, fresh := false, cycle := c.cycle + 1, frozenFor := 0, parkOn := none
    handed := false, copying := none, fenceWaits := none
    buf := if ckpt then c.buf.map fun st => { st with acqAfter := next } else c.buf
    ver := c.ver.map fun v => { v with issues := v.issues + 1 } } : Context).queueAfter k

/-- Whether a write in flight is to a register that a YIELD can mark. -/
def Wr.onReg : Wr → Bool
  | .g r _ => r != 0
  | .gbit r _ _ => r != 0
  | .a .. => true
  | .m .. => true
  | .v .. => true
  | .vscacc .. => true
  | .drained .. => true
  | _ => false

/-- A YIELD bundle is releasable (R228), by the context before and after its issue and by its live list. What it marks pending itself does
not count, nor do results in flight, which R230 lets land. -/
def State.releasable (s : State) (old c : Context) (le : LiveEntry) : Bool :=
  let k := s.kernel c
  let a := c.w
  let solo := ((s.group c.group).map fun g => g.members.length == 1).getD false
  let e := PcEntry.at a.pc.addr
  solo && le.g &&& ~~~(0xFC#64) == 0 && !le.t0 && !le.t1 && !le.mx && le.pads.isEmpty &&
    a.pc.idle == 0 && !a.pc.annul && !a.npc.annul && !a.nnpc.annul &&
    a.npc.addr == (k.next e).addr && a.npc.idle == (k.next e).idle && a.nnpc.addr == (k.next (k.next e)).addr &&
    a.nnpc.idle == (k.next (k.next e)).idle &&
    (match k.fetch a.pc.addr.toNat with
      | .ok b => b.ckpt
      | .error _ => false) &&
    a.levels.isEmpty && c.bind.toList.all Option.isNone && c.chan.toList.all (fun n => n.route.isNone) && a.tt.isEmpty &&
    c.post.all (fun p => match p with
      | .bind _ (some _) => false
      | _ => true) &&
    c.loads.all (fun l => l.gd.isEmpty && l.vd.isNone) && !(old.marked Wr.onReg) &&
    [1, 2, 4, 5, 6].all (fun n => (c.flags.getD n .zero).bits == 0) && c.fixcnt.toList.all (· == 0) && c.cstat == 0 &&
    a.rmode == 0 && a.seed == 0 && a.tole == 0xF0 && a.t0.ty == .i32 && a.t1.ty == .i32

/-- What is left of the cycle after an issue. -/
def cycleRest (core : Nat) (h : Header) (releasable : Bool) : List Micro :=
  (if h.ckpt then [.commit core h.live] else []) ++ [.land core] ++ (if h.yield then [.yield core releasable] else [])

/-- The bundle's own effect, or the stop that replaces it with its slot, in the order of R346: a data error of a slot, a cause of the bundle
itself or of a result that falls due, one of an earlier access, the slots' causes. A suppressed bundle runs no slot, its guards included, and
so never freezes for one (DESIGN CHOICE, log entry 162). -/
def State.issueBundle (s : State) (core : Nat) (c : Context) (b : Fetched) (early : Option Cause) : Except (Nat × Halt) Context :=
  let slots := match b with
    | .idle => []
    | .bundle raw _ => if suppressed c b.hdr then [] else bundleSlots raw
  let c0 := { c with br := .none }
  match early.or (if b.ckpt then s.accessCause core c else none) with
  | some t => .error ((laterError s c0 slots).getD (8, .trap t))
  | none =>
    match runSlots s c0 slots with
    | .error e => .error e
    | .ok c1 =>
      match (if b.ckpt then s.commitHalt core c c1 else none) with
      | some h => .error (8, h)
      | none => .ok (c1.issued (s.kernel c) b.ckpt c.nextLoad)

/-! ### Verification (R355 to R358) -/

/-- The owner's information record of a verification. -/
def State.verRecord (s : State) (x code : Nat) (v : Verification) : State :=
  (s.writeRecord .owner (trapRecord x ((s.ctx x).rollback) code .info (slotCode v.slot) v.check v.faddr.toNat 0 0)).2

/-- Pre-empt a group at once (R376, R381). -/
def State.preemptNow (s : State) (gid : Nat) : State :=
  match s.group gid with
  | none => s
  | some g =>
    match g.stop with
    | some st => (s.setStop gid g { st with atCheckpoint := false }).stopOthers g (8 * 640)
    | none =>
      let (obj, us, s1) := s.takeUnits g.plot g.members.length
      (s1.setStop gid g ⟨.preempt, obj, us, s.tick, false, s.groupEff gid g, false, []⟩).stopOthers g (8 * 640)

/-- Whether a context holds or is to hold a strand. -/
def Context.hasStrand (c : Context) : Bool := c.st != .free && c.st != .draining

/-- The contexts of a core that a restore has been given go back: its group waits in the list again (R357). -/
def State.unplace (s : State) (core : Nat) : State :=
  let mine (x : Saved) : Bool := x.place.any fun y => coreOfCtx y == core
  let back := (s.restore.flatMap fun e => e.2.filter mine).flatMap Saved.place
  back.foldl State.freeCtx { s with restore := s.restore.map fun e => (e.1, e.2.map fun x => if mine x then { x with place := [] } else x) }

/-- Retire a core: every group with a context on it is pre-empted, the core is offline, the owner is told (R357). -/
def State.retire (s : State) (x : Nat) (v : Verification) : State :=
  let core := coreOfCtx x
  let s1 := s.verRecord x 0x32 v
  let s2 := (s1.setCtx x { (s1.ctx x).rollback with ver := none, st := .ready }).unplace core
  let gids := (List.range 8).filterMap fun k =>
    match s2.ctxs.find (core * 8 + k) with
    | some c => if c.hasStrand then some c.group else none
    | none => none
  let s3 := gids.eraseDups.foldl State.preemptNow s2
  s3.setCore core { s3.core core with offline := true, running := none }

/-- The results in flight land, for the signature of a run whose commit is held back. -/
def Context.drained (c : Context) : Context := (List.range 64).foldl (fun c _ => c.advance) c.advance.addStrides

/-- The interval's closing bundle in a rerun, whose commit is held back: run A's signatures are kept and run B starts; run B's decide. `c` is
the context before the bundle and `v` the verification after it. -/
def State.closeRun (s : State) (x : Nat) (c : Context) (v : Verification) : State :=
  match v.a with
  | none =>
    s.setCtx x { c.rollback with
      st := .running, cycle := c.cycle + 1
      ver := some { v with runB := true, sigIn := 0, sigOut := 0, issues := 0, a := some (v.sigIn, v.sigOut, v.issues) } }
  | some (i, o, n) =>
    if i ≠ v.sigIn then s.setCtx x { c with ver := some { v with decided := some 0x31 } }
    else if o = v.sigOut ∧ n = v.issues then s.setCtx x { c with ver := some { v with decided := some 0x30 } }
    else s.retire x v

/-- The issue of what was fetched, its commit to follow at once. A bundle that EXITs without CKPT, which only a literal's interior can hold
(R87), ends its strand and commits nothing (DEDUCED, log entry 180). -/
def State.issuePlain (s : State) (core x : Nat) (c : Context) (b : Fetched) (early : Option Cause) : State :=
  match s.issueBundle core c b early with
  | .error (k, h) => { s.halt x h k c.w.pc.addr with micro := [.land core] }
  | .ok c1 =>
    if c1.br == .exit && !b.ckpt then { (s.setCtx x { c1 with buf := [], post := [], br := .none }).strandEnds x with micro := [.land core] }
    else
      let le := (s.kernel c).live.getD b.hdr.live.val ⟨0, false, false, false, []⟩
      { s.setCtx x c1 with micro := cycleRest core b.hdr (b.hdr.yield && s.releasable c c1 le) }

/-- The issue of what was fetched. The closing bundle of a rerun ends the run in place of its commit; the run that has passed the comparison
issues it in the ordinary way (R355). -/
def State.issueFetched (s : State) (core x : Nat) (answer : Bool) (c : Context) (b : Fetched) (early : Option Cause) : State :=
  let s1 := s.beginIssue core x answer c b
  if b.ckpt && c.ver.any fun v => v.decided.isNone then
    match s1.issueBundle core c b early with
    | .error (k, h) => { s1.halt x h k c.w.pc.addr with micro := [.land core] }
    | .ok c1 =>
      match c1.drained.ver with
      | none => s1
      | some v =>
        let s2 := s1.closeRun x c v
        if (s2.ctx x).ver.any fun v => v.decided.isSome then s2.issuePlain core x (s2.ctx x) b none else { s2 with micro := [.land core] }
  else s1.issuePlain core x c b early

/-- What a core meets before it fetches: an error in the shadow, a fatal failure (R360, R417), which a commit that has begun lets wait; a
detected data error, which waits for its verification (R355). An error due with a result is raised with the bundle's own causes (R346,
R356). -/
def State.issueCtx (s : State) (core x : Nat) (answer : Bool) : State :=
  let c := s.ctx x
  if c.shadowErr then { s.fatal x 0x10 0 with micro := [.land core] }
  else match (if c.handed then none else c.failure) with
    | some (arg, off) => { s.fatal x arg off with micro := [.land core] }
    | none =>
      if c.raised.any fun t => t.code == 0x16 || t.code == 0x17 then s
      else match s.fetch c with
        | .error t => { s.takeTrap x t 8 c.w.pc.addr with micro := [.land core] }
        | .ok (b, early) => s.issueFetched core x answer c b (early.or c.raised)

/-! ### Share accounts (R424) -/

/-- One cycle is charged to the gang of the context that holds the core. -/
def State.charge (s : State) (core x : Nat) : State :=
  let c := s.ctx x
  let k := s.core core
  let key := gangKey c.plot (gangOf c.taskid)
  s.setCore core { k with share := { k.share with charged := k.share.charged.set key (k.share.charged.get key 0 + 1) } }

/-- The account that a charge has just filled. -/
def State.shareFull (s : State) (core x : Nat) : Bool :=
  let c := s.ctx x
  let sh := (s.core core).share
  let key := gangKey c.plot (gangOf c.taskid)
  sh.charged.get key 0 == sh.share.get key 0 && sh.share.get key 0 != 0

/-- The context that holds a core and issues. -/
def State.issuer (s : State) (core : Nat) : Option Nat :=
  match (s.core core).running with
  | none => none
  | some k =>
    match (s.ctx (core * 8 + k.val)).st with
    | .running | .frozen _ => some (core * 8 + k.val)
    | _ => none

/-- A core's cycle up to its issue. -/
def State.issueOn (s : State) (core : Nat) (answer : Bool) : State :=
  match s.issuer core with
  | none => s
  | some x =>
    let s1 := ({ s with due := s.due.filter (· != core) } : State).charge core x
    let s2 := s1.issueCtx core x answer
    if s1.shareFull core x then { s2 with micro := s2.micro ++ [.share core (s.ctx x).plot (gangOf (s.ctx x).taskid)] } else s2

/-! ### The commit (R342) -/

/-- One entry of the buffer takes effect: scratchpad bytes, full-empty changes; a global entry goes to the commit queue
(R245, R341). -/
def State.commitStore (core x : Nat) (s : State) (st : Store) : State :=
  match st.space with
  | .hbm => let c := s.ctx x; s.setCtx x { c with cq := c.cq ++ [{ st with dev := s.devOf x c st }] }
  | .spad =>
    let s1 := s.performPad core st
    match st.fe with
    | some (a, n, v) => s1.setGranules core a n v
    | none => s1

/-- The arrival of a member at its group's barrier (R233). -/
def State.arrive (s : State) (x : Nat) : State :=
  let c := s.ctx x
  match s.group c.group with
  | none => s
  | some g =>
    ((s.setCtx x { c with st := .barrier }).setGroup c.group
      { g with arrived := g.arrived.set (memberOf c.taskid) true }).barrierCheck c.group

/-- An engine operation handed over (R297), after the stores that its context has committed (R295). -/
def State.handOver (s : State) (x : Nat) (op : Nat) (d : List W64) (cpl : Nat) (qcw : W64) (tole : BitVec 8) : State :=
  let c := s.ctx x
  let s1 := s.setGranules (coreOfCtx x) cpl 1 false
  { s1 with
    nextEngine := s1.nextEngine + 1
    engines := s1.engines ++
      [{ id := s1.nextEngine, op := op, owner := .context x, fork := (x, c.nextStore), plot := c.plot, gen := c.gen, core := coreOfCtx x, desc := d, cpl := cpl
         stage := stageOf c.taskid, tole := tole, qcw := qcw, pos := 0, fix := 0, flags := 0, failed := [], cause := none
         noted := false, stopAsked := false, saved := false, mask := 0, wseq := 0, src := [], scales := [], soft := [] }] }

/-- SUSP: the issuer stops at this checkpoint, the others at once; a pre-emption under way gives way to it (R387, R393); the members'
feed operations are asked to stop (R312). -/
def State.doSusp (s : State) (x a : Nat) : State :=
  let c := s.ctx x
  match s.group c.group with
  | none => s
  | some g =>
    let s1 := match g.stop with
      | some st => s.giveUnits c.plot st.units
      | none => s
    let h := s.objHeader (dieOf (coreOfCtx x)) c.plot a
    let reuse := (h.map fun h => s.objGenuine c.plot h a && (h.state == 2 || h.state == 3)).getD false
    let st : Stop := ⟨.susp (memberOf c.taskid) reuse ((h.map ObjHeader.objid).getD 0) ((h.map ObjHeader.version).getD 0), a, [], s.tick, false,
      s.groupEff c.group g, false, []⟩
    let s2 := ((s1.setStop c.group g st).stopOthers g x).stopNow x
    { s2 with engines := s2.engines.map fun e =>
        if e.op = 0x23 && g.members.any fun y => e.owner == .context y then { e with stopAsked := true } else e }

/-- One deferred effect of the bundle that has just committed. -/
def State.doPost (x : Nat) (s : State) : Post → State
  | .bind n b =>
    let c := s.ctx x
    s.setCtx x { c with
      bind := c.bind.set n b
      w := { c.w with spos := c.w.spos.set n 0 }, sh := { c.sh with spos := c.sh.spos.set n 0 } }
  | .engine op d cpl qcw tole => s.handOver x op d cpl qcw tole
  | .glean start len cpl =>
    let s1 := s.setGranules (coreOfCtx x) cpl 1 false
    { s1 with jobs := s1.jobs ++ [⟨start, len, start, some (coreOfCtx x, cpl)⟩] }
  | .qpush v rec =>
    let c := s.ctx x
    match s.queueName c.plot v with
    | some (.task q) => s.queuePut c.plot q rec
    | some (.run cl) => s.pushRun cl c.plot rec
    | none => s
  | .gbar => s.arrive x
  | .susp a => s.doSusp x a
  | .cres a => s.doCres x a
  | .ccopy d a => s.doCcopy x d a
  | .cdrop a => s.doCdrop x a
  | .kslotld k key => { s with keys := s.keys.set k key }
  | .kslotz k => s.dropKey k
  | .notify v => s.interrupt (s.ctx x).plot v
  | .timeRead t =>
    let c := s.ctx x
    let p := s.plot c.plot
    s.setPlot c.plot { p with tp := max p.tp t }

/-- A load that a checkpoint covers: its marks and its translation are those of the checkpoint (R25, R284, R285). -/
def State.coverLoad (s : State) (core : Nat) (c : Context) (l : Load) : Load :=
  { l with
    covered := true, shGd := l.gd, shVd := l.vd
    dev := if !l.kind.global then [] else match s.loadPieces core c l with
      | .ok ps => ps
      | _ => [] }

/-- The shadow takes the working state, and everything in flight is covered, the strides of this cycle among it (R25, R39, R342). -/
def Context.commitShadow (cover : Load → Load) (live : Fin 64) (c : Context) : Context :=
  let w := { c.w with tt := c.w.tt.filter (fun e => !c.w.tun.contains e.1), tun := [] }
  { c with
    w := w, sh := w, buf := [], live := live
    fly := c.fly.map fun f => { f with covered := true }
    strides := c.strides.map fun st => (st.1, true)
    loads := c.loads.map cover }

/-- The granules that the interval's pops emptied (R254). -/
def State.clearPopped (s : State) (core : Nat) (l : List (Nat × Nat)) : State :=
  l.foldl (fun s g => s.setGranules core g.1 g.2 false) s

/-- A checkpoint's commit, accepted (R342), under the live list of its header (R59). What the context's die has written so far is before
its later releases: its engines' writes that it has joined are among it (R295, R402); a release still queued is not made to wait for more. -/
def State.commit (s : State) (core x : Nat) (live : Fin 64) : State :=
  let c := s.ctx x
  let s0 := match c.ver.bind fun v => v.decided.map fun code => (code, v) with
    | some (code, v) => s.verRecord x code v
    | none => s
  let s1 := (c.buf.foldl (State.commitStore core x) s0).clearPopped core c.clearing
  let c1 := s1.ctx x
  let wseq := if c.cq.any Store.rel then c.wseq else s1.dieSeq (dieOf core)
  let s2 := s1.setCtx x { c1.commitShadow (s1.coverLoad core c1) live with post := [], br := .none, ver := none, wseq := wseq }
  let s3 := c1.post.foldl (State.doPost x) s2
  match c1.br with
  | .exit => s3.strandEnds x
  | _ => s3

/-- A member of a group that stops does so at the checkpoint it has committed (R358, R376). -/
def State.stopHere (s : State) (x : Nat) : State :=
  match s.group (s.ctx x).group with
  | some g => if g.stop.isSome && g.members.contains x then s.stopNow x else s
  | none => s

/-! ### The landings of a cycle (R21, R45, R226) -/

/-- Values that are due after cycles come nearer (R280). A cycle in which the context is frozen counts: a bundle frozen for the value
itself would never issue otherwise, and no bundle can tell, because one that reads the destination waits for it (DEDUCED, log
entry 32). -/
def Context.duePass (c : Context) : Context := { c with loads := c.loads.map fun l => { l with due := l.due - 1 } }

/-- Whether a context's results go on to land: those of a frozen one only for the comparisons that its checkpoint waits for (R45). -/
def Context.landsFrozen (c : Context) : Bool :=
  match c.st with
  | .frozen .checkpoint => c.checksDue
  | .frozen _ => false
  | _ => true

/-- The landings of one context: of a frozen one, only the results that a YIELD has marked go on (R227). -/
def Context.landCycle (c : Context) : Context := (if c.landsFrozen then c.advance.addStrides else c.advanceMarked).duePass

/-- The landings of a core's cycle, and the end of it. -/
def State.landCore (s : State) (core : Nat) : State :=
  let s1 := (List.range 8).foldl (fun s k =>
    match s.ctxs.find (core * 8 + k) with
    | some c => if c.st = .free then s else s.setCtx (core * 8 + k) c.landCycle
    | none => s) s
  let k := s1.core core
  let w := s1.shareReg.toNat
  s1.setCore core { k with cycle := k.cycle + 1, share := { k.share with pos := if w ≤ k.share.pos then 0 else k.share.pos + 1 } }

/-! ### The switch (R224 to R229) -/

/-- Whether a context may be chosen. -/
def Context.candidate (c : Context) : Bool := c.st == .ready && !c.releasing

/-- Whether the first of two contexts is chosen before the second (R224). -/
def State.before (s : State) (x y : Nat) : Bool :=
  let a := s.ctx x
  let b := s.ctx y
  decide (s.eff y < s.eff x) || (s.eff x == s.eff y && (decide (a.readyAt < b.readyAt) || (a.readyAt == b.readyAt && decide (x < y))))

/-- The context that a core chooses. -/
def State.choice (s : State) (core : Nat) : Option Nat :=
  (((List.range 8).map (core * 8 + ·)).filter fun x => (s.ctx x).candidate).foldl (fun acc x => match acc with
    | none => some x
    | some y => some (if s.before x y then x else y)) none

/-- Give the core to the context chosen, if there is one. -/
def State.choose (s : State) (core : Nat) : State :=
  match s.choice core with
  | none => s
  | some x =>
    (s.setCtx x { s.ctx x with st := .running, since := s.tick }).setCore core
      { s.core core with running := some (Fin.ofNat 8 x) }

/-- Whether a releasable yield releases (R229). -/
def State.releaseWanted (s : State) (core x : Nat) : Bool :=
  let c := s.ctx x
  c.migrate ||
    (!(s.runQueue (clusterOf core) c.plot).isEmpty && !(List.range 8).any (fun k => s.isFree (core * 8 + k)) &&
      (s.runQueue (clusterOf core) c.plot).any fun r =>
        decide (s.eff x < s.recordLevel (dieOf core) c.plot (gangOf (r.words.getD 1 0))))

/-- The YIELD of the bundle that has just committed: latches, array and marks (R195, R226, R227), the state that follows, entered in the
cycle that its landings have ended (R220), and the release (R229). -/
def State.yieldCtx (s : State) (core x : Nat) (releasable : Bool) : State :=
  let c := s.ctx x
  let c1 := { c with
    latch := .replicate 16 0, vlatch := .replicate 16 0
    fly := c.fly.map fun f => { f with marked := true }
    w := { c.w with work := .zero, drain := .zero }, sh := { c.sh with work := .zero, drain := .zero } }
  let ready (s : State) : State := s.setCtx x { c1 with
    st := .ready, readyAt := s.cycleNow core, releasing := releasable && s.releaseWanted core x }
  match c.st with
  | .running => ((ready s).release x).stopHere x
  | .ready => ((ready s).release x).stopHere x
  | .barrier => ((s.setCtx x c1).release x).stopHere x
  | _ => s.setCtx x c1

/-! ### The end of a cycle (R361, R376, R393) -/

/-- The groups whose members' traps of this cycle wait for no other member's cycle. -/
def State.trapGroups (s : State) : List Nat :=
  s.groups.filterMap fun (gid, g) =>
    if (g.members.any fun y => (s.ctx y).trapped.isSome) && !g.members.any s.cycleDue then some gid else none

/-- Whether a context holds its core. -/
def Context.onCore (c : Context) : Bool :=
  match c.st with
  | .running => true
  | .frozen _ => true
  | _ => false

/-- A core's cycle is over: a strand that has left it with a fatal failure ends (R417), its contexts stop that a stop has reached, and traps
are delivered that waited for it. -/
def State.cycleEnd (s : State) (core : Nat) : State :=
  let s1 := (List.range 8).foldl (fun s k =>
    match s.ctxs.find (core * 8 + k) with
    | some c =>
      match c.failure, c.onCore with
      | some (arg, off), false => if c.hasStrand then s.fatal (core * 8 + k) arg off else s
      | _, _ => if c.hasStrand && c.st != .stopped && c.st != .loading then s.stopDue (core * 8 + k) else s
    | none => s) s
  s1.trapGroups.foldl State.deliverTraps s1

/-! ### The machine steps of a core -/

/-- A member of a lower MEMBER whose cycle of this base tick is still to come: its cycle is decided first (R361, R393). -/
def State.lowerDue (s : State) (x : Nat) : Bool :=
  match s.group (s.ctx x).group with
  | none => false
  | some g => (g.members.takeWhile (· != x)).any s.cycleDue

/-- Whether a core's issue waits for that of a lower member. -/
def State.issueWaits (s : State) (core : Nat) : Bool := ((s.issuer core).map s.lowerDue).getD false

/-- ISSUE_BUNDLE (R33): when the core holds a context. -/
def execIssueBundle (c : CoreId) (s : State) : St State :=
  .next (if s.micro.isEmpty && !s.issueWaits c.val then s.issueOn c.val false else s)

/-- CHECKPOINT_COMMIT (R342): due after the issue of a checkpoint bundle. -/
def execCheckpointCommit (c : CoreId) (s : State) : St State :=
  .next (match s.micro with
    | .commit core live :: r =>
      if core = c.val then
        let s1 := { s with micro := r }
        match s1.issuer core with
        | none => s1
        | some x =>
          let s2 := s1.commit core x live
          if r.any fun m => m matches .yield .. then s2 else s2.stopHere x
      else s
    | _ => s)

/-- FIXED_LATENCY_LANDING (R21): the landings of a core's cycle. -/
def execFixedLatencyLanding (c : CoreId) (s : State) : St State :=
  .next (match s.micro with
    | .land core :: r =>
      if core = c.val then
        let s1 := ({ s with micro := r } : State).landCore core
        if r.any fun m => m matches .yield .. then s1 else s1.cycleEnd core
      else s
    | _ => s)

/-- YIELD (R224): the switch at the end of a YIELD bundle's cycle. -/
def execYield (c : CoreId) (s : State) : St State :=
  .next (match s.micro with
    | .yield core rel :: r =>
      if core = c.val then
        let s1 := { s with micro := r }
        let s2 := match (s1.core core).running with
          | some k => s1.yieldCtx core (core * 8 + k.val) rel
          | none => s1
        let s3 := s2.cycleEnd core
        match (s3.core core).running with
        | none => s3.choose core
        | some _ => s3
      else s
    | _ => s)

/-- IDLE_CORE_CHOICE (R225): a core that no context holds chooses, or passes its cycle. -/
def execIdleCoreChoice (c : CoreId) (s : State) : St State :=
  .next (match s.micro with
    | [] =>
      match (s.core c.val).running with
      | some _ => s
      | none =>
        match s.choice c.val with
        | some _ => s.choose c.val
        | none => { s with micro := [.land c.val], due := s.due.filter (· != c.val) }
    | _ => s)

/-- SHARE_WINDOW_START (R424): every gang resident on the core gets its share, and accounts start at 0. -/
def execShareWindowStart (c : CoreId) (s : State) : St State :=
  let k := s.core c.val
  if k.share.pos = 0 then
    let keys := ((List.range 8).filterMap fun i =>
      match s.ctxs.find (c.val * 8 + i) with
      | some x => if x.st = .free ∨ x.st = .draining then none else some (gangKey x.plot (gangOf x.taskid))
      | none => none).eraseDups
    let sh : Tab Nat := keys.foldl (fun t key => t.set key (s.shareReg.toNat / keys.length)) []
    let left := (k.share.share.filter fun e => !s.spent c.val e.1).map Prod.fst
    .next (s.setCore c.val { k with share := ⟨1, sh, [], [], left⟩ })
  else .next s

/-- SHARE_EXHAUSTED (R424): the gang's boost on the core is 0 for the rest of the window. -/
def execShareExhausted (c : CoreId) (plot : PlotNo) (gang : Nat) (s : State) : St State :=
  let k := s.core c.val
  let key := gangKey plot (gang % 65536)
  if k.share.share.get key 0 ≤ k.share.charged.get key 0 then
    .next (s.setCore c.val { k with share := { k.share with spent := setInsert k.share.spent key } })
  else .next s

end Sys2Proof.Machine
end

