-- ==== Sys2Proof/Machine/Landing.lean ====
section
/-!
DEFINITION. The machine steps of the memory system: values landing (R23, R271, R289), committed writes and atomics performed (R274, R286 to
R290), the home stacks and the dies (R399 to R402), walks (R262 to R265), the stream fetcher (R247, R252), refresh (R258).
-/
namespace Sys2Proof.Machine

/-! ### Order among accesses (R287 to R290) -/

/-- Whether two byte ranges meet. -/
def rangesMeet (a n b m : Nat) : Bool := decide (a < b + m ∧ b < a + n)

/-- Whether an operation reads or writes global memory. -/
def LoadKind.memory (k : LoadKind) : Bool := k.global || k == .atomic

/-- Whether an access waits for an earlier one: an acquire, or one of bytes of its own (R287, R289, R293). -/
def Load.waitsFor (l e : Load) : Bool :=
  decide (e.id < l.id) && l.kind.memory && (e.acq || (e.kind.memory && rangesMeet l.addr l.size e.addr e.size))

/-- Whether an earlier access orders this one later; one that has met a cause, which its interval will raise, orders nothing. -/
def State.ordered (s : State) (core : Nat) (c : Context) (l : Load) : Bool :=
  c.loads.any fun e => l.waitsFor e && (s.loadCause core c e).isNone

/-- The value that the bytes read give with the bytes of the context's own stores (R271). -/
def ownOver (own : List (Option Byte)) (bs : List Byte) : List Byte :=
  bs.zipIdx.map fun (b, i) => ((own[i]?).getD none).getD b

/-- The check field of CINFO (R391), and whether the right to read is missing. -/
def State.cinfoWord (s : State) (c : Context) (l : Load) (bs : List Byte) (sl : Nat) : Nat × Bool :=
  let h := readHeader bs
  let a := decide (sl = s.sealAt c.plot h.objid h.w3 l.addr)
  let b := h.magicOk
  let p := decide (h.plotOf = s.plotid c.plot)
  (setBits h.w0 0 16 (a.toNat + 2 * b.toNat + 4 * p.toNat), a && b && p && !s.rightHeld c.plot h 3)

/-- What an outstanding operation finds: it still waits, it fails, or its words. -/
inductive Arrived where
  | wait
  | fails (t : Cause)
  | words (l : List W64)
  | row (r : Row)
deriving DecidableEq, Repr

/-- The bytes of a global load as the die sees them, unless its translation or a word keeps them back. -/
def State.globalBytes (s : State) (core : Nat) (c : Context) (l : Load) : Option (List Byte) :=
  match s.loadPieces core c l with
  | .ok ps => if s.ueOpen ps l.own then none else some (s.readPieces (dieOf core) ps)
  | _ => none

/-- What a load of the context at x finds now. -/
def State.arrived (s : State) (x : Nat) (c : Context) (l : Load) : Arrived :=
  let core := coreOfCtx x
  if l.fail.isSome then .wait
  else match l.got with
    | some ws => .words ws
    | none =>
      match l.kind with
      | .mem signed _ =>
        match s.globalBytes core c l with
        | none => .wait
        | some bs =>
          let v := ownOver l.own bs
          if l.size = 512 then .row (rowOfBytes v)
          else .words [BitVec.ofNat 64 (if signed then sext (8 * l.size) 64 (ofBytes v) else ofBytes v)]
      | .cinfo =>
        match s.globalBytes core c l with
        | none => .wait
        | some bs =>
          let (w0, bad) := s.cinfoWord c l (bs.take 64) (ofBytes (slice bs 64 16))
          if bad then .fails ⟨0x1A, 3, 0, some (l.caddr, l.slot)⟩
          else .words (BitVec.ofNat 64 w0 :: (bytesWords 8 bs).drop 1)
      | .qlen q =>
        match s.queueName c.plot q with
        | some (.task n) => .words [BitVec.ofNat 64 ((s.queue c.plot n).elim 0 fun q => q.slot.length + q.heathLen)]
        | some (.run cl) => .words [BitVec.ofNat 64 (s.runQueue cl c.plot).length]
        | none => .words [0]
      | _ => .wait

/-- A value lands in a copy of the state: the registers still live. -/
def Arch.landWords (a : Arch) (gd : List (Nat × GReg)) (ws : List W64) : Arch :=
  gd.foldl (fun a d => a.putG d.2 (ws.getD d.1 0)) a
def Arch.landRow (a : Arch) (vd : Option VReg) (r : Row) : Arch :=
  match vd with
  | some v => a.putV v (BitVec.allOnes 4096) r
  | none => a

/-- Whether no register of either copy waits for a load. -/
def Load.unwanted (l : Load) : Bool := l.gd.isEmpty && l.vd.isNone && (!l.covered || (l.shGd.isEmpty && l.shVd.isNone))

/-- The landing of a value (R23, R25): the record goes; each copy takes the value in the registers still live in it, the shadow when a
checkpoint has covered the operation. A verification takes the value in and its register writes out (R355). -/
def Context.landLoad (c : Context) (l : Load) (w sh : Arch → Arch) (vals : List W64) (wrote : List W64) : Context :=
  (({ c with
      loads := c.loads.filter fun e => e.id != l.id
      w := w c.w
      sh := if l.covered then sh c.sh else c.sh } : Context).takeIn vals).giveOut wrote

/-- The words of a result signature for landed registers. -/
def sigLanded (gd : List (Nat × GReg)) (ws : List W64) : List W64 :=
  gd.flatMap fun d => [BitVec.ofNat 64 d.2.val, ws.getD d.1 0]

/-- Whether a load may take its value now. -/
def State.mayTake (s : State) (x : Nat) (c : Context) (l : Load) : Bool := l.due == 0 && !s.ordered (coreOfCtx x) c l

/-- One operation of a context lands if its value is there and nothing orders it later. -/
def State.landValue (s : State) (x : Nat) (c : Context) (l : Load) : State :=
  if !s.mayTake x c l then s
  else if l.unwanted && l.covered && l.kind.global then s.setCtx x (c.landLoad l id id [] [])
  else
    match s.arrived x c l with
    | .wait => s
    | .fails t => s.setCtx x { c with loads := c.loads.map fun e => if e.id = l.id then { e with fail := some t } else e }
    | .words ws => s.setCtx x (c.landLoad l (·.landWords l.gd ws) (·.landWords l.shGd ws) ws (sigLanded l.gd ws))
    | .row r => s.setCtx x (c.landLoad l (·.landRow l.vd r) (·.landRow l.shVd r) (wordsOfRow r)
        (l.vd.elim [] fun v => BitVec.ofNat 64 (256 + v.val) :: wordsOfRow r))

/-- Lane k of a load of 512 bytes takes its four bytes ahead of the others (R286). -/
def State.takeLane (s : State) (x : Nat) (c : Context) (l : Load) (k : Nat) : State :=
  if l.size ≠ 512 ∨ 128 ≤ k ∨ !s.mayTake x c l then s
  else match s.globalBytes (coreOfCtx x) c l with
    | none => s
    | some bs =>
      let own := ((List.range 512).zip (ownOver l.own bs)).map fun (i, b) => if i / 4 = k then some b else (l.own[i]?).getD none
      s.setCtx x { c with loads := c.loads.map fun e => if e.id = l.id then { e with own := own } else e }

/-- LOAD_VALUE_LANDING (R23): operation n of a context lands; or, of 512 bytes, lane k ahead of the others, by n and k + 1 (R286). -/
def execLoadValueLanding (x : CtxId) (n : Nat × Nat) (s : State) : St State :=
  let c := s.ctx x.val
  .next (match c.loads[n.1]? with
    | some l => if n.2 = 0 then s.landValue x.val c l else s.takeLane x.val c l (n.2 - 1)
    | none => s)

/-! ### Committed writes (R286 to R290, R341) -/

/-- Whether a store waits for an earlier load of a byte of its own to take its value, so that no read goes back and none returns a later
write of its own context (R287, R293); one that has met a cause takes none. -/
def State.awaited (s : State) (core : Nat) (c : Context) (st : Store) (l : Load) : Bool :=
  decide (l.id < st.after) && l.kind.memory && l.got.isNone && rangesMeet l.addr l.size st.addr (max st.bytes.length 1) &&
    (s.loadCause core c l).isNone

/-- Whether entry n of a commit queue may be performed now (R287, R289, R290, R407). -/
def State.mayPerform (s : State) (core : Nat) (c : Context) (n : Nat) (st : Store) : Bool :=
  let before := c.cq.take n
  !(before.any fun e => e.rel || e.acq || rangesMeet e.addr (max e.bytes.length 1) st.addr (max st.bytes.length 1)) &&
    !(c.loads.any fun l => (l.acq && decide (l.id < st.acqAfter)) || s.awaited core c st l) &&
    (!st.rel || (before.isEmpty && s.reached core c.wseq (c.unacked.filter fun k => decide (k < st.sent)) st.scope &&
      !c.loads.any fun l => l.kind.memory && decide (l.id < st.after)))

/-- Whether a die holds an unnumbered write of its own to a line (R401). -/
def Die.unnumbered (d : Die) (a : Nat) : Bool := d.out.any fun o => o.addr % 2 ^ 48 / 128 == a % 2 ^ 48 / 128

/-- An atomic at its home stack (R274, R275, R399): the old value, and the state with the element replaced. -/
def State.atomicAt (s : State) (d a : Nat) (r : AtReq) : W64 × State :=
  let n := if r.wide then 8 else 4
  let old := ofBytes (s.homeRead a n)
  let new := r.kind.new (8 * n) old (r.a.toNat % 2 ^ (8 * n)) (r.b.toNat % 2 ^ (8 * n))
  let (a1, bs, s1) := s.lineAs s.mem a (toBytes n new)
  let die := s1.die d
  let clk := die.clock.set d (die.clock.getD d 0 + 1)
  let s2 := s1.setDie d { die with clock := clk, view := die.view.write a1 bs }
  (BitVec.ofNat 64 old, ((s2.homeWrite d clk a1 bs).2).ueClear a1 bs.length)

/-- A committed entry leaves its queue; a barrier may have waited for it (R234). -/
def State.performed (s : State) (x : Nat) (n : Nat) (f : Context → Context) : State :=
  let c := s.ctx x
  let s1 := s.setCtx x (f { c with cq := c.cq.eraseIdx n, wseq := s.dieSeq (dieOf (coreOfCtx x)) })
  s1.barrierCheck c.group

/-- Bytes from an offset on of device pieces. -/
def pieceSlice : List (Nat × Nat) → Nat → Nat → List (Nat × Nat)
  | [], _, _ => []
  | (a, n) :: l, off, len =>
    if len = 0 then []
    else if n ≤ off then pieceSlice l (off - n) len
    else (a + off, min len (n - off)) :: pieceSlice l 0 (len - (n - off))

/-- Lane k of a committed store of 512 bytes is performed (R286). -/
def State.performLane (s : State) (x n : Nat) (st : Store) (k : Nat) : State :=
  let core := coreOfCtx x
  let s1 := s.writePieces (dieOf core) (pieceSlice st.dev (4 * k) 4) (slice st.bytes (4 * k) 4)
  let c := s1.ctx x
  s1.setCtx x { c with wseq := s1.dieSeq (dieOf core), cq := c.cq.modify n fun e => { e with lanes := setInsert e.lanes k } }

/-- One entry of a commit queue takes effect, but for the lanes already performed. -/
def State.performEntry (s : State) (x n : Nat) (st : Store) : State :=
  let d := dieOf (coreOfCtx x)
  match st.at? with
  | none =>
    if st.lanes.isEmpty then (s.writePieces d st.dev st.bytes).performed x n id
    else (((List.range 128).filter fun k => !st.lanes.contains k).foldl (fun s k => s.performLane x n st k) s).performed x n id
  | some r =>
    let a := (st.dev.headD (0, 0)).1
    if (s.die d).unnumbered a then s
    else
      let (old, s1) := s.atomicAt d a r
      s1.performed x n fun c => { c with loads := c.loads.map fun l => if l.id = r.load then { l with got := some [old] } else l }

/-- COMMIT_QUEUE_PERFORM (R341, R288): entry n of a context's commit queue; or, of 512 bytes, lane k ahead of the others, by n and k + 1
(R286). -/
def execCommitQueuePerform (x : CtxId) (n : Nat × Nat) (s : State) : St State :=
  let c := s.ctx x.val
  .next (match c.cq[n.1]? with
    | some st =>
      if !s.mayPerform (coreOfCtx x.val) c n.1 st then s
      else if n.2 = 0 then s.performEntry x.val n.1 st
      else if st.bytes.length = 512 ∧ st.at?.isNone ∧ n.2 ≤ 128 ∧ !st.lanes.contains (n.2 - 1) then s.performLane x.val n.1 st (n.2 - 1)
      else s
    | none => s)

/-! ### Home stacks and dies (R399 to R401) -/

/-- HOME_STACK_PERFORM (R399): write n of a die, the earliest of its line there. -/
def execHomeStackPerform (d : DieId) (n : Nat) (s : State) : St State :=
  let die := s.die d.val
  .next (match die.out[n]? with
    | none => s
    | some o =>
      if (die.out.take n).any fun e => e.addr % 2 ^ 48 / 128 == o.addr % 2 ^ 48 / 128 then s
      else
        let s1 := s.setDie d.val { die with out := die.out.eraseIdx n }
        (s1.homeWrite d.val o.clock o.addr o.bytes).2)

/-- Whether a die may apply an update (R400, R401). -/
def Die.applies (d : Die) (u : Update) : Bool :=
  u.clock.getD u.src 0 == d.clock.getD u.src 0 + 1 &&
    ((List.range 4).all fun k => k == u.src || decide (u.clock.getD k 0 ≤ d.clock.getD k 0)) && !d.unnumbered u.addr

/-- The bytes of an update that no write of a higher number, the die's own or one applied before it, covers (R287, R401). -/
def Die.applyBytes (d : Die) (u : Update) : Memory :=
  u.bytes.zipIdx.foldl (fun m (b, i) =>
    if d.own.any fun w => w.addr ≤ u.addr + i && decide (u.addr + i < w.addr + w.len) && decide (u.number < w.number) then m
    else m.set (u.addr + i) b) d.view

/-- DIE_UPDATE_APPLY (R400, R401): update n of those that wait at a die. -/
def execDieUpdateApply (d : DieId) (n : Nat) (s : State) : St State :=
  let die := s.die d.val
  .next (match die.updates[n]? with
    | none => s
    | some u =>
      if die.applies u then
        s.setDie d.val ({ die with
          view := die.applyBytes u
          clock := die.clock.set u.src (u.clock.getD u.src 0)
          own := die.own ++ [⟨u.addr, u.bytes.length, u.number⟩]
          updates := die.updates.eraseIdx n } : Die).prune
      else s)

/-! ### Walks (R262 to R265) -/

/-- TRANSLATION_WALK (R265): the die's unit walks a page of a plot and caches the answer, failures included, with the entries that it has
read. -/
def execTranslationWalk (d : DieId) (plot : PlotNo) (page : Nat) (s : State) : St State :=
  let gen := (s.plot plot.val).gen.toNat
  let same (e : TlbEntry) : Bool := e.die == d.val && e.plot == plot.val && e.page == page
  .next (if 2 ^ 40 ≤ page then s
    else
      let (r, w) := s.walkReads d.val plot.val (page * 65536)
      { s with tlb := s.tlb.filter (fun e => !same e) ++ [⟨d.val, plot.val, gen, page, w⟩], reads := r })

/-! ### The stream fetcher (R247, R249, R252) -/

/-- The position of the next element to fetch, when there is room for it and it may be read: after its previous pop (R252). -/
def State.fetchable (s : State) (core : Nat) (c : Context) (n : SReg) (b : Binding) : Option Nat :=
  let pos := c.w.spos[n] + b.buf.length
  let a := b.addr pos
  let reads := b.kind == 0 || b.kind == 2 || b.kind == 3 || b.kind == 4
  if !reads || decide (4 ≤ b.buf.length) || b.ended pos || (!b.isQueue && decide (b.total ≤ b.buf.length)) then none
  else if b.kind = 4 then
    if decide (b.depth ≤ b.buf.length + (c.w.spos[n] - c.sh.spos[n])) || !s.allFull core a b.size then none else some pos
  else if b.few && !(s.allFull core a b.size && (b.kind == 0 || b.header.isSome || s.allFull core b.base 64)) then none
  else some pos

/-- SPECIAL and PLANES of a plane tile's header (R191). -/
def planeHeader (l : List Byte) : Nat × Nat := (ofBytes (slice l 16 16), 4 * (bits (ofBytes (slice l 0 8)) 2 2 + 1))

/-- What a granule of an element holds now, with a word that cannot be read (R252, R356). -/
def State.readGranule (s : State) (core a size k : Nat) : Element :=
  let lo := max a (a / 16 * 16 + 16 * k)
  let hi := min (a + size) (a / 16 * 16 + 16 * k + 16)
  ⟨s.mem.read (spadBase core + lo) (hi - lo), if s.ueHit (spadBase core + lo) (hi - lo) then some lo else none⟩

/-- An element from its granules. -/
def Element.join (l : List Element) : Element := ⟨l.flatMap Element.bytes, l.findSome? Element.bad⟩

/-- The binding once its next element has been read, a plane tile's header with the first. -/
def State.fetchElement (s : State) (core : Nat) (b : Binding) (a : Nat) : Binding :=
  let e := Element.join ((List.range (granules a b.size)).map fun k => (b.part.find k).getD (s.readGranule core a b.size k))
  let first := (b.kind == 2 || b.kind == 3) && b.header.isNone
  let hb := if first && s.ueHit (spadBase core + b.base) 64 then some b.base else none
  { b with
    buf := b.buf ++ [{ e with bad := hb.or e.bad }], part := []
    header := if first then some (planeHeader (s.mem.read (spadBase core + b.base) 64)) else b.header }

/-- STREAM_FETCH (R247, R252): one element ahead of a stream register; or granule k of it ahead of the others, by the register and k + 1. -/
def execStreamFetch (x : CtxId) (sr : SReg × Nat) (s : State) : St State :=
  let n := sr.2
  let c := s.ctx x.val
  let core := coreOfCtx x.val
  .next (match c.bind[sr.1] with
    | none => s
    | some b =>
      match s.fetchable core c sr.1 b with
      | none => s
      | some pos =>
        let a := b.addr pos
        let b1 := if n = 0 then s.fetchElement core b a
          else if n ≤ granules a b.size then { b with part := b.part.set (n - 1) (s.readGranule core a b.size (n - 1)) }
          else b
        s.setCtx x.val { c with bind := c.bind.set sr.1 (some b1) })

/-! ### Refresh (R258) -/

/-- The next bank's window opens, once the microsecond of the bank before has gone: the timer stands 64 µs up at such a moment. -/
def Die.nextBank (d : Die) : Die :=
  if d.refreshNs < 64000 then d else { d with refreshNs := (d.refreshNs - 64000 + 1000) % 64000 }

/-- REFRESH_WINDOW_ADVANCE (R258): when the microsecond of the bank before has gone. -/
def execRefreshWindowAdvance (d : DieId) (s : State) : St State := .next (s.setDie d.val (s.die d.val).nextBank)

end Sys2Proof.Machine
end

