-- ==== Sys2Proof/Machine/Strands.lean ====
section
/-!
DEFINITION. The machine steps of strands: parking and its end (R47, R255, R320), starting strands from records (R55, R222, R223, R231), release
(R230), the end of a strand (R123), and a verification (R355 to R358).
-/
namespace Sys2Proof.Machine

/-! ### Parking (R47, R255, R320) -/

/-- SPINLIM (R422). -/
def State.spinlim (s : State) : Nat := bits s.spinReg.toNat 0 32

/-- SPINLIM_PARK (R47): the context that has frozen the core for reason 2, 3 or 4 for SPINLIM cycles. -/
def execSpinlimPark (c : CoreId) (s : State) : St State :=
  .next (match s.issuer c.val with
    | none => s
    | some x =>
      let k := s.ctx x
      match k.st, k.parkOn with
      | .frozen why, some on =>
        if (why = .stream ∨ why = .channel ∨ why = .fullEmpty) ∧ s.spinlim ≤ k.frozenFor then (s.park x on).choose c.val else s
      | _, _ => s)

/-- Whether what a parked context waits for can move (R47, R255, R320). -/
def State.canMove (s : State) (core : Nat) (c : Context) : ParkOn → Bool
  | .walk .. => true
  | .stream n =>
    match c.bind[n] with
    | none => true
    | some b =>
      let pos := c.w.spos[n]
      let full := s.allFull core (b.addr pos) b.size
      if b.kind = 4 then full else if b.kind = 5 then !full else !b.buf.isEmpty || b.ended pos
  | .channel k recvNeed sendNeed =>
    let ch := c.chan[k]
    decide (recvNeed ≤ ch.recv.length) && decide (ch.sendWords + sendNeed ≤ 64)
  | .granule a full => s.isFull core a == full
  | .queue v =>
    match s.queueName c.plot v with
    | some q => s.wouldAccept c.plot q
    | none => true

/-- A context enters the ready state in its core's present cycle (R220). -/
def State.makeReady (s : State) (x : Nat) : State :=
  s.setCtx x { s.ctx x with st := .ready, readyAt := s.cycleNow (coreOfCtx x), parkOn := none }

/-- PARK_END (R255). -/
def execParkEnd (x : CtxId) (s : State) : St State :=
  let c := s.ctx x.val
  .next (match c.st with
    | .parked on => if s.canMove (coreOfCtx x.val) c on then s.makeReady x.val else s
    | _ => s)

/-- QPUSH_RETRY (R320): once every microsecond while the heath fails. -/
def execQpushRetry (x : CtxId) (s : State) : St State :=
  let c := s.ctx x.val
  .next (match c.st with
    | .parked (.queue v) =>
      match s.queueName c.plot v with
      | some (.task qn) =>
        match s.queue c.plot qn with
        | some q => if q.failing ∧ q.retryAt ≤ s.tick then s.makeReady x.val else s
        | none => s
      | _ => s
    | _ => s)

/-! ### Task queues (R320 to R324) -/

/-- A context that waits for its push's answer (R320). -/
def Context.pushing (c : Context) : Bool :=
  match c.st, c.parkOn with
  | .frozen .checkpoint, some (.queue _) => true
  | _, _ => false

/-- QUEUE_ACCEPT (R320, R323): the home base die answers the push of the context that waits for it. -/
def execQueueAccept (x : CtxId) (s : State) : St State :=
  let core := coreOfCtx x.val
  .next (if s.micro.isEmpty && s.issuer core == some x.val && (s.ctx x.val).pushing then s.issueOn core true else s)

/-- The first pop of a context that has not reached its base die. -/
def Context.popping (c : Context) : Option (Load × W64) :=
  c.loads.findSome? fun l =>
    match l.kind, l.got with
    | .qpop q, none => some (l, q)
    | _, _ => none

/-- QUEUE_HEAD_REMOVE (R321, R323): the head record, or eight zero words; an empty slot before a heath waits, and a frozen queue answers no
pop (R446). -/
def execQueueHeadRemove (x : CtxId) (s : State) : St State :=
  let c := s.ctx x.val
  .next (match c.popping with
    | none => s
    | some (l, v) =>
      let give (s : State) (ws : List W64) : State :=
        s.setCtx x.val { c with loads := c.loads.map fun e => if e.id = l.id then { e with got := some ws } else e }
      match s.queueName c.plot v with
      | some (.task qn) =>
        match s.queue c.plot qn with
        | none => give s (List.replicate 8 0)
        | some q =>
          if s.fnHeld c.plot then s else
          match q.slot with
          | r :: rest => give (s.setQueue c.plot qn { q with slot := rest }) r
          | [] => if q.heathLen = 0 then give s (List.replicate 8 0) else s
      | _ => give s (List.replicate 8 0))

/-- HEATH_REFILL (R323): the heath's head moves to the slot; a failure is tried again after a microsecond. -/
def execHeathRefill (plot : PlotNo) (q : Nat) (s : State) : St State :=
  .next (match s.queue plot.val q with
    | none => s
    | some x =>
      if s.fnHeld plot.val || !x.mapped || x.heathLen == 0 || decide (32 ≤ x.slot.length) || (x.failing && decide (s.tick < x.retryAt)) then s
      else
        match s.heathAt plot.val x x.head true false with
        | .ok a =>
          if s.ueHit a 64 then s.queueFailed plot.val q x 8
          else s.setQueue plot.val q
            { x with slot := x.slot ++ [bytesWords 8 (s.devRead (homeDie x.home) a 64)], head := x.head + 1, failing := false }
        | .error c => s.queueFailed plot.val q x c)

/-- The queues of a base die: plot, number. -/
def State.queuesOf (s : State) (bd : Nat) : List (Nat × Nat × Queue) :=
  s.plots.flatMap fun (p, x) => if x.live then (x.queues.filter fun e => e.2.home == bd).map fun e => (p, e.1, e.2) else []

/-- The time that an unmapped queue has waited, in nanoseconds. -/
def State.waited (s : State) (q : Queue) : Nat := (s.tick - q.waitSince) / 4

/-- Its level (R324). -/
def State.queueLevel (s : State) (q : Queue) : Nat := min (q.ql + s.waited q / s.agePeriod.toNat) 47

/-- A queue waits when it is unmapped and holds a record. -/
def Queue.waits (q : Queue) : Bool := !q.mapped && q.heathLen != 0

/-- The waiting queue to be served first: highest level, oldest first; those of disabled functions are frozen (R446). -/
def State.bestWaiting (s : State) (bd : Nat) : Option (Nat × Nat × Queue) :=
  bestBy (fun (e : Nat × Nat × Queue) => s.queueLevel e.2.2 * 2 ^ 64 + s.waited e.2.2)
    ((s.queuesOf bd).filter fun e => e.2.2.waits && !s.fnHeld e.1)

/-- Map a queue. -/
def State.mapQueue (s : State) (p n : Nat) (q : Queue) : State := s.setQueue p n { q with mapped := true, mappedAt := s.tick }

/-- Fill free slots with waiting queues. -/
def mapFree : Nat → State → Nat → State
  | 0, s, _ => s
  | k + 1, s, bd =>
    match s.bestWaiting bd with
    | some (p, n, q) => mapFree k (s.mapQueue p n q) bd
    | none => s

/-- Evict a queue: its slot's records are written ahead of its heath's head; where the heath cannot be written it stays mapped. -/
def State.evict (s : State) (p n : Nat) (q : Queue) : Option State :=
  let k := q.slot.length
  let up := if q.head < k then q.hcap * ((k - q.head) / max q.hcap 1 + 1) else 0
  let q1 := { q with head := q.head + up, tail := q.tail + up }
  let places := (List.range k).mapM fun i =>
    match s.heathAt p q1 (q1.head - k + i) false true with
    | .ok a => some a
    | _ => none
  places.map fun as =>
    let s1 := (as.zip q.slot).foldl (fun s e => s.devWrite (homeDie q.home) e.1 (wordBytes e.2)) s
    s1.setQueue p n { q1 with slot := [], head := q1.head - k, mapped := false, waitSince := s.tick }

/-- The mapped queues of a base die. -/
def State.mappedOf (s : State) (bd : Nat) : List (Nat × Nat × Queue) := (s.queuesOf bd).filter fun e => e.2.2.mapped

/-- QUEUE_MAPPING_TICK (R324): once every microsecond, on a base die. -/
def execQueueMappingTick (bd : Nat) (s : State) : St State :=
  .next (if s.tick % 4000 ≠ 0 then s
    else
      let s1 := mapFree (1024 - (s.mappedOf bd).length) s bd
      let s2 : State := match s1.bestWaiting bd with
        | none => s1
        | some (p, n, q) =>
          if (s1.mappedOf bd).length < 1024 then s1
          else
            match bestBy (fun (e : Nat × Nat × Queue) => (47 - e.2.2.ql) * 2 ^ 64 + (s.tick - e.2.2.mappedAt))
                ((s1.mappedOf bd).filter fun e => !s.fnHeld e.1) with
            | none => s1
            | some (p0, n0, v) =>
              if s.queueLevel q = 47 ∨ v.ql < s.queueLevel q then
                match s1.evict p0 n0 v with
                | some s' => s'.mapQueue p n q
                | none => s1
              else s1
      if (s2.bestWaiting bd).isSome then
        ((s2.mappedOf bd).filter fun e => e.2.2.slot.isEmpty && e.2.2.heathLen == 0 && !s.fnHeld e.1).foldl
          (fun s e => s.setQueue e.1 e.2.1 { e.2.2 with mapped := false }) s2
      else s2)

/-! ### Records (R221 to R223, R231) -/

def RunRec.word (r : RunRec) (i : Nat) : Nat := (r.words.getD i 0).toNat
def RunRec.kslot (r : RunRec) : Nat := bits (r.word 0) 48 16
def RunRec.entry (r : RunRec) : Nat := bits (r.word 0) 16 32
def RunRec.gsize (r : RunRec) : Nat := bits (r.word 0) 12 4
def RunRec.gang (r : RunRec) : Nat := bits (r.word 1) 48 16
def RunRec.group (r : RunRec) : Nat := bits (r.word 1) 32 16
def RunRec.member (r : RunRec) : Nat := bits (r.word 1) 20 4

/-- The tests of R223. -/
def State.recordOk (s : State) (plot : Nat) (r : RunRec) : Bool :=
  bits (r.word 0) 0 11 == 0 && r.gang != 0 && decide (bits (r.word 1) 24 8 ≤ 7) && decide (r.member ≤ r.gsize) &&
    ((s.plot plot).kernels.find r.kslot).isSome

/-- A record, or a group's records, at a place in a run queue: how many have been read, and whether one breaks R223 or R231. -/
structure RunItem where
  at_ : Nat
  count : Nat
  bad : Bool
deriving DecidableEq, Repr

/-- Whether a record can be member j of the group that another begins. -/
def RunRec.continues (h r : RunRec) (j : Nat) : Bool :=
  r.kslot == h.kslot && r.gang == h.gang && r.group == h.group && r.gsize == h.gsize && r.member == j

/-- The items of a run queue from its head; a group that is not all present ends the list. -/
def State.runItems (s : State) (plot : Nat) : Nat → Nat → List RunRec → List RunItem
  | 0, _, _ => []
  | _, _, [] => []
  | f + 1, n, h :: rest =>
    let l := h :: rest
    let k := h.gsize + 1
    match ((l.take k).zipIdx.find? fun e => !(s.recordOk plot e.1 && h.continues e.1 e.2)) with
    | some (_, j) => ⟨n, j + 1, true⟩ :: s.runItems plot f (n + j + 1) (l.drop (j + 1))
    | none => if l.length < k then [] else ⟨n, k, false⟩ :: s.runItems plot f (n + k) (l.drop k)

/-! ### Waiting work (R382) -/

/-- An item of a cluster's waiting work: a saved group by its place in the restore list, or the records at a place of a plot's run
queue. -/
structure Work where
  level : Nat
  since : Nat
  saved : Bool
  plot : Nat
  n : Nat
  count : Nat
deriving DecidableEq, Repr

/-- The level of a saved group (R382). -/
def State.savedLevel (s : State) (x : Saved) : Nat := min (x.level + (s.tick - x.since) / 4 / s.agePeriod.toNat) 47

def State.restoreList (s : State) (cluster : Nat) : List Saved := s.restore.get cluster []

/-- A cluster's waiting work. -/
def State.works (s : State) (cluster : Nat) : List Work :=
  ((s.restoreList cluster).zipIdx.filterMap fun (x, i) =>
    if x.place.isEmpty && !s.fnHeld x.plot then some ⟨s.savedLevel x, x.since, true, x.plot.val, i, x.strands⟩ else none) ++
  s.plots.flatMap fun (p, _) =>
    let q := s.runQueue cluster p
    (s.runItems p (q.length + 1) 0 q).filterMap fun it =>
      match q[it.at_]? with
      | some r => if it.bad || s.fnHeld p then none else some ⟨s.recordLevel (cluster / 10) p r.gang, r.since, false, p, it.at_, it.count⟩
      | none => none

/-- The cores of a cluster that can take records of a kernel, each with its free context. -/
def State.coresFor (s : State) (cluster plot kslot : Nat) : List (Nat × Nat) :=
  (List.range 16).filterMap fun i =>
    let core := cluster * 16 + i
    if s.coreUsable plot core && (s.dictLoad core (dictKey plot kslot)).isSome then (s.spot core 0).map fun x => (core, x) else none

/-- The images and header of a saved group. -/
def State.savedImages (s : State) (cluster : Nat) (x : Saved) : Option (ObjHeader × List ImageIn) :=
  match s.objHeader (cluster / 10) x.plot x.obj with
  | none => none
  | some h => (s.objImages (cluster / 10) x.plot x.obj h).map fun l => (h, l)

/-- Whether free contexts of the cluster can take an item, within the plot's quota (R374, log entry 179). -/
def State.placeable (s : State) (cluster : Nat) (w : Work) : Bool :=
  if w.saved then
    match (s.restoreList cluster)[w.n]? with
    | none => false
    | some x =>
      match s.savedImages cluster x with
      | none => false
      | some (h, ims) =>
        (s.placeIn cluster x.plot ims).isSome && (!((s.plot x.plot).unitsOf x.obj h).isEmpty || s.quotaOk x.plot ims.length)
  else
    match (s.runQueue cluster w.plot)[w.n]? with
    | none => false
    | some r => decide (w.count ≤ (s.coresFor cluster w.plot r.kslot).length) && s.quotaOk w.plot w.count

/-- The order of waiting work: highest level, then oldest, then saved groups first. -/
def Work.key (now : Nat) (w : Work) : Nat := (w.level * 2 ^ 80 + (now - w.since)) * 2 + w.saved.toNat

/-- The item that the cluster places next. -/
def State.nextWork (s : State) (cluster : Nat) : Option Work :=
  bestBy (Work.key s.tick) ((s.works cluster).filter (s.placeable cluster))

/-! ### Starting strands (R222, R231, R379) -/

/-- The switch estimate E (R375). -/
def switchEst (maximg : Nat) : Nat := 2 * (100 + (maximg + 127) / 128)

/-- SLEFF in nanoseconds, and whether it was raised (R379). -/
def sleff (slice e : Nat) : Nat × Bool := if e ≤ slice then (slice, false) else (2 * e + 256, true)

def State.sleffOf (s : State) (plot kslot : Nat) : Nat × Bool :=
  let p := s.plot plot
  sleff p.policy.slice (switchEst ((p.kernels.find kslot).elim 0 Kernel.maximg))

/-- The context of a strand at the start of its record. -/
def Context.begin (c : Context) (k : Kernel) (plot : PlotNo) (gen : BitVec 16) (r : RunRec) (gid now : Nat) (raised : Bool) : Context :=
  let e := PcEntry.at (BitVec.ofNat 32 r.entry)
  let n := k.next e
  let a : Arch :=
    { Arch.start with
      pc := e, npc := n, nnpc := k.next n
      g := Vector.ofFn fun i =>
        if i.val = 1 then BitVec.ofNat 64 (r.word 0 % 65536)
        else if 2 ≤ i.val ∧ i.val ≤ 7 then r.words.getD i.val 0 else 0 }
  { c.vacated with
    st := .loading, w := a, sh := a, taskid := r.words.getD 1 0, kslot := BitVec.ofNat 16 r.kslot, plot := plot, gen := gen
    cstat := BitVec.ofNat 3 raised.toNat, fresh := true, group := gid, since := now }

/-- Whether a context of the plot is resident. -/
def State.resident (s : State) (plot : Nat) : Bool := s.ctxs.any fun (_, c) => c.plot.val == plot && c.st != .free && c.st != .loading

/-- A context of the plot is about to become resident: at the end of a pause OFF is set so that TIME goes on from the highest value read, or
from a restored object's TSUSP; where none ends, TIME is only kept from falling behind TSUSP (R449). -/
def State.endPause (s : State) (plot tsusp : Nat) : State :=
  let p := s.plot plot
  let o : Int := (max p.tp tsusp : Nat) + 1 - s.devns
  let m : Int := if tsusp = 0 then p.off else max p.off ((tsusp : Int) + 1 - s.devns)
  s.setPlot plot { p with
    pausing := false
    off := if !p.pausing || s.resident plot then m else if p.policy.hidepause then o else max p.off o }

/-- Start a record, or a group's records, in the contexts given, by MEMBER (R222, R231). -/
def State.startRecords (s : State) (plot : PlotNo) (rs : List RunRec) (xs : List Nat) : State :=
  let p := s.plot plot
  let h := rs.headD ⟨[], 0⟩
  let k := (p.kernels.find h.kslot).getD Kernel.empty
  let (sl, raised) := s.sleffOf plot h.kslot
  let gid := s.nextGroup
  let n := rs.length
  let g : Group :=
    { plot := plot, gang := BitVec.ofNat 16 h.gang, index := BitVec.ofNat 16 h.group, members := xs, live := List.replicate n true
      arrived := List.replicate n false, gen := 0, deadline := s.tick + 4 * sl, slice := 4 * sl, checked := false, stop := none }
  (rs.zip xs).foldl (fun s e =>
    let core := coreOfCtx e.2
    let s1 := s.setCtx e.2 ((s.ctx e.2).begin k plot p.gen e.1 gid s.tick raised)
    s1.setCore core { s1.core core with dicts := (s.dictLoad core (dictKey plot.val h.kslot)).getD (s.core core).dicts })
    (let s0 := s.endPause plot 0; { s0.setGroup gid g with nextGroup := gid + 1 })

/-- Take records out of a run queue. -/
def State.cutRun (s : State) (cluster plot n count : Nat) : State :=
  let q := s.runQueue cluster plot
  { s with runq := s.runq.set (runKey cluster plot) (q.take n ++ q.drop (n + count)) }

/-- The task-record fault of records that are discarded (R223, R231). -/
def State.badRecords (s : State) (cluster : Nat) (plot : PlotNo) (it : RunItem) : State :=
  (List.range it.count).foldl (fun s _ =>
    (s.writeRecord (plotLog plot) (bareRecord 0x20 .logged 0 0 0 (plotId (s.plot plot).gen plot) 0 0)).2) (s.cutRun cluster plot it.at_ it.count)

/-- The item of a run queue at a place. -/
def State.itemAt (s : State) (cluster : Nat) (plot : PlotNo) (n : Nat) : Option (RunItem × RunRec) :=
  let q := s.runQueue cluster plot
  match (s.runItems plot (q.length + 1) 0 q).find? (fun it => it.at_ == n), q[n]? with
  | some it, some r => some (it, r)
  | _, _ => none

/-- Whether records at a place are what the cluster places next. -/
def State.isNext (s : State) (cluster : Nat) (plot : PlotNo) (n : Nat) : Bool :=
  match s.nextWork cluster with
  | some w => !w.saved && w.plot == plot.val && w.n == n
  | none => false

/-- TAKE_RECORD (R222, R223): a core takes the record of a group of one into its free context. -/
def execTakeRecord (cl : ClusterId) (plot : PlotNo) (n : Nat) (c : CoreId) (s : State) : St State :=
  .next (match s.itemAt cl.val plot n with
    | none => s
    | some (it, r) =>
      if r.gsize ≠ 0 then s
      else if it.bad then s.badRecords cl.val plot it
      else if !s.isNext cl.val plot n then s
      else match (s.coresFor cl.val plot r.kslot).find? fun e => e.1 == c.val with
        | none => s
        | some (_, x) => (s.cutRun cl.val plot n 1).startRecords plot [r] [x])

/-- GROUP_PLACEMENT (R231): a group as a whole, on distinct cores. -/
def execGroupPlacement (cl : ClusterId) (plot : PlotNo) (n : Nat) (s : State) : St State :=
  .next (match s.itemAt cl.val plot n with
    | none => s
    | some (it, r) =>
      if r.gsize = 0 then s
      else if it.bad then s.badRecords cl.val plot it
      else if !s.isNext cl.val plot n then s
      else
        let rs := ((s.runQueue cl.val plot).drop n).take it.count
        (s.cutRun cl.val plot n it.count).startRecords plot rs (((s.coresFor cl.val plot r.kslot).take it.count).map Prod.snd))

/-- LOADING_COMPLETE (R219, R231): every member of the group becomes ready in one cycle. -/
def execLoadingComplete (x : CtxId) (s : State) : St State :=
  .next (match s.group (s.ctx x.val).group with
    | none => s
    | some g =>
      if g.members.contains x.val && g.members.all fun y => (s.ctx y).st == .loading then g.members.foldl State.makeReady s else s)

/-! ### Leaving a context (R123, R230) -/

/-- A remote reply is awaited: it lands in a receive queue, not in a register (R416). -/
def Load.isReply (l : Load) : Bool :=
  match l.kind with
  | .remote .. => true
  | _ => false

/-- A group that no context is left of goes. -/
def State.dropGroup (s : State) (gid : Nat) : State :=
  match s.group gid with
  | none => s
  | some g => if g.members.all fun y => (s.ctx y).group != gid || (s.ctx y).st == .free then { s with groups := s.groups.erase gid } else s

/-- A context is vacated: its work count goes to REM, its engine operations run on (R123, R317). -/
def State.vacate (s : State) (x : Nat) : State :=
  let gid := (s.ctx x).group
  let s1 := (s.sendWc x).freeCtx x
  ({ s1 with engines := s1.engines.map fun e => if e.owner = .context x then { e with owner := .orphan } else e } : State).dropGroup gid

/-- DRAINING_END (R123): the last result has landed and the last committed write is performed; a value that an error keeps back is not waited
for. -/
def execDrainingEnd (x : CtxId) (s : State) : St State :=
  let c := s.ctx x.val
  .next (if c.st = .draining ∧ c.fly.isEmpty ∧ c.cq.isEmpty ∧ c.loads.all (fun l => l.isReply || (s.loadCause (coreOfCtx x.val) c l).isSome) then s.vacate x.val else s)

/-- RELEASE_AS_RECORD (R230): once every result in flight has landed. -/
def execReleaseAsRecord (x : CtxId) (s : State) : St State :=
  let c := s.ctx x.val
  .next (if c.releasing ∧ c.st = .ready ∧ c.fly.isEmpty ∧ c.loads.all Load.isReply then
      let rec_ := [recW0 c.kslot.toNat c.w.pc.addr.toNat 0 true, c.taskid] ++ (List.range 6).map fun i => c.w.g.getD (i + 2) 0
      (s.pushRun (clusterOf (coreOfCtx x.val)) c.plot rec_).vacate x.val
    else s)

/-! ### Verification (R355 to R358) -/

/-- The start of a verification: back to the checkpoint, alone on the core; a copying that had begun ends. -/
def State.startVer (s : State) (x : Nat) (t : Cause) (p : W32 × Nat) : State :=
  let s := s.endCopy x
  if (s.ctx x).shadowErr then s.fatal x 0x10 0
  else s.setCtx x { (s.ctx x).rollback with
    st := .running
    ver := some { code := t.code, check := t.arg, faddr := p.1, slot := p.2, runB := false, sigIn := 0, sigOut := 0, issues := 0, a := none, decided := none } }

/-- Whether a run has met the cause that started it. -/
def Verification.same (v : Verification) (t : Cause) (p : W32 × Nat) : Bool :=
  t.code == v.code && t.arg == v.check && p.1 == v.faddr && p.2 == v.slot

/-- DATA_ERROR_VERIFICATION (R354, R355, R358): a detected data error starts a verification, or decides the one that runs. -/
def execDataErrorVerification (x : CtxId) (s : State) : St State :=
  let c := s.ctx x.val
  let core := coreOfCtx x.val
  .next (match c.raised with
    | none => s
    | some t =>
      let p := t.at?.getD (c.w.pc.addr, 8)
      if t.code ≠ 0x16 ∧ t.code ≠ 0x17 then s
      else match c.ver with
        | none =>
          if (List.range 8).any fun k => (s.ctx (core * 8 + k)).ver.isSome then s else s.startVer x.val t p
        | some v => if !v.runB && v.same t p then s.takeTrap x.val t p.2 p.1 else s.retire x.val v)

end Sys2Proof.Machine
end

