-- ==== Sys2Proof/Machine/Movers.lean ====
section
/-!
DEFINITION. The engines at work: copies, multicasts, gathers and scatters (R304 to R307), the plane builder (R191 to R193, R308, R309), feed
controllers (R310 to R312), weight loads (R259), completion objects (R299 to R301).
-/
namespace Sys2Proof.Machine

/-! ### Operations -/

def EngineOp.w (e : EngineOp) (i : Nat) : Nat := (e.desc.getD i 0).toNat
def EngineOp.die (e : EngineOp) : Nat := dieOf e.core

def State.engine (s : State) (id : Nat) : Option EngineOp := s.engines.find? fun e => e.id == id
def State.setEngine (s : State) (e : EngineOp) : State :=
  { s with engines := s.engines.map fun x => if x.id = e.id then e else x }

/-- A correction made by the operation's checks (R210, R300). -/
def State.addFix (s : State) (id n : Nat) : State :=
  { s with engines := s.engines.map fun x => if x.id = id then { x with fix := min (x.fix + n) 0xFFFF } else x }

/-- The bytes of device pieces within 64 KiB pages. -/
def devCuts (a n : Nat) : List (Nat × Nat) := pageCuts (n / 65536 + 2) a n

/-! ### Registered regions (R208, R305) -/

/-- The check of a registered region as memory holds it. -/
def State.regionCheck (s : State) (core : Nat) (t : TileEntry) (tole : BitVec 8) : Check :=
  let b := spadBase core
  let g := (List.range t.rows).map fun i => (List.range t.cols).map fun j => s.mem.num (b + t.base + i * t.pitch + 4 * j) 4
  let cs := (List.range t.cols).map fun j => s.mem.num (b + t.area + 4 * j) 4
  let rs := (List.range t.rows).map fun i => s.mem.num (b + t.area + 512 + 4 * i) 4
  checkGrid t.ty tole.toInt t.cols g cs rs (s.mem.num (b + t.area + 768) 4)

/-- Carry out a correction in memory. -/
def State.regionFix (s : State) (core : Nat) (t : TileEntry) (k : Check) : State :=
  let b := spadBase core
  let put (m : Memory) (a x : Nat) : Memory := m.write a (toBytes 4 x)
  match k with
  | .sums c r z =>
    let m := c.foldl (fun m e => put m (b + t.area + 4 * e.1) e.2) s.mem
    let m := r.foldl (fun m e => put m (b + t.area + 512 + 4 * e.1) e.2) m
    { s with mem := match z with
        | some x => put m (b + t.area + 768) x
        | none => m }
  | .element i j x => { s with mem := put s.mem (b + t.base + i * t.pitch + 4 * j) x }
  | _ => s

/-- What an engine step gives: a value, or the CAUSE of R301; each with the state, which keeps the corrections made on the way (R300). -/
abbrev Eng (α : Type) := Except (Nat × State) (α × State)

/-- The checks of an engine's read of scratchpad bytes of a core: corrections are made and counted (R208, R305). -/
def State.checkRead (s : State) (e : EngineOp) (core a n : Nat) : Except (Nat × State) State :=
  ((s.coreTiles core).filter fun t => !(touchedRows t a n).isEmpty).foldlM (fun s t =>
    match s.regionCheck core t e.tole with
    | .dataErr => .error (6, s)
    | .tolerance => .error (6, s)
    | k => .ok (if k.fixed then (s.regionFix core t k).addFix e.id 1 else s)) s

/-! ### Endpoints at work (R298, R301) -/

/-- Bytes of host memory are free values. -/
def State.hostBytes (s : State) (n : Nat) : List Byte × State :=
  (((List.range ((n + 7) / 8)).flatMap fun i => toBytes 8 (Config.freeWord (s.free + i)).toNat).take n, { s with free := s.free + (n + 7) / 8 })

/-- Whether a copy engine carries an operation out: only it reaches host memory (R437). -/
def EngineOp.copies (e : EngineOp) : Bool := e.op != 0x22 && e.op != 0x23

/-- Whether a node of a graph asked for an operation: no other reaches the weight store (R298). -/
def EngineOp.ofNode (e : EngineOp) : Bool :=
  match e.owner with
  | .node .. => true
  | _ => false

/-- What a handle's range holds for an operation: host memory, or device pieces; a range that the operation cannot reach, the weight store
for a write among them, is as an invalid handle (R259, R298, R437, R450; DEDUCED, log entry 182). -/
def State.reach (s : State) (e : EngineOp) (h off n : Nat) (r w : Bool) : Except Nat (Option (List (Nat × Nat))) :=
  match s.handleAt e.plot e.gen.toNat h off n r w with
  | .error c => .error c
  | .ok (.host _) => if e.copies then .ok none else .error 1
  | .ok (.dev da) =>
    let ok := match regionOf da with
      | .hbm => true
      | .spad .. => true
      | .ws .. => e.ofNode && !w
      | .none => false
    if !ok then .error 1
    else match (devCuts da n).mapM fun p => (s.engineAddr e.plot p.1).map fun k => (k, p.2) with
      | none => .error 1
      | some ps => .ok (some ps)

/-- Read n bytes of a core's scratchpad with the checks of its registered regions. -/
def State.spadRead (s : State) (e : EngineOp) (core a n : Nat) : Eng (List Byte) :=
  if s.ueHit (spadBase core + a) n then .error (8, s)
  else match s.checkRead e core a n with
    | .error c => .error c
    | .ok s1 => .ok (s1.mem.read (spadBase core + a) n, s1)

/-- Read n bytes at an offset from an endpoint. -/
def State.endRead (s : State) (e : EngineOp) (w off n : Nat) : Eng (List Byte) :=
  if endSpace w = 0 then
    let a := endOff w + off
    if !s.spadOk e.plot e.core a n then .error (4, s) else s.spadRead e e.core a n
  else
    match s.reach e (endHandle w) (endOff w + off) n true false with
    | .error c => .error (c, s)
    | .ok none => .ok (s.hostBytes n)
    | .ok (some ps) =>
      match regionOf (ps.headD (0, 0)).1 with
      | .spad core a => s.spadRead e core a n
      | _ => if ps.any fun p => s.ueHit p.1 p.2 then .error (8, s) else .ok (ps.flatMap fun p => s.devRead e.die p.1 p.2, s)

/-- Write bytes at an offset from an endpoint, on a core's scratchpad when its SPACE is 00; what goes to the host leaves the
machine. -/
def State.endWrite (s : State) (e : EngineOp) (core w off : Nat) (bs : List Byte) : Except (Nat × State) State :=
  if endSpace w = 0 then
    let a := endOff w + off
    if (s.core core).offline then .error (5, s)
    else if !s.spadOk e.plot core a bs.length then .error (4, s)
    else .ok (s.engineSpadWrite core a bs)
  else
    match s.reach e (endHandle w) (endOff w + off) bs.length false true with
    | .error c => .error (c, s)
    | .ok none => .ok s
    | .ok (some ps) =>
      let gone := match regionOf (ps.headD (0, 0)).1 with
        | .spad core _ => (s.core core).offline
        | _ => false
      if gone then .error (5, s)
      else .ok (ps.foldl (fun (acc : State × List Byte) p => (acc.1.devWrite e.die p.1 (acc.2.take p.2), acc.2.drop p.2)) (s, bs)).1

/-! ### The arrival check (R305) -/

/-- The sum of a piece's columns of four bytes. -/
def colSum (bs : List Byte) : Nat := ((List.range ((bs.length + 3) / 4)).map fun i => ofBytes (slice bs (4 * i) 4)).foldl (· + ·) 0 % 2 ^ 32

/-- The damage that waits for an operation's next transfer. -/
def State.takeSoft (s : State) (id : Nat) : Option (Nat × Byte) × State :=
  match s.engine id with
  | none => (none, s)
  | some e => (e.soft.head?, s.setEngine { e with soft := e.soft.drop 1 })

/-- Bytes as they arrive. -/
def damaged (bs : List Byte) : Option (Nat × Byte) → List Byte
  | none => bs
  | some (i, m) => bs.modify i (· ^^^ m)

/-- Bytes read go to their target with their sum; where it does not agree there, they are read and sent once more (R305). -/
def State.transfer (s : State) (e : EngineOp) (read : State → Eng (List Byte)) (bs : List Byte) : Eng (List Byte) :=
  let (d, s1) := s.takeSoft e.id
  if colSum (damaged bs d) = colSum bs then .ok (damaged bs d, s1)
  else match read s1 with
    | .error c => .error c
    | .ok (bs2, s2) =>
      let (d2, s3) := s2.takeSoft e.id
      if colSum (damaged bs2 d2) = colSum bs2 then .ok (damaged bs2 d2, s3) else .error (7, s3)

/-- A piece read and sent. -/
def State.send (s : State) (e : EngineOp) (read : State → Eng (List Byte)) : Eng (List Byte) :=
  match read s with
  | .error c => .error c
  | .ok (bs, s1) => s1.transfer e read bs

/-! ### Units and ends -/

/-- Bytes of a copy, elements of a gather, slices of a plane tile, items of a feed, bytes of a weight load. -/
def EngineOp.total (e : EngineOp) : Nat :=
  match e.op with
  | 0x20 => bits (e.w 2) 32 32
  | 0x21 => bits (e.w 2) 32 32
  | 0x22 => bits (e.w 2) 0 32 * (e.qcw.toNat / 4)
  | 0x23 => bits (e.w 2) 32 32
  | 0x40 => e.w 2
  | _ => (bits (e.w 2) 48 16 + 1) * bits (e.w 2) 0 32

/-- The targets of a multicast. -/
def EngineOp.targets (e : EngineOp) : List Nat := (List.range 16).filter fun t => bitAt (e.w 4) t

/-- The failure that the completion object names, with its position: a multicast's is that of its lowest failed target; a storer's NOTE
comes last (R299). -/
def EngineOp.failure (e : EngineOp) : Option (Nat × Nat) :=
  if e.op = 0x1F then e.failed.head?.map Prod.snd
  else match e.cause with
    | some c => some c
    | none => if e.op = 0x23 ∧ e.stopAsked ∧ e.pos < e.total then some (9, e.pos) else e.failed.find 0

/-- Whether an operation has done its work. -/
def EngineOp.finished (e : EngineOp) : Bool :=
  e.cause.isSome || (e.op == 0x1F && e.targets.all fun t => (e.failed.find t).isSome) || (e.op == 0x23 && e.stopAsked) ||
    (if e.op = 0x22 then decide (e.total < e.pos) && e.qcw != 0 else decide (e.total ≤ e.pos))

/-- End an operation with a cause at its position. -/
def State.failEngine (e : EngineOp) (f : Nat × State) : State := f.2.setEngine { (f.2.engine e.id).getD e with cause := some (f.1, e.pos) }

/-- The fork edge (R295): every store that the issuing context committed before the command has been performed. -/
def State.forked (s : State) (e : EngineOp) : Bool := !(s.ctx e.fork.1).cq.any fun st => decide (st.num < e.fork.2)

/-- Advance an operation: the number of its last write on its die goes with it. -/
def State.advanceEngine (s : State) (e : EngineOp) (f : EngineOp → EngineOp) : State :=
  s.setEngine (f { (s.engine e.id).getD e with wseq := s.dieSeq e.die })

/-! ### Copies and multicasts (R304 to R306) -/

/-- The position in rows: row, offset, bytes of the piece. -/
def EngineOp.piece (e : EngineOp) : Nat × Nat × Nat :=
  let len := bits (e.w 2) 0 32
  let r := e.pos / len
  let o := e.pos % len
  (r, o, min 512 (len - o))

def EngineOp.srcOff (e : EngineOp) : Nat := e.piece.1 * bits (e.w 3) 0 32 + e.piece.2.1
def EngineOp.dstOff (e : EngineOp) : Nat := e.piece.1 * bits (e.w 3) 32 32 + e.piece.2.1

/-- One piece of an ECOPY. -/
def State.copyPiece (s : State) (e : EngineOp) : State :=
  let n := e.piece.2.2
  match s.send e fun s => s.endRead e (e.w 0) e.srcOff n with
  | .error c => State.failEngine e c
  | .ok (bs, s1) =>
    match s1.endWrite e e.core (e.w 1) e.dstOff bs with
    | .error c => State.failEngine e c
    | .ok s2 => s2.advanceEngine e fun x => { x with pos := x.pos + n }

/-- The cores of a multicast's targets. -/
def EngineOp.targetCore (e : EngineOp) (t : Nat) : Nat := clusterOf e.core * 16 + t

/-- The check of a target before any byte is sent to it (R306). -/
def State.targetCause (s : State) (e : EngineOp) (t : Nat) : Option Nat :=
  let core := e.targetCore t
  let r : SpadRange := ⟨endOff (e.w 1), bits (e.w 2) 48 16 + 1, bits (e.w 3) 32 32, bits (e.w 2) 0 32⟩
  if (s.core core).offline then some 5 else if s.rangeOk e.plot core r then none else some 4

/-- One piece of an EMCAST. -/
def State.castPiece (s : State) (e : EngineOp) : State :=
  let bad : Tab (Nat × Nat) := if e.pos = 0 then
      e.targets.foldl (fun f t => match s.targetCause e t with
        | some c => f.set t (c, 0)
        | none => f) e.failed
    else e.failed
  let live := e.targets.filter fun t => (bad.find t).isNone
  let n := e.piece.2.2
  let read (s : State) : Eng (List Byte) := s.endRead e (e.w 0) e.srcOff n
  if live.isEmpty then s.advanceEngine e fun x => { x with failed := bad }
  else match read s with
    | .error (c, s1) => s1.advanceEngine e fun x => { x with failed := live.foldl (fun f t => f.set t (c, e.pos)) bad }
    | .ok (bs, s1) =>
      let (s2, f2) := live.foldl (fun (acc : State × Tab (Nat × Nat)) t =>
        match acc.1.transfer e read bs with
        | .error (c, s') => (s', acc.2.set t (c, e.pos))
        | .ok (got, s') =>
          match s'.endWrite e (e.targetCore t) (e.w 1) e.dstOff got with
          | .error (c, s') => (s', acc.2.set t (c, e.pos))
          | .ok s' => (s', acc.2)) (s1, bad)
      let some_ := e.targets.any fun t => (f2.find t).isNone
      s2.advanceEngine e fun x => { x with failed := f2, pos := if some_ then x.pos + n else x.pos }

/-- One element of an EGATHER or an ESCATTER (R307). -/
def State.gatherElement (s : State) (e : EngineOp) : State :=
  let i := e.pos
  let n := bits (e.w 2) 0 32
  match s.endRead e (bits (e.w 3) 0 32) (4 * i) 4 with
  | .error c => State.failEngine e c
  | .ok (ib, s1) =>
    let off := ofBytes ib * bits (e.w 4) 0 32
    let (src, from_, dst, to_) := if e.op = 0x20 then (e.w 0, off, e.w 1, i * n) else (e.w 1, i * n, e.w 0, off)
    match s1.send e fun s => s.endRead e src from_ n with
    | .error c => State.failEngine e c
    | .ok (bs, s2) =>
      match s2.endWrite e e.core dst to_ bs with
      | .error c => State.failEngine e c
      | .ok s3 => s3.advanceEngine e fun x => { x with pos := i + 1 }

/-- COPY_ENGINE_TRANSFER (R305, R307): one piece or element of an operation. -/
def execCopyEngineTransfer (op : Nat) (s : State) : St State :=
  .next (match s.engine op with
    | none => s
    | some e =>
      if e.finished || !s.forked e then s
      else if e.op = 0x1E then s.copyPiece e
      else if e.op = 0x1F then s.castPiece e
      else if e.op = 0x20 ∨ e.op = 0x21 then s.gatherElement e
      else s)

/-! ### Weight loads (R259, R332) -/

/-- The dies that a weight load writes. -/
def EngineOp.wsDies (e : EngineOp) : List Nat := if bits (e.w 3) 0 3 = 4 then [0, 1, 2, 3] else [bits (e.w 3) 0 2]

/-- WEIGHT_LOAD_OPERATION (R259): one row of 512 bytes into the weight store of each die it names. -/
def execWeightLoadOperation (op : Nat) (s : State) : St State :=
  .next (match s.engine op with
    | none => s
    | some e =>
      if e.finished || e.op != 0x40 || !s.forked e then s
      else
        let n := min 512 (e.w 2 - e.pos)
        let a := e.w 1 + e.pos
        if !(e.wsDies.all fun d => s.wsOk e.plot d a n) then State.failEngine e (4, s)
        else match s.endRead e (e.w 0) e.pos n with
          | .error c => State.failEngine e c
          | .ok (bs, s1) =>
            (e.wsDies.foldl (fun s d => s.devWrite d (wsBase d + a) bs) s1).advanceEngine e fun x => { x with pos := x.pos + n })

/-! ### The plane builder (R193, R308, R309) -/

def EngineOp.kind (e : EngineOp) : Nat := bits (e.w 2) 58 2
def EngineOp.rcnt (e : EngineOp) : Nat := bits (e.w 2) 48 8
def EngineOp.kcnt (e : EngineOp) : Nat := bits (e.w 2) 0 32
def EngineOp.preq (e : EngineOp) : Nat := 4 * (bits (e.w 2) 56 2 + 1)
def EngineOp.fmt (e : EngineOp) : PlaneFmt := (planeFmt (bits (e.w 2) 60 4)).getD .nq4

/-- Source element (r, k) (R308). -/
def State.planeElem (s : State) (e : EngineOp) (r k : Nat) : Eng Nat :=
  let p := bits (e.w 3) 0 32
  match e.fmt with
  | .nq4 => (s.endRead e (e.w 0) (r * p + k / 2) 1).map fun x => (bits (ofBytes x.1) (4 * (k % 2)) 4, x.2)
  | f =>
    let z := f.bytes
    (s.endRead e (e.w 0) (if bitAt (e.w 2) 32 then k * p + r * z else r * p + k * z) z).map fun x => (ofBytes x.1, x.2)

/-- Scale byte of block b of r (R149, R308). -/
def State.planeScale (s : State) (e : EngineOp) (r b : Nat) : Eng Nat :=
  (s.endRead e (e.w 4) (r * bits (e.w 5) 0 32 + b) 1).map fun x => (ofBytes x.1, x.2)

/-- Collect over a list, carrying the state along. -/
def overList {α β : Type} (f : State → α → Eng β) : List α → State → Eng (List β)
  | [], s => .ok ([], s)
  | a :: l, s =>
    match f s a with
    | .error c => .error c
    | .ok (b, s1) => (overList f l s1).map fun x => (b :: x.1, x.2)

/-- The scale bytes of an NQ4 source, by r. -/
def State.readScales (s : State) (e : EngineOp) : Eng (List (List Nat)) :=
  overList (fun s r => overList (fun s b => s.planeScale e r b) (List.range ((e.kcnt + 63) / 64)) s) (List.range e.rcnt) s

/-- The planes of the tile: the larger of those asked and those that the source needs (R193, R309). -/
def EngineOp.planeCount (e : EngineOp) (scales : List (List Nat)) : Nat :=
  match e.fmt with
  | .nq4 => max e.preq (if scales.any fun l => l.any fun y => 2 ≤ y / 64 then 8 else 4)
  | f => max e.preq f.least

/-- Elements of a block that are converted together (R152). -/
def EngineOp.blockLen (e : EngineOp) : Nat :=
  match e.fmt with
  | .float .. => 64
  | _ => 1

/-- The source elements of the block at k, by r; those past the end are 0. Each element is read once (R153, R313). -/
def State.readBlock (s : State) (e : EngineOp) (k : Nat) : Eng (List (List Nat)) :=
  overList (fun s r => overList (fun s i => if k + i < e.kcnt then s.planeElem e r (k + i) else .ok (0, s)) (List.range e.blockLen) s)
    (List.range e.rcnt) s

/-- An element as sign and magnitude, and what it adds to the operation's record: an inexact conversion, a special value. -/
structure PlaneVal where
  neg : Bool
  mag : Nat
  inexact : Bool
  special : Bool
  xw : Option Int
deriving DecidableEq, Repr

/-- Element (r, k) converted from what has been read (R150, R153, R193). -/
def EngineOp.planeVal (e : EngineOp) (k r : Nat) : PlaneVal :=
  let xs := e.src.getD r []
  match e.fmt with
  | .nq4 =>
    let q := nq4Q ((e.scales.getD r []).getD (k / 64) 0 / 64) (xs.headD 0)
    ⟨decide (q < 0), q.natAbs, false, false, none⟩
  | .int n =>
    let q := toS (8 * n) (xs.headD 0)
    ⟨decide (q < 0), q.natAbs, false, false, none⟩
  | .float f _ =>
    let blk := bfBlock f e.qcw.toNat xs
    let special := match f.read (xs.getD (k % 64) 0) with
      | .nan _ => true
      | .inf _ => true
      | _ => false
    ⟨blk.signs.getD (k % 64) false, blk.mags.getD (k % 64) 0, blk.inexact, special, some blk.xw⟩

/-- A plane of n bits. -/
def planeOf (n : Nat) (f : Nat → Bool) : Nat := (List.range n).foldl (fun acc i => if f i then acc + 2 ^ i else acc) 0

/-- Slice bytes of a group of magnitude planes (R192). -/
def sliceOf (kind g : Nat) (vs : List PlaneVal) : List Byte :=
  let n := if kind = 1 then 64 else 128
  let v (i : Nat) : PlaneVal := vs.getD i ⟨false, 0, false, false, none⟩
  let part (i : Nat) : Nat := bits (v i).mag (4 * g) 4
  let ck : Int := (List.range n).foldl (fun acc i => if (v i).neg then acc - part i else acc + part i) 0
  toBytes (n / 8) (planeOf n fun i => (v i).neg) ++
    ((List.range 4).flatMap fun b => toBytes (n / 8) (planeOf n fun i => bitAt (part i) b)) ++ toBytes 8 (wrap 64 ck) ++
    (if kind = 1 then [] else List.replicate 8 0)

/-- The header (R191). -/
def EngineOp.planeHeader (e : EngineOp) : List Byte :=
  toBytes 8 (e.kcnt * 2 ^ 32 + bits (e.w 2) 60 4 * 16 + (e.qcw.toNat / 4 - 1) * 4 + e.kind) ++ List.replicate 8 0 ++ toBytes 16 e.mask ++
    List.replicate 32 0

/-- The exponent words of the blocks that begin at a slice (R155, R309). -/
def State.writeSide (s : State) (e : EngineOp) (b : Nat) (vs : List PlaneVal) : Except (Nat × State) State :=
  vs.zipIdx.foldlM (fun s (v, r) => match v.xw with
    | some x => s.endWrite e e.core (e.w 4) (r * bits (e.w 5) 0 32 + 2 * b) (toBytes 2 (wrap 16 x))
    | none => .ok s) s

/-- One slice, with the sidecar of its blocks; the first slice of a block reads its source. -/
def State.buildSlice (s : State) (e : EngineOp) : Eng (List PlaneVal) :=
  let gs := e.qcw.toNat / 4
  let k := e.pos / gs
  let g := e.pos % gs
  match (if g = 0 ∧ k % e.blockLen = 0 then s.readBlock e k else .ok (e.src, s)) with
  | .error c => .error c
  | .ok (src, s0) =>
    let e1 := { (s0.engine e.id).getD e with src := src }
    let s1 := s0.setEngine e1
    let vs := (List.range e.rcnt).map (e1.planeVal k)
    match (if k % 64 = 0 ∧ g = 0 then s1.writeSide e (k / 64) vs else .ok s1) with
    | .error c => .error c
    | .ok s2 => (s2.endWrite e e.core (e.w 1) (64 + e.pos * sliceBytes e.kind) (sliceOf e.kind g vs)).map fun s3 => (vs, s3)

/-- PLANE_BUILD_SLICE (R309): the planes counted, then a slice at a time, then the header. -/
def execPlaneBuildSlice (op : Nat) (s : State) : St State :=
  .next (match s.engine op with
    | none => s
    | some e =>
      if e.finished || e.op != 0x22 || !s.forked e then s
      else if e.qcw = 0 then
        match (if e.fmt = .nq4 then s.readScales e else .ok ([], s)) with
        | .error c => State.failEngine e c
        | .ok (l, s1) => s1.advanceEngine e fun x => { x with qcw := BitVec.ofNat 64 (e.planeCount l), scales := l }
      else if e.pos < e.total then
        match s.buildSlice e with
        | .error c => State.failEngine e c
        | .ok (vs, s1) =>
          s1.advanceEngine e fun x =>
            { x with
              pos := x.pos + 1
              mask := (BitVec.ofNat 128 x.mask ||| BitVec.ofNat 128 (planeOf 128 fun i => (vs.getD i ⟨false, 0, false, false, none⟩).special)).toNat
              flags := if vs.any PlaneVal.inexact then flNX.toNat else x.flags }
      else
        match s.endWrite e e.core (e.w 1) 0 e.planeHeader with
        | .error c => State.failEngine e c
        | .ok s1 => s1.advanceEngine e fun x => { x with pos := x.pos + 1 })

/-! ### NOTE (R299) -/

/-- The ATOR of a completion bit: it may wait for the die's own write of the line, or fail with a CAUSE; a bit in host memory is
outside the machine. -/
def State.note (s : State) (e : EngineOp) (bit : Nat) : Except Nat (Option State) :=
  let m : W64 := BitVec.ofNat 64 (2 ^ (bit % 64))
  match s.reach e (bits (e.w 7) 40 22) (bit / 64 * 8) 8 true true with
  | .error c => .error c
  | .ok none => .ok (some s)
  | .ok (some ps) =>
    let a := (ps.headD (0, 0)).1
    if s.ueHit a 8 then .error 8
    else match regionOf a with
      | .spad core off => .ok (some (s.engineSpadWrite core off (toBytes 8 (BitVec.ofNat 64 (s.mem.num a 8) ||| m).toNat)))
      | _ => if (s.die e.die).unnumbered a then .ok none else .ok (some (s.atomicAt e.die a ⟨.or, true, m, 0, 0⟩).2)

/-! ### Feed controllers (R310 to R312) -/

/-- The addresses of the elements of an item. -/
def EngineOp.itemAddrs (e : EngineOp) : List Nat :=
  let q := e.qcw.toNat
  let sz := 16 * 2 ^ bits q 48 3
  let epi := bits (e.w 2) 0 16
  (List.range epi).map fun i => bits q 0 32 + (bits (e.w 0) 32 16 + e.pos * epi + i) % max (bits q 32 16) 1 * sz
def EngineOp.elemSize (e : EngineOp) : Nat := 16 * 2 ^ bits e.qcw.toNat 48 3
def EngineOp.itemOff (e : EngineOp) : Nat := e.pos * bits (e.w 3) 0 40 + e.stage * bits (e.w 4) 0 40

/-- Whether a feed operation holds one of the module's 128 controllers. -/
def State.hasController (s : State) (e : EngineOp) : Bool :=
  decide (((s.engines.takeWhile fun x => x.id != e.id).filter fun x => x.op == 0x23).length < 128)

/-- A feed operation of a role that may handle an item. -/
def State.feeding (s : State) (op role : Nat) : Option EngineOp :=
  match s.engine op with
  | none => none
  | some e => if e.op == 0x23 && !e.finished && bits (e.w 0) 60 4 == role && s.hasController e && s.forked e then some e else none

/-- FEED_LOADER_ITEM (R311): an item whose elements are all empty is read, written and set full, in one step. -/
def execFeedLoaderItem (op : Nat) (s : State) : St State :=
  .next (match s.feeding op 0 with
    | none => s
    | some e =>
      let as := e.itemAddrs
      if as.any fun a => s.allFull e.core a e.elemSize then s
      else match s.endRead e (e.w 1) e.itemOff (as.length * e.elemSize) with
        | .error c => State.failEngine e c
        | .ok (bs, s1) =>
          if (s1.core e.core).offline then State.failEngine e (5, s1)
          else if as.any fun a => !s1.spadOk e.plot e.core a e.elemSize then State.failEngine e (4, s1)
          else
            (as.zipIdx.foldl (fun s p => s.engineSpadWrite e.core p.1 (slice bs (p.2 * e.elemSize) e.elemSize)) s1).advanceEngine e
              fun x => { x with pos := x.pos + 1 })

/-- The bytes of an item in the queue. -/
def State.itemBytes (s : State) (e : EngineOp) : Eng (List Byte) :=
  (overList (fun s a => s.endRead e a 0 e.elemSize) e.itemAddrs s).map fun x => (x.1.flatten, x.2)

/-- An item's bytes in memory, performed at tenant scope. -/
def State.storeItem (s : State) (e : EngineOp) (bs : List Byte) : Except (Nat × State) State :=
  match s.reach e (endHandle (e.w 1)) (endOff (e.w 1) + e.itemOff) bs.length false true with
  | .error c => .error (c, s)
  | .ok none => .ok s
  | .ok (some ps) => .ok (s.sysPieces ps bs)

/-- FEED_STORER_ITEM (R311): an item whose elements are all full is written and performed at tenant scope, then emptied, then noted. A NOTE
that fails ends as a NOTE: the operation goes on to its last item and then reports it (R299; DEDUCED, log entry 181). -/
def execFeedStorerItem (op : Nat) (s : State) : St State :=
  .next (match s.feeding op 1 with
    | none => s
    | some e =>
      let as := e.itemAddrs
      if !(as.all fun a => s.allFull e.core a e.elemSize) then s
      else match s.itemBytes e with
        | .error c => State.failEngine e c
        | .ok (bs, s1) =>
          match s1.storeItem e bs with
          | .error c => State.failEngine e c
          | .ok s2 =>
            let s3 := as.foldl (fun s a => s.setGranules e.core a (granules a e.elemSize) false) s2
            let up (s : State) (f : EngineOp → EngineOp) : State := s.advanceEngine e fun x => f { x with pos := x.pos + 1 }
            if bitAt (e.w 7) 63 then
              match s3.note e (bits (e.w 7) 0 40 + e.pos) with
              | .error c => up s3 fun x => { x with failed := if x.failed.isEmpty then [(0, (c, 0xFFFFFFFF))] else x.failed }
              | .ok none => s
              | .ok (some s5) => up s5 id
            else up s3 id)

/-! ### Completion objects (R300, R301) -/

/-- Word 0 and word 1 of a completion object. -/
def EngineOp.object (e : EngineOp) (fail : Option (Nat × Nat)) : List W64 :=
  let (c, p) := fail.getD (0, 0)
  let done := min e.pos e.total
  let dlv := if e.op = 0x1F then (e.targets.filter fun t => (e.failed.find t).isNone).foldl (fun a t => a + 2 ^ t) 0
    else if fail.isNone || p == 0xFFFFFFFF then 1 else 0
  let ftgt := if e.op = 0x1F then (e.failed.head?.map Prod.fst).getD 0 else 0
  [BitVec.ofNat 64 (c * 2 ^ 56 + e.flags * 2 ^ 48 + e.fix * 2 ^ 32 + done), BitVec.ofNat 64 (dlv * 2 ^ 48 + ftgt * 2 ^ 44 + p)]

/-- Where a completion object goes: the granule; for a saved group, its entry of the engine table with `done` set (R377); a dropped
object's goes nowhere (R390). -/
def State.landObject (s : State) (e : EngineOp) (ws : List W64) : State :=
  if e.saved then
    if e.noted then s
    else
      let s1 := (s.sysPlotWrite e.die e.plot (e.cpl + 16) (wordBytes ws)).getD s
      (s1.sysPlotWrite e.die e.plot e.cpl (toBytes 8 (e.op + 2 ^ 32))).getD s1
  else s.engineSpadWrite e.core e.cpl (wordBytes ws)

/-- The engine fault of an operation, in the plot's log (R301). -/
def State.engineFault (s : State) (e : EngineOp) (cause : Nat) : State :=
  (s.writeRecord (plotLog e.plot) (bareRecord 0x22 .logged cause 0 0 (plotId e.gen e.plot) 0 e.cpl)).2

/-- The end of an operation, with what failed: its object, its record, and its removal; a node's waits for the firmware (R326). -/
def State.endEngine (s : State) (e : EngineOp) (fail : Option (Nat × Nat)) : State :=
  let s1 := match e.owner with
    | .node .. => s.setEngine { e with noted := true, cause := fail }
    | _ =>
      let s0 := s.landObject e (e.object fail)
      { s0 with engines := s0.engines.filter fun x => x.id != e.id }
  match fail with
  | some (c, _) => s1.engineFault e c
  | none => s1

/-- COMPLETION_OBJECT_LANDING (R299, R300, R377): after the operation's writes have reached tenant scope its NOTE is made, and then its
object lands; the entry of a saved group's operation is a release at tenant scope too. -/
def execCompletionObjectLanding (op : Nat) (s : State) : St State :=
  .next (match s.engine op with
    | none => s
    | some e =>
      if !e.finished || (match e.owner with | .node .. => e.noted | _ => false) then s
      else
        let noted := e.op ≠ 0x23 ∧ bitAt (e.w 7) 63 ∧ e.failure.isNone
        if (e.saved ∨ noted) ∧ !s.seenByAll e.die e.wseq then s
        else if !noted then s.endEngine e e.failure
        else match s.note e (bits (e.w 7) 0 40) with
          | .error c => s.endEngine e (some (c, 0xFFFFFFFF))
          | .ok none => s
          | .ok (some s1) => s1.endEngine e none)

end Sys2Proof.Machine
end

