-- ==== Sys2Proof/Machine/Saving.lean ====
section
/-!
DEFINITION. Slices and pre-emption (R379 to R381), saving a stopped group into its object (R376 to R378), restoring one (R382, R383,
R388), and the estate's release of a held group (R353).
-/
namespace Sys2Proof.Machine

/-! ### Groups at work -/

/-- The cluster of a group. -/
def Group.cluster (g : Group) : Nat := clusterOf (coreOfCtx (g.members.headD 0))

/-! ### The slice (R379, R380) -/

/-- Pre-empt a group at its members' checkpoints (R376). -/
def State.preemptSoft (s : State) (gid : Nat) : State :=
  match s.group gid with
  | none => s
  | some g =>
    if g.stop.isSome then s
    else
      let (obj, us, s1) := s.takeUnits g.plot g.members.length
      g.members.foldl State.stopAtCheckpoint (s1.setStop gid g ⟨.preempt, obj, us, s.tick, true, s.groupEff gid g, false, []⟩)

/-- The machine with the contexts of some groups freed. -/
def State.without (s : State) (gids : List Nat) : State :=
  { s with
    ctxs := s.ctxs.map fun (x, c) => (x, if c.st != .free && gids.contains c.group then Context.empty else c)
    landed := s.landed.filter fun l =>
      let c := s.ctx l.ctx
      !(c.st != .free && gids.contains c.group && l.gang.toNat == gangOf c.taskid) }

/-- The first choice of k entries, in order, that will do. -/
def pickFew (ok : List Nat → Bool) : List Nat → Nat → List Nat → Option (List Nat)
  | _, 0, acc => if ok acc then some acc else none
  | [], _ + 1, _ => none
  | a :: l, k + 1, acc =>
    match pickFew ok l k (acc ++ [a]) with
    | some r => some r
    | none => pickFew ok l (k + 1) acc

/-- Order a list by a measure, least first, keeping the order of equals. -/
def sortBy {α : Type} (f : α → Nat) : List α → List α
  | [] => []
  | a :: l => insert (sortBy f l) a
where
  insert : List α → α → List α
    | [], a => [a]
    | b :: l, a => if f a ≤ f b then a :: b :: l else b :: insert l a

/-- The expired groups of a cluster, in the order in which they are taken. -/
def State.expired (s : State) (cluster : Nat) : List Nat :=
  let l := s.groups.filter fun (gid, g) =>
    g.cluster == cluster && g.stop.isNone && decide (g.deadline ≤ s.tick) && !(s.liveMembers gid g).isEmpty
  (sortBy (fun (gid, g) => s.groupEff gid g * 2 ^ 80 + g.deadline) l).map Prod.fst

/-- SLICE_DEADLINE (R380): the cluster's check when a group's deadline has passed. -/
def execSliceDeadline (gid : Nat) (s : State) : St State :=
  .next (match s.group gid with
    | none => s
    | some g =>
      if g.checked || g.stop.isSome || decide (s.tick < g.deadline) || (s.liveMembers gid g).isEmpty then s
      else
        let cl := g.cluster
        let renewed := s.setGroup gid { g with deadline := s.tick + g.slice }
        match bestBy (Work.key s.tick) ((s.works cl).filter fun w => decide (s.groupEff gid g ≤ w.level) && !s.placeable cl w) with
        | none => renewed
        | some w =>
          let l := s.expired cl
          match (List.range l.length).findSome? fun k => pickFew (fun gs => (s.without gs).placeable cl w) l (k + 1) [] with
          | none => renewed
          | some gs => gs.foldl State.preemptSoft (s.setGroup gid { g with checked := true }))

/-- CKWAIT_EXPIRY (R376): members that have not stopped 2 µs after the request stop at once. -/
def execCkwaitExpiry (gid : Nat) (s : State) : St State :=
  .next (match s.group gid with
    | none => s
    | some g =>
      match g.stop with
      | some st => if st.atCheckpoint ∧ st.asked + 8000 ≤ s.tick then s.preemptNow gid else s
      | none => s)

/-! ### Settling (R377) -/

/-- An operation that goes on past a stop. -/
def EngineOp.continues (e : EngineOp) : Bool := e.op == 0x1E && endSpace (e.w 0) == 1 && endSpace (e.w 1) == 1

/-- Whether the work of a stopped member is settled. -/
def State.memberSettled (s : State) (x : Nat) : Bool :=
  let c := s.ctx x
  c.st == .stopped && c.failure.isNone && c.fly.isEmpty && c.loads.all (fun l => l.gd.isEmpty && l.vd.isNone && !l.isReply) &&
    s.performedAt (coreOfCtx x) c .tenant && s.engines.all fun e => e.owner != .context x || e.continues

/-! ### The capture (R208, R367, R368, R378) -/

/-- The tiles of a stopped context checked for its image: a failing tile is read again from the shadow; whether that cured it. -/
def Context.captureTiles (c : Context) (le : LiveEntry) : Except Nat (Context × Bool) :=
  match c.checkTiles le with
  | .ok c1 => .ok (c1, false)
  | .error _ =>
    match ({ c with w := { c.w with t0 := c.sh.t0, t1 := c.sh.t1 } } : Context).checkTiles le with
    | .ok c1 => .ok (c1, true)
    | .error code => .error code

/-- Where an entry of a landing buffer stands (R418). -/
def State.landAddr (s : State) (plot x place : Nat) : Nat := (s.plot plot).policy.landbase + 2560 * x + 320 * place

/-- The landing entries of a strand, oldest first. -/
def State.landedOf (s : State) (x : Nat) (c : Context) : List Landed :=
  sortBy (fun l => (l.seq + 2 ^ 70).toNat) (s.landed.filter fun l => l.ctx == x && l.plot == c.plot && l.gang.toNat == gangOf c.taskid)

/-- The bytes of a landing entry. -/
def State.landBytes (s : State) (l : Landed) : List Byte :=
  (s.plotRead (dieOf (coreOfCtx l.ctx)) l.plot (s.landAddr l.plot l.ctx l.place) 320).getD (List.replicate 320 0)

/-- What an image holds besides the context. -/
def State.captureExtra (s : State) (x : Nat) (c : Context) (le : LiveEntry) : ImageExtra :=
  let b := spadBase (coreOfCtx x)
  { chans := c.chan.toList.map Channel.recv
    landing := (s.landedOf x c).map s.landBytes
    eng := (s.engines.filter fun e => e.owner == .context x).map fun e => ⟨e.op, false, e.cpl, List.replicate 16 0⟩
    pads := le.pads.map fun p =>
      ⟨p.1, s.mem.read (b + p.1) p.2, (List.range (p.2 / 16)).map fun i => s.full.contains (b + p.1 + 16 * i)⟩ }

/-- A member's image, and where its engine table stands in it. -/
structure Captured where
  member : Nat
  ctx : Nat
  image : List Byte
  engOff : Nat
deriving DecidableEq, Repr

def State.capture (s : State) (k x : Nat) (c : Context) (le : LiveEntry) : Captured :=
  let e := s.captureExtra x c le
  let before := ((c.sections le e).takeWhile fun p => decide (p.1 < 5)).foldl (fun n p => n + (pad64 p.2).length) 0
  ⟨k, x, c.image le e (sext 32 64 c.w.wc.toNat), 4096 + before⟩

/-- An attempt to capture a group: a member's tile fails in the context and in the shadow, which raises its cause in place of the stop; or
every image stands. -/
inductive CaptureTry where
  | fails (x code : Nat)
  | done (s : State) (l : List Captured)
deriving DecidableEq, Repr

/-- The images of live members, each with its MEMBER; the tiles of a member in `told`, whose error has been raised, go as they stand. -/
def State.captureAll (s : State) (told : List Nat) : List (Nat × Nat) → CaptureTry
  | [] => .done s []
  | (k, x) :: r =>
    let c := s.ctx x
    let le := s.liveOf c
    match c.captureTiles le with
    | .error code =>
      if !told.contains x then .fails x code
      else match s.captureAll told r with
        | .done s1 l => .done s1 (s.capture k x c le :: l)
        | f => f
    | .ok (c1, cured) =>
      match s.captureAll told r with
      | .fails y code => .fails y code
      | .done s1 l =>
        .done (if cured then (s1.writeRecord .owner (trapRecord x c 0x30 .info 15 6 c.w.pc.addr.toNat 0 0)).2 else s1)
          (s.capture k x c1 le :: l)

/-- A member cannot be captured: its shadow has an uncorrectable error, or a register that its image holds has one (R360, R378). -/
def State.memberLost (s : State) (x : Nat) : Bool :=
  let c := s.ctx x
  let p := c.w.parity
  c.shadowErr || ((List.finRange 64).any fun r => (s.liveOf c).g.getLsbD r.val && p.gBad r) || ((List.finRange 16).any fun r => p.aBad r || p.mBad r)

/-! ### Writing the object (R366, R373, R374, R378) -/

/-- ORIGIN of a stop. -/
def StopKind.origin : StopKind → Nat
  | .susp .. => 0
  | .preempt => 1
  | .trap => 2

/-- Directory entries of images in their units: a signed offset from the base. -/
def unitDir (base : Nat) (l : List (Nat × Nat × Nat)) : Tab Nat :=
  l.foldl (fun t e => t.set e.1 (wrap 40 ((e.2.1 : Int) - base) * 2 ^ 24 + e.2.2 / 64)) []

/-- Where the images go: contiguous after the header for a SUSP, one unit each for the rest. -/
def State.imagePlaces (s : State) (plot : Nat) (st : Stop) (l : List Captured) : List Nat :=
  match st.kind with
  | .susp .. => (l.foldl (fun (acc : List Nat × Nat) c => (acc.1 ++ [acc.2], acc.2 + c.image.length)) ([], st.obj + 256)).1
  | _ => (st.units.map fun u => (s.plot plot).unitAddr u + 256).take l.length

/-- The header of a stopped group's object. -/
def State.saveHeader (s : State) (g : Group) (st : Stop) (l : List Captured) (places : List Nat) (kslot objid version : Nat) : ObjHeader :=
  let p := s.plot g.plot
  let w3 := (if st.kind = .preempt then 8 else p.policy.crights.toNat) * 2 ^ 36 + s.plotid g.plot
  let issuer := match st.kind with
    | .susp k .. => k
    | _ => 0
  let mask := (g.arrived.zipIdx.map fun (b, k) => if b then 2 ^ k else 0).foldl (· + ·) 0
  { w0 := headerW0, objid := objid, w2 := w2Of false 1 version, w3 := w3
    w4 := kslot * 2 ^ 48 + g.gang.toNat * 2 ^ 32 + g.index.toNat * 2 ^ 16 + st.kind.origin * 2 ^ 8 + issuer * 2 ^ 4 + (g.members.length - 1)
    bodylen := 256 + (l.map fun c => c.image.length).foldl (· + ·) 0
    w6 := g.gen.toNat * 2 ^ 32 + mask * 2 ^ 16 + (g.arrived.filter id).length
    tsusp := s.timeOf g.plot, sealv := s.sealAt g.plot objid w3 st.obj
    dir := dirWords (unitDir st.obj ((l.zip places).map fun e => (e.1.member, e.2, e.1.image.length))) }

/-- The object in memory: its images, then its header, performed before it is RUNNABLE. -/
def State.putObject (s : State) (d plot : Nat) (h : ObjHeader) (base : Nat) (l : List Captured) (places : List Nat) : State :=
  let s1 := (l.zip places).foldl (fun s e => (s.sysPlotWrite d plot e.2 e.1.image).getD s) s
  (s1.sysPlotWrite d plot base h.bytes).getD s1

/-- An operation of a saved member goes on; its completion goes to the object's engine table (R377). -/
def State.moveEngines (s : State) (c : Captured) (place : Nat) : State :=
  let ids := (s.engines.filter fun e => e.owner == .context c.ctx).map EngineOp.id
  { s with engines := s.engines.map fun e =>
      match ids.findIdx? (· == e.id) with
      | some i => { e with owner := .orphan, saved := true, cpl := place + c.engOff + 32 * i }
      | none => e }

/-- Write a settled group and free its contexts (R316, R378). -/
def State.saveGroup (s : State) (gid : Nat) (g : Group) (st : Stop) (ms : List (Nat × Nat)) (l : List Captured) : State :=
  let d := dieOf (coreOfCtx (g.members.headD 0))
  let kslot := (s.ctx (ms.headD (0, 0)).2).kslot.toNat
  let (objid, version, s1) : Nat × Nat × State := match st.kind with
    | .susp _ true id v => (id, (v + 1) % 2 ^ 32, s)
    | _ => let (id, s1) := s.newObjid d; (id, 0, s1)
  let places := s1.imagePlaces g.plot st l
  let s2 := s1.putObject d g.plot (s1.saveHeader g st l places kslot objid version) st.obj l places
  let s3 := (l.zip places).foldl (fun s e => s.moveEngines e.1 e.2) s2
  let s4 := l.foldl (fun s c =>
    let k := s.ctx c.ctx
    ({ s with landed := s.landed.filter fun e => !(e.ctx == c.ctx && e.plot == k.plot && e.gang.toNat == gangOf k.taskid) } : State).freeCtx
      c.ctx) s3
  let s5 := ({ s4 with groups := s4.groups.erase gid } : State).giveUnits g.plot (st.units.drop l.length)
  if st.kind = .preempt then
    s5.enterRestore g.cluster
      { obj := st.obj, plot := g.plot, gang := g.gang, strands := l.length, level := st.level, since := s.tick, cres := none, issuer := 0
        origin := 1, units := st.units.take l.length, place := [] }
  else s5.addRem g.plot g.gang.toNat 1

/-- A stop whose object is to be marked as being written: STATE 00, the version as before (R378). -/
def State.beginSave (s : State) (gid : Nat) (g : Group) (st : Stop) : State :=
  let version : Nat := match st.kind with
    | .susp _ true _ v => v
    | _ => 0
  (s.putW2 (dieOf (coreOfCtx (g.members.headD 0))) g.plot st.obj false 0 version).setStop gid g { st with begun := true }

/-- A tile that fails at the capture: the error is raised in place of the stop, and the group is held (R378). -/
def State.captureFails (s : State) (gid : Nat) (g : Group) (st : Stop) (x code : Nat) : State :=
  let s1 := match st.kind with
    | .susp .. => s.setGroup gid { g with stop := none }
    | _ => s
  let s2 := s1.deliverTrap x ⟨code, 6, 0, none⟩ 8 (s.ctx x).w.pc.addr
  match s2.group gid with
  | some g2 => s2.setGroup gid { g2 with stop := g2.stop.map fun t => { t with failed := x :: st.failed } }
  | none => s2

/-- GROUP_SAVE (R376 to R378): every live member has stopped and its work is settled. The object is first marked as being written, and then
written (log entry 112). -/
def execGroupSave (gid : Nat) (s : State) : St State :=
  .next (match s.group gid with
    | none => s
    | some g =>
      match g.stop with
      | none => s
      | some st =>
        let ms := s.liveMembers gid g
        if ms.isEmpty then (s.giveUnits g.plot st.units).setGroup gid { g with stop := none } |>.dropGroup gid
        else if !ms.all fun m => s.memberSettled m.2 then s
        else match ms.find? fun m => s.memberLost m.2 with
          | some m => s.fatal m.2 0x10 0
          | none =>
            let s1 := if st.kind = .preempt then s else ms.foldl (fun s m => s.sendWc m.2) s
            match s1.captureAll st.failed ms with
            | .fails x code => s.captureFails gid g st x code
            | .done s2 l => if st.begun then s2.saveGroup gid g st ms l else s.beginSave gid g st)

/-! ### Restoring (R382, R383) -/

/-- A context taken for a member of a saved group, its kernel's dictionary loaded (R55). -/
def State.holdFor (sv : Saved) (kslot : Nat) (s : State) (x : Nat) : State :=
  let core := coreOfCtx x
  let dicts := (s.dictLoad core (dictKey sv.plot.val kslot)).getD (s.core core).dicts
  (s.setCtx x { (s.ctx x).vacated with
    st := .loading, plot := sv.plot, gen := (s.plot sv.plot).gen, kslot := BitVec.ofNat 16 kslot
    taskid := BitVec.ofNat 64 (sv.gang.toNat * 2 ^ 48) }).setCore core { s.core core with dicts := dicts }

/-- RESTORE_PLACEMENT (R382): a saved group that is next takes contexts; a pre-empted object is taken for restoring (R373), once: a group
whose core was retired before its restore waits in the list as it is (R357). -/
def execRestorePlacement (cl : ClusterId) (s : State) : St State :=
  .next (match s.nextWork cl.val with
    | none => s
    | some w =>
      if !w.saved then s
      else match (s.restoreList cl.val)[w.n]? with
        | none => s
        | some x =>
          match s.savedImages cl.val x with
          | none => s
          | some (h, ims) =>
            match s.placeIn cl.val x.plot ims with
            | none => s
            | some xs =>
              let s1 := xs.foldl (State.holdFor x h.kslot) s
              let s2 := if x.cres.isSome || h.busy then s1 else s1.putW2 (cl.val / 10) x.plot x.obj true 2 (h.version + 1)
              { s2 with restore := s2.restore.set cl.val ((s.restoreList cl.val).set w.n { x with place := xs }) })

/-- The check of the images' tiles at a restore. -/
def checkImages (live : List LiveEntry) (ims : List ImageIn) : Except Nat (List ImageIn) :=
  ims.mapM fun im => (im.c.checkTiles (live.getD im.c.live.val ⟨0, false, false, false, []⟩)).map fun c => { im with c := c }

/-- Put back a range of scratchpad, bytes and full-empty bits, with no upkeep of tiles. -/
def State.padRestore (s : State) (core : Nat) (p : PadRange) : State :=
  let b := spadBase core + p.base
  let s1 := ({ s with mem := s.mem.write b p.data } : State).ueClear b p.data.length
  { s1 with full := p.full.zipIdx.foldl (fun f (v, i) => setFull f (b + 16 * i) 1 v) s1.full }

/-- Put saved landing entries into the buffer of the new context address, ahead of every later arrival. -/
def State.landRestore (s : State) (x : Nat) (c : Context) (es : List (List Byte)) : State :=
  let used := (s.landed.filter fun l => l.ctx == x).map Landed.place
  let free := (List.range 8).filter fun p => !used.contains p
  let low : Int := s.landed.foldl (fun m l => min m l.seq) 0
  ((es.zip free).zipIdx.foldl (fun (s : State) (e, i) =>
    let (b, p) := e
    let seq : Int := low - es.length + i
    let w0 := ofBytes (b.take 8)
    let s1 := (s.sysPlotWrite (dieOf (coreOfCtx x)) c.plot (s.landAddr c.plot x p) (patch b 16 (toBytes 8 (wrap 64 seq)))).getD s
    { s1 with landed := s1.landed ++
        [⟨Fin.ofNat 256 (bits w0 40 8), x, c.plot, BitVec.ofNat 16 (gangOf c.taskid), landChan b, seq, p, min (bits w0 0 6) 32⟩] }) s)

/-- Install one member (R383, R388). -/
def State.installMember (s : State) (x gid : Nat) (im : ImageIn) (sv : Saved) (waiting raised : Bool) : State :=
  let core := coreOfCtx x
  let old := s.ctx x
  let (qs, left) := im.landing
  let a := match sv.cres with
    | some v =>
      if (sv.origin = 1 ∨ sv.origin = 2) ∨ memberOf im.c.taskid ≠ sv.issuer then im.c.w
      else im.c.w.putG 1 (v.setWidth 64)
    | none => im.c.w
  let c : Context := { im.c with
    st := if waiting then .barrier else .ready
    w := a, sh := a, readyAt := s.cycleNow core, since := s.tick, group := gid
    cstat := if raised then im.c.cstat ||| 1 else im.c.cstat
    chan := Vector.ofFn fun i => { im.c.chan[i] with recv := qs.getD i.val [], send := old.chan[i].send }
    cq := old.cq, wseq := old.wseq, sent := old.sent, firstSent := old.firstSent, unacked := old.unacked, nextStore := old.nextStore }
  let s1 := im.x.pads.foldl (fun s p => s.padRestore core p) s
  let s2 := im.x.eng.foldl (fun s e => s.engineSpadWrite core e.cpl e.obj) s1
  (s2.setCtx x c).landRestore x c left

/-- Remove a saved group from its list, its contexts still free. -/
def State.leaveRestore (s : State) (cl n : Nat) (sv : Saved) : State :=
  let s1 := sv.place.foldl State.freeCtx s
  { s1 with restore := s1.restore.set cl ((s.restoreList cl).eraseIdx n) }

/-- A restore whose check fails (R383). -/
def State.restoreFails (s : State) (cl n : Nat) (sv : Saved) (h : ObjHeader) : State :=
  let s1 := ((s.leaveRestore cl n sv).putW2 (cl / 10) sv.plot sv.obj false 1 (h.version + 1)).addRem sv.plot sv.gang.toNat 1
  let taskid : W64 := BitVec.ofNat 64 (sv.gang.toNat * 2 ^ 48 + h.index * 2 ^ 32)
  let ws := (bareRecord 0x16 .held 5 taskid h.kslot (s.plotid sv.plot) 0 0).set 7 (BitVec.ofNat 64 sv.obj)
  let (ra, s2) := s1.writeRecord (plotLog sv.plot) ws
  s2.trapKernel cl { Context.empty with plot := sv.plot, taskid := taskid, kslot := BitVec.ofNat 16 h.kslot } (ws.headD 0) ra sv.obj

/-- Install a checked group: every member becomes ready, or barrier-waiting, in one cycle (R383). -/
def State.restoreGroup (s : State) (cl n : Nat) (sv : Saved) (h : ObjHeader) (ims : List ImageIn) : State :=
  let s0 := (s.leaveRestore cl n sv).endPause sv.plot h.tsusp
  let (sl, raised) := s0.sleffOf sv.plot h.kslot
  let gid := s0.nextGroup
  let at_ := ims.zip sv.place
  let ctxOf (k : Nat) : Option Nat := (at_.find? fun e => memberOf e.1.c.taskid == k).map Prod.snd
  let ks := List.range (h.gsize + 1)
  let waits (k : Nat) : Bool := bitAt h.w6 (16 + k)
  let g : Group :=
    { plot := sv.plot, gang := BitVec.ofNat 16 h.gang, index := BitVec.ofNat 16 h.index, members := ks.map fun k => (ctxOf k).getD (8 * 640)
      live := ks.map fun k => (ctxOf k).isSome, arrived := ks.map waits, gen := BitVec.ofNat 32 (h.w6 / 2 ^ 32)
      deadline := s0.tick + 4 * sl, slice := 4 * sl, checked := false, stop := none }
  let s1 := at_.foldl (fun s e => s.installMember e.2 gid e.1 sv (waits (memberOf e.1.c.taskid)) raised)
    { s0.setGroup gid g with nextGroup := gid + 1 }
  (s1.giveUnits sv.plot (sv.units ++ (s1.plot sv.plot).unitsOf sv.obj h)).putW2 (cl / 10) sv.plot sv.obj false 2 h.version

/-- GROUP_RESTORE (R383): entry n of a cluster's restore list, once every engine-table entry is done. -/
def execGroupRestore (cl : ClusterId) (n : Nat) (s : State) : St State :=
  .next (match (s.restoreList cl.val)[n]? with
    | none => s
    | some x =>
      if x.place.isEmpty then s
      else match s.savedImages cl.val x with
        | none => s
        | some (h, ims) =>
          if x.place.any fun y => !s.coreUsable x.plot (coreOfCtx y) then
            let s1 := x.place.foldl State.freeCtx s
            { s1 with restore := s1.restore.set cl.val ((s1.restoreList cl.val).set n { x with place := [] }) }
          else if !enginesDone ims then s
          else match checkImages (((s.plot x.plot).kernels.find h.kslot).elim [] Kernel.live) ims with
            | .error _ => s.restoreFails cl.val n x h
            | .ok ims => s.restoreGroup cl.val n x h ims)

/-! ### The estate's release of a held group (R353) -/

/-- The entry that a FRELOBJ and a FRELCMD name. -/
def Estate.heldFor (e : Estate) (f : W64 × W64) : Option Held :=
  e.held.find? fun h => h.plot.val == bits f.2.toNat 0 8 && h.obj == f.1.toNat

/-- Whether the object of an entry has been written. -/
def State.heldWritten (s : State) (h : Held) : Bool :=
  !s.groups.any fun (_, g) => g.plot == h.plot && (g.stop.map fun st => st.obj == h.obj).getD false

/-- A command of the estate is over; the entry, if it acted, is gone. -/
def State.frelDone (s : State) (e : Nat) (f : W64 × W64) (h : Option Held) : State :=
  let x := s.estate e
  s.setEstate e { x with frelcmds := x.frelcmds.filter (· != f), held := x.held.filter fun y => some y != h }

/-- What the first command of a kind that can act now does. -/
def State.frelAct (s : State) (estate kind : Nat) (act : W64 × W64 → Held → Option State) : State :=
  let e := s.estate estate
  (e.frelcmds.findSome? fun f =>
    if bits f.2.toNat 56 8 ≠ kind then none
    else match e.heldFor f with
      | none => some (s.frelDone estate f none)
      | some h => act f h).getD s

/-- FREL_RESUME (R353): the trap object is placed as a CRES would, in a cluster that takes it. -/
def execFrelResume (estate : Nat) (s : State) : St State :=
  .next (s.frelAct estate 1 fun f h =>
    if !s.heldWritten h then none
    else
      let d := h.cluster / 10
      match s.objHeader d h.plot h.obj with
      | none => none
      | some hd =>
        if hd.busy then none
        else if hd.state ≠ 1 then some (s.frelDone estate f (some h))
        else ((s.objImages d h.plot h.obj hd).bind fun ims => s.cresCluster h.cluster h.plot ims).map fun cl =>
          let s1 := ((s.frelDone estate f (some h)).putW2 d h.plot h.obj true 2 (hd.version + 1)).addRem h.plot hd.gang (-1)
          s1.enterRestore cl
            { obj := h.obj, plot := h.plot, gang := BitVec.ofNat 16 hd.gang, strands := hd.gsize + 1
              level := s.recordLevel (cl / 10) h.plot hd.gang, since := s.tick, cres := some (BitVec.ofNat 32 (hd.version + 1))
              issuer := hd.issuer, origin := hd.origin, units := [], place := [] })

/-- FREL_REFUSE (R353): the record goes to the plot's log, and the group waits for the plot. -/
def execFrelRefuse (estate : Nat) (s : State) : St State :=
  .next (s.frelAct estate 2 fun f h =>
    let (ra, s1) := (s.frelDone estate f (some h)).writeRecord (plotLog h.plot) h.words
    let w (i : Nat) : Nat := (h.words.getD i 0).toNat
    some (s1.trapKernel h.cluster
      { Context.empty with plot := h.plot, taskid := BitVec.ofNat 64 (w 1), kslot := BitVec.ofNat 16 (bits (w 2) 48 16) }
      (h.words.headD 0) ra h.obj))

end Sys2Proof.Machine
end

