-- ==== Sys2Proof/Machine/Graphs.lean ====
section
/-!
DEFINITION. Gangs and their end (R236, R315 to R318), launches and graph nodes (R325 to R329, R332).
-/
namespace Sys2Proof.Machine

/-! ### Live gangs (R315, R316, R318) -/

/-- Whether a gang is live: a context, a record in a run queue or a saved group counts for it, or REM is not zero (R315). -/
def State.gangLive (s : State) (plot gang : Nat) : Bool :=
  (s.gang plot gang).rem != 0 ||
    s.ctxs.any (fun (_, c) => c.st != .free && c.plot.val == plot && gangOf c.taskid == gang) ||
    s.runq.any (fun (k, q) => k % 256 == plot && q.any fun r => r.gang == gang) ||
    s.restore.any (fun (_, l) => l.any fun x => x.plot.val == plot && x.gang.toNat == gang)

/-- GANG_END (R318, R421): the firmware notes the end, and the gang's landing entries are freed. -/
def execGangEnd (plot : PlotNo) (gang : Nat) (s : State) : St State :=
  .next (match s.gangs.find (gangKey plot gang) with
    | none => s
    | some g =>
      if g.ended.isSome || decide (65536 ≤ gang) || s.gangLive plot gang then s
      else
        { s with
          gangs := s.gangs.set (gangKey plot gang) { g with ended := some s.tick }
          landed := s.landed.filter fun l => !(l.plot == plot && l.gang.toNat == gang) })

/-- GANG_ID_FREE (R236): 100 µs after the end the identifier may be given again. -/
def execGangIdFree (plot : PlotNo) (gang : Nat) (s : State) : St State :=
  .next (match s.gangs.find (gangKey plot gang) with
    | none => s
    | some g =>
      match g.ended with
      | some t => if t + 400000 ≤ s.tick ∧ g.launch.isNone then { s with gangs := s.gangs.erase (gangKey plot gang) } else s
      | none => s)

/-- The lowest identifier that no gang of the plot has. -/
def State.newGang (s : State) (plot : Nat) : Option Nat :=
  ((List.range 65535).map (· + 1)).find? fun g => (s.gangs.find (gangKey plot g)).isNone && !s.gangLive plot g

/-! ### Launches (R328, R329) -/

/-- Address of a launch's record. -/
def Graph.recordAt (g : Graph) (asel : Nat) : Nat := g.compbase + 16 * asel

/-- A word written for a plot with a release at system scope. -/
def State.putWord (s : State) (plot va w : Nat) : State := (s.sysPlotWrite 0 plot va (toBytes 8 w)).getD s

/-- The launch fault (R328, R444). -/
def State.launchFault (s : State) (plot : PlotNo) : State :=
  (s.writeRecord (plotLog plot) (bareRecord 0x21 .logged 0 0 0 (s.plotid plot) 0 0)).2

/-- A write of a launch word. -/
def State.doLaunch (s : State) (plot : PlotNo) (word : W64) : State :=
  let p := s.plot plot
  let asel := bits word.toNat 16 16
  let h := bits word.toNat 32 32
  if !p.live then s
  else match p.graphs.find h with
    | none => s.launchFault plot
    | some g =>
      if bits word.toNat 1 15 ≠ 0 ∨ g.aselmax < asel ∨ p.policy.written ≠ 15 then s.launchFault plot
      else
        let l : Launch :=
          { plot := plot, graph := h, asel := asel, notify := bitAt word.toNat 0, nodes := g.nodes.map fun _ => .waiting, cause := none }
        { s.putWord plot (g.recordAt asel) 0 with launches := s.launches.set s.nextLaunch l, nextLaunch := s.nextLaunch + 1 }

/-- LAUNCH (R328). -/
def execLaunch (plot : PlotNo) (word : W64) (s : State) : St State := .next (s.doLaunch plot word)

/-! ### Nodes (R325, R326, R332) -/

def nodeWord (n : List W64) (i : Nat) : Nat := (n.getD i 0).toNat
def nodeKind (n : List W64) : Nat := bits (nodeWord n 0) 56 8

/-- Whether the edges into a node allow its start. -/
def Launch.allowed (l : Launch) (g : Graph) (i : Nat) : Bool :=
  g.edges.all fun (early, a, b) => b != i || l.nodes[a]? == some .done || (early && l.nodes[a]? == some .started)

/-- Whether a node's placement allows a cluster. -/
def placeAllows (place cl : Nat) : Bool := place == 0 || bitAt place cl

/-- The contexts that records waiting in a run queue will take. -/
def State.claimed (s : State) (cl plot : Nat) : Nat := (s.runQueue cl plot).length

/-- The cluster that takes the next group of a node (R325). -/
def State.nodeCluster (s : State) (plot place : Nat) : Option Nat :=
  let held (cl : Nat) : Bool := (List.range 16).any fun i => (s.plot plot).owns (.core (cl * 16 + i))
  bestBy (fun cl => 2 ^ 32 + s.freeContexts cl plot - s.claimed cl plot)
    ((List.range 40).filter fun cl => placeAllows place cl && held cl)

/-- The record of a member (R221, R325). -/
def nodeRecord (n args : List W64) (gang group member : Nat) : List W64 :=
  let w0 := nodeWord n 0
  let w1 := nodeWord n 1
  let arg (i : Nat) : W64 := args.getD i 0
  [recW0 (bits w0 32 16) (bits w0 0 32) (bits w1 44 4) false, recW1 gang group (bits w1 32 8) member] ++
    [arg 0, arg 1, arg 2, arg 3, arg 4, arg 5 + BitVec.ofNat 64 group]

/-- The groups of a KERNEL node, in GROUP order. -/
def State.placeGroups (s : State) (plot : Nat) (n args : List W64) (gang place : Nat) : Nat → Nat → Option State
  | 0, _ => some s
  | k + 1, group =>
    match s.nodeCluster plot place with
    | none => none
    | some cl =>
      ((List.range (bits (nodeWord n 1) 44 4 + 1)).foldl (fun s m => s.pushRun cl plot (nodeRecord n args gang group m)) s).placeGroups
        plot n args gang place k (group + 1)

/-- A node has started. -/
def State.nodeIs (s : State) (l i : Nat) (st : NodeState) : State :=
  match s.launches.find l with
  | none => s
  | some x => { s with launches := s.launches.set l { x with nodes := x.nodes.set i st } }

/-- An engine's operation for a node. -/
def State.nodeEngine (s : State) (l i : Nat) (plot : PlotNo) (op : Nat) (desc : List W64) : State :=
  { s with
    nextEngine := s.nextEngine + 1
    engines := s.engines ++
      [{ id := s.nextEngine, op := op, owner := .node l i, fork := (8 * 640, 0), plot := plot, gen := (s.plot plot).gen, core := 0, desc := desc, cpl := 0, stage := 0
         tole := 0xF0, qcw := 0, pos := 0, fix := 0, flags := 0, failed := [], cause := none, noted := false, stopAsked := false
         saved := false, mask := 0, wseq := 0, src := [], scales := [], soft := [] }] }

/-- Start a node whose predecessors allow it. -/
def State.startNode (s : State) (l i : Nat) (x : Launch) (g : Graph) (n : List W64) : State :=
  match nodeKind n with
  | 1 =>
    match s.newGang x.plot, s.plotRead 0 x.plot (g.argbase + 64 * (x.asel * g.nodes.length + i)) 64 with
    | some gang, some bs =>
      match s.placeGroups x.plot n (bytesWords 8 bs) gang (nodeWord n 2) (bits (nodeWord n 1) 48 16) 0 with
      | none => s
      | some s1 =>
        ({ s1 with gangs := s1.gangs.set (gangKey x.plot gang) { s1.gang x.plot gang with launch := some (l, i) } } : State).nodeIs l i .started
    | _, _ => s
  | 2 => (s.nodeEngine l i x.plot 0x1E (n.drop 1)).nodeIs l i .started
  | _ => (s.nodeEngine l i x.plot 0x40 ((n.drop 1).take 4)).nodeIs l i .started

/-- GRAPH_NODE_START (R325, R326). -/
def execGraphNodeStart (launch node : Nat) (s : State) : St State :=
  .next (match s.launches.find launch with
    | none => s
    | some x =>
      match (s.plot x.plot).graphs.find x.graph with
      | none => s
      | some g =>
        match g.nodes[node]?, x.nodes[node]? with
        | some n, some .waiting => if x.cause.isNone && x.allowed g node then s.startNode launch node x g n else s
        | _, _ => s)

/-- The gang of a node that has ended. -/
def State.nodeGang (s : State) (launch node : Nat) : Option Nat :=
  (s.gangs.find? fun (_, g) => g.launch == some (launch, node) && g.ended.isSome).map Prod.fst

/-- The end of a launch: word 1 of its record, then word 0, and the interrupt (R328, R329). -/
def State.endLaunch (s : State) (launch : Nat) (x : Launch) (g : Graph) : State :=
  let a := g.recordAt x.asel
  let status := match x.cause with
    | none => 1
    | some c => 0x100 + c
  let s1 := (s.putWord x.plot (a + 8) (s.timeOf x.plot)).putWord x.plot a status
  let s2 := if x.notify then s1.interrupt x.plot (if x.plot = 0 then 8 else 1) else s1
  { s2 with launches := s2.launches.erase launch }

/-- Whether every node, or after a fault every started node, is done (R326). -/
def Launch.over (x : Launch) : Bool := x.nodes.all fun n => n == .done || (x.cause.isSome && n == .waiting)

/-- Whether every write of strands and engines that have ended has been performed on every die: what the release of a launch's record waits
for (R329, R337; log entry 183). -/
def State.allPerformed (s : State) : Bool :=
  (s.ctxs.all fun (_, c) => c.st != .free || c.cq.isEmpty) && s.dies.toList.all fun d => d.out.isEmpty && d.updates.isEmpty

/-- A node is complete; the launch may be, and its last node's completion waits for what its release waits for. -/
def State.nodeDone (s old : State) (launch node : Nat) (x : Launch) (fault : Option Nat) : State :=
  let x1 := { x with nodes := x.nodes.set node .done, cause := x.cause.or fault }
  let s1 := { s with launches := s.launches.set launch x1 }
  match (s1.plot x.plot).graphs.find x.graph with
  | none => s1
  | some g => if !x1.over then s1 else if old.allPerformed then s1.endLaunch launch x1 g else old

/-- GRAPH_NODE_COMPLETE (R326): the gang has ended, or the operation has. -/
def execGraphNodeComplete (launch node : Nat) (s : State) : St State :=
  .next (match s.launches.find launch with
    | none => s
    | some x =>
      if x.nodes[node]? ≠ some .started then s
      else match s.engines.find? fun e => e.owner == .node launch node with
        | some e =>
          if e.noted then
            ({ s with engines := s.engines.filter fun y => y.id != e.id } : State).nodeDone s launch node x (e.failure.map Prod.fst)
          else s
        | none =>
          match s.nodeGang launch node with
          | none => s
          | some k =>
            ({ s with gangs := s.gangs.set k { s.gangs.get k ⟨0, none, none⟩ with launch := none } } : State).nodeDone s launch node x none)

end Sys2Proof.Machine
end

