-- ==== Sys2Proof/Machine/Fabric.lean ====
section
/-!
DEFINITION. The fabric: packets sent and met on arrival (R404 to R413, R418 to R420), landing entries (R421), remote operations (R414 to
R417), revokes (R447, R448), purses (R423).
-/
namespace Sys2Proof.Machine

/-! ### Routes (R405, R409) -/

def modNo : Nat := Config.moduleNumber.val

/-- A malformed route (R409). -/
def routeBad (r : W64 × W64) : Bool :=
  let a := r.1.toNat
  let kind := routeKind r
  decide (2 < kind) || bits a 3 29 != 0 || bits r.2.toNat 16 48 != 0 || bits r.2.toNat 0 16 == 0 || decide (9 < bits a 42 4) ||
    (kind == 1 && decide (a % 2 ^ 60 ≠ 0)) || (kind == 0 && bits a 0 3 != 0) || (kind == 2 && bits a 32 14 != 0)

/-- The context address that a route names; a die's agent is named by the die's first. -/
def routeTarget (r : W64 × W64) : CtxId :=
  let a := r.1.toNat
  Fin.ofNat 5120 (8 * (160 * bits a 46 2 + 16 * bits a 42 4 + bits a 38 4) + bits a 35 3)

/-- The half of a pairing that a plot holds with a module (R405). -/
def State.halfTo (s : State) (plot : PlotNo) (module : Nat) : Option Pairing :=
  s.pairings.find? fun p => p.plot == plot && p.module.val == module

/-- The half for a packet's source (R405). -/
def State.halfFrom (s : State) (module : Nat) (plot : PlotNo) : Option Pairing :=
  s.pairings.find? fun p => p.module.val == module && p.remote == plot

/-! ### Sending (R413, R420) -/

/-- The head of a send buffer. -/
def State.sendHead (s : State) (x : Nat) (k : KReg) : Option SendPacket := (s.ctx x).chan[k].send.head?

def State.setSend (s : State) (x : Nat) (k : KReg) (l : List SendPacket) : State :=
  let c := s.ctx x
  s.setCtx x { c with chan := c.chan.set k { c.chan[k] with send := l } }

/-- The offset that a packet's operation names; a message names none (R417). -/
def SendPacket.off (h : SendPacket) : Nat := if routeKind h.route = 2 then (h.words.getD 1 0).toNat else 0

/-- Whether another channel's packet to one target, a context or an agent, on one virtual channel has been sent and not accepted (R406,
R420). -/
def State.sendBlocked (s : State) (x : Nat) (k : KReg) (h : SendPacket) : Bool :=
  (List.range 8).any fun j =>
    j != k.val && match s.sendHead x (Fin.ofNat 8 j) with
      | none => false
      | some e =>
        (e.inFlight || e.refused != 0) && (routeKind e.route == 2) == (routeKind h.route == 2) && routeModule e.route == routeModule h.route && routeTarget e.route == routeTarget h.route &&
          bits e.route.1.toNat 56 4 == bits h.route.1.toNat 56 4

/-- The packet that a send buffer's head becomes. -/
def State.packetOf (s : State) (x : Nat) (k : KReg) (h : SendPacket) : Packet :=
  let a := h.route.1.toNat
  let m := routeModule h.route
  { kind := if routeKind h.route = 2 then .remote else .message
    num := h.num, srcModule := Fin.ofNat 256 modNo, srcPlot := h.plot, srcGen := h.gen
    tgtGen := if m = modNo then h.gen else ((s.halfTo h.plot m).map Pairing.gen).getD 0
    src := Fin.ofNat 5120 x, srcChan := k, tgtModule := Fin.ofNat 256 m, tgt := routeTarget h.route
    tgtChan := Fin.ofNat 8 (if routeKind h.route = 2 then bits a 0 3 else bits a 32 3)
    vc := Fin.ofNat 16 (bits a 56 4), gang := BitVec.ofNat 16 h.route.2.toNat, words := h.words }

/-- A failure reaches a strand (R417): at its next issue when it runs, else at once; one that is gone is not concerned. -/
def State.remoteFail (s : State) (x arg off : Nat) : State :=
  let c := s.ctx x
  match c.st with
  | .free => s
  | .draining => s
  | .running => s.setCtx x { c with failure := some (c.failure.getD (arg, off)) }
  | .frozen _ => s.setCtx x { c with failure := some (c.failure.getD (arg, off)) }
  | _ => s.fatal x arg off

/-- An operation is no longer owed an acknowledgement. -/
def State.settleOp (s : State) (x num : Nat) : State :=
  let c := s.ctx x
  s.setCtx x { c with unacked := c.unacked.filter (· != num) }

/-- A packet that cannot be sent, or that its target has discarded, leaves its send buffer; its strand, where it is still there, ends
(R405, R417, R448). -/
def State.dropHead (s : State) (x : Nat) (k : KReg) (h : SendPacket) (arg : Nat) : State :=
  let s1 := s.setSend x k ((s.ctx x).chan[k].send.drop 1)
  let s2 := if routeKind h.route = 2 then s1.settleOp x h.num else s1
  if arg ≠ 0 ∧ (s.ctx x).group = h.group then s2.remoteFail x arg h.off else s2

/-- The head of a send buffer leaves: to its target on this module, or out of the machine through the half that names the module, without
which the packet cannot be sent (R405). -/
def State.sendPacket (s : State) (x : Nat) (k : KReg) (h : SendPacket) : State :=
  if routeBad h.route || !s.routed h.plot h.route then s.dropHead x k h 1
  else
    let p := s.packetOf x k h
    let s1 := s.setSend x k ({ h with inFlight := true } :: (s.ctx x).chan[k].send.drop 1)
    if p.tgtModule.val = modNo then { s1 with fabric := s1.fabric ++ [p] } else s1

/-- Whether the head of a send buffer may be sent now: to another module only by a module that is on the fabric (R464). -/
def State.sendReady (s : State) (x : Nat) (k : KReg) (again : Bool) : Option SendPacket :=
  match s.sendHead x k with
  | none => none
  | some h => if h.inFlight || (!s.onFabric && routeModule h.route != modNo) || (h.refused != 0) != again || decide (s.tick < h.notBefore) || s.sendBlocked x k h then none else some h

/-- PACKET_SEND (R413): a head that has not been refused. -/
def execPacketSend (x : CtxId) (k : KReg) (s : State) : St State :=
  .next (match s.sendReady x.val k false with
    | some h => s.sendPacket x.val k h
    | none => s)

/-- REFUSED_RESEND (R420): 256 ns after a refusal reached it. -/
def execRefusedResend (x : CtxId) (k : KReg) (s : State) : St State :=
  .next (match s.sendReady x.val k true with
    | some h => s.sendPacket x.val k h
    | none => s)

/-! ### Purses (R423) -/

/-- An arrival adds to the purse of its gang on the die. -/
def State.purseGain (s : State) (die plot gang : Nat) : State :=
  let k := purseKey die plot gang
  { s with purses := s.purses.set k (min (s.purses.get k 0 + bits s.purseReg.toNat 0 8) (bits s.purseReg.toNat 8 8)) }

/-- Whether a purse's plot is at a multiple of 64 ns of its TIME. -/
def State.decays (s : State) (key : Nat) : Bool := s.timeOf (key / 65536 % 256) % 64 == 0

/-- PURSE_DECAY (R423): once in a nanosecond; an empty purse is dropped. -/
def execPurseDecay (s : State) : St State :=
  .next (if s.tick % 4 ≠ 0 ∨ s.purseNs = s.devns then s
    else
      { s with
        purseNs := s.devns
        purses := s.purses.filterMap fun (k, v) =>
          if !s.decays k then some (k, v) else if v ≤ 1 then none else some (k, v - 1) })

/-! ### Meeting a packet (R405, R419, R448) -/

/-- What the target module finds of a packet's names: the local plot, or the discard with the ARG that its sender receives, and the plot
whose LATEDROP counts it. -/
inductive Names where
  | ok (plot : PlotNo)
  | discard (arg : Nat) (counts : PlotNo)
deriving DecidableEq, Repr

def State.names (s : State) (p : Packet) : Names :=
  if p.srcModule.val = modNo then
    let g := (s.plot p.srcPlot).gen
    if p.srcGen ≠ g then .discard 0 p.srcPlot else if p.tgtGen ≠ g then .discard 5 p.srcPlot else .ok p.srcPlot
  else
    match s.halfFrom p.srcModule p.srcPlot with
    | none => .discard 7 0
    | some h =>
      if p.srcGen ≠ h.gen then .discard 0 h.plot
      else if p.tgtGen ≠ (s.plot h.plot).gen then .discard 5 h.plot
      else .ok h.plot

/-- An answer returns to a sender of this module; one of another leaves the machine. -/
def State.answer (s : State) (p : Packet) (k : PacketKind) : State :=
  if p.srcModule.val = modNo then { s with fabric := s.fabric ++ [{ p with kind := k }] } else s

/-- LATEDROP (R448): a saturating count. -/
def State.lateDrop (s : State) (plot : PlotNo) : State :=
  let p := s.plot plot
  s.setPlot plot { p with latedrop := BitVec.ofNat 32 (min (p.latedrop.toNat + 1) 0xFFFFFFFF) }

/-- The copy, for the log of a target plot, of the record that a failure raises at its sender, as far as the packet carries its words (R417;
log entry 185). -/
def State.failCopy (s : State) (p : Packet) (plot : PlotNo) (arg off : Nat) : State :=
  (s.writeRecord (plotLog plot) (bareRecord 0x1C .logged arg (BitVec.ofNat 64 (p.gang.toNat * 2 ^ 48)) 0 (plotId p.srcGen p.srcPlot)
    (coreId p.src) off)).2

/-- A packet is discarded (R448): counted, and a failure that a torn-down target plot raises copied to its log. -/
def State.discards (s : State) (p : Packet) (arg : Nat) (plot : PlotNo) : State :=
  let s1 := s.lateDrop plot
  if arg = 5 then s1.failCopy p plot 5 (if p.kind = .remote then (p.words.getD 1 0).toNat else 0) else s1

/-- Whether a context's channel takes a packet at once (R419 step 1): not that of a function that is disabled (R446). -/
def State.delivers (s : State) (p : Packet) (plot : PlotNo) : Bool :=
  let c := s.ctx p.tgt
  let ch := c.chan[p.tgtChan]
  c.st != .free && c.st != .draining && c.st != .loading && !s.fnHeld plot && c.plot == plot && gangOf c.taskid == p.gang.toNat &&
    ch.route.isSome && !(s.landed.any fun l => l.ctx == p.tgt.val && l.plot == plot && l.gang == p.gang && l.chan == p.tgtChan) &&
    decide (ch.recv.length + p.words.length ≤ 64)

/-- SRC of a landing entry (R418). -/
def packetSrc (p : Packet) : Nat :=
  let core := p.src.val / 8
  p.gang.toNat * 2 ^ 48 + p.srcModule.val * 2 ^ 40 + core / 160 * 2 ^ 38 + core % 160 / 16 * 2 ^ 34 + core % 16 * 2 ^ 30 + p.src.val % 8 * 2 ^ 27 +
    p.tgtChan.val * 2 ^ 24 + p.vc.val * 2 ^ 20 + p.words.length

/-- The bytes of a landing entry (R418). -/
def landEntry (src atime seq : Nat) (ws : List W64) : List Byte :=
  layout 0 320 [(0, [src, atime, seq].flatMap (toBytes 8)), (64, wordBytes ws)]

/-- A packet lands in its context address's buffer, if there is a free entry that can be written: a translation that fails, or a word with an
uncorrectable error, keeps it out (R419 step 2). -/
def State.lands (s : State) (p : Packet) (plot : PlotNo) (seq : Nat) : Option State :=
  let x := p.tgt.val
  let used := (s.landed.filter fun l => l.ctx == x).map Landed.place
  match (List.range 8).find? fun i => !used.contains i with
  | none => none
  | some i =>
    match s.walkRange (dieOf (coreOfCtx x)) plot false true (s.landAddr plot x i) 320 with
    | none => none
    | some ps =>
      if ps.any fun q => s.ueHit q.1 q.2 then none
      else
        let s1 := s.sysPieces ps (landEntry (packetSrc p) (s.timeOf plot) seq p.words)
        some { s1 with landed := s1.landed ++ [⟨p.srcModule, x, plot, p.gang, p.tgtChan, seq, i, p.words.length⟩] }

/-- A reply's packet that another follows: the first 32 words of a GET's 33 (R413, R416). -/
def moreComes (ws : List W64) : Bool := ws.length == 32 && remoteOp ws == 2 && bits (ws.headD 0).toNat 48 5 == 31

/-- A reply has come for the operation of its number. -/
def State.replyCame (s : State) (p : Packet) : State :=
  if moreComes p.words then s else
  let c := s.ctx p.tgt
  s.setCtx p.tgt { c with loads := c.loads.filter fun l => !(l.kind == .remote p.tgtChan p.srcModule && l.size == p.num) }

/-- A message or a reply at its context address (R419): the state, and whether it was taken. Every arrival has its number there (R418; log
entry 184) and adds to the purse. -/
def State.meet (s : State) (p : Packet) (plot : PlotNo) : State × Bool :=
  let x := p.tgt.val
  let seq := s.nextSeq.get x 0 + 1
  let s0 := s.purseGain (dieOf (coreOfCtx x)) plot p.gang.toNat
  let s1 := { s0 with nextSeq := s0.nextSeq.set x seq }
  let took (t : State) : State := if p.kind = .reply then t.replyCame p else t
  if s.delivers p plot then
    let c := s1.ctx x
    let ch := c.chan[p.tgtChan]
    (took (s1.setCtx x { c with chan := c.chan.set p.tgtChan { ch with recv := ch.recv ++ p.words } }), true)
  else match s1.lands p plot seq with
    | some s2 => (took s2, true)
    | none => (s1, false)

/-- A refused or discarded head, or an accepted one (R413, R420, R448). -/
def State.headAnswer (s : State) (p : Packet) : State :=
  match s.sendHead p.src p.srcChan with
  | none => s
  | some h =>
    let rest := (s.ctx p.src).chan[p.srcChan].send.drop 1
    if !h.inFlight then s
    else match p.kind with
      | .accepted => s.setSend p.src p.srcChan rest
      | .refused => s.setSend p.src p.srcChan ({ h with inFlight := false, refused := h.refused + 1, notBefore := s.tick + 1024 } :: rest)
      | .discarded arg => s.dropHead p.src p.srcChan h arg
      | _ => s

/-- A packet of this module's or another's meets its target. A reply of this module that is refused is sent again (R420); one of another
is sent again from there. -/
def State.meetPacket (s : State) (p : Packet) : State :=
  match p.kind with
  | .message =>
    match s.names p with
    | .discard arg q => (s.discards p arg q).answer p (.discarded arg)
    | .ok plot =>
      let (s1, took) := s.meet p plot
      s1.answer p (if took then .accepted else .refused)
  | .reply =>
    match s.names p with
    | .discard _ q => s.lateDrop q
    | .ok plot =>
      let (s1, took) := s.meet p plot
      if took || p.srcModule.val != modNo then s1 else { s1 with refusedReplies := s1.refusedReplies ++ [(p, s.tick + 1024)] }
  | .remote =>
    match s.names p with
    | .discard arg q => (s.discards p arg q).answer p (.discarded arg)
    | .ok _ =>
      let d := dieOf (coreOfCtx p.tgt.val)
      let die := s.die d
      (s.setDie d { die with agent := die.agent ++ [p] }).answer p .accepted
  | _ => s.headAnswer p

/-- Packets of one source, target, virtual channel and class keep their order (R406): a context address is one target, an agent another. -/
def sameWay (p q : Packet) : Bool :=
  let data (p : Packet) : Bool := p.kind == .message || p.kind == .remote || p.kind == .reply
  p == q || (p.srcModule == q.srcModule && p.src == q.src && p.tgtModule == q.tgtModule && p.tgt == q.tgt && p.vc == q.vc && data p && p.kind == q.kind)

/-- Whether a packet ends at this module. -/
def toHere (p : Packet) : Bool :=
  match p.kind with
  | .message => p.tgtModule.val == modNo
  | .remote => p.tgtModule.val == modNo
  | .reply => p.tgtModule.val == modNo
  | _ => p.srcModule.val == modNo

/-- Whether a packet comes from another module. -/
def fromOutside (p : Packet) : Bool :=
  match p.kind with
  | .message => p.srcModule.val != modNo
  | .remote => p.srcModule.val != modNo
  | .reply => p.srcModule.val != modNo
  | .accepted => p.tgtModule.val != modNo
  | .refused => false
  | .discarded _ => p.tgtModule.val != modNo
  | .ack => false
  | .failed .. => false

/-- Whether a packet of this module is the first of its order: a refused reply stands before those that follow it, until it is sent again. -/
def State.firstOnWay (s : State) (p : Packet) : Bool :=
  match s.refusedReplies.find? fun e => sameWay e.1 p with
  | some (q, t) => q == p && decide (t ≤ s.tick)
  | none => s.fabric.find? (sameWay · p) == some p

/-- An arrival that this event delivers: not an answer that another event delivers. -/
def arrives : PacketKind → Bool
  | .ack => false
  | .refused => false
  | .failed .. => false
  | _ => true

/-- PACKET_ARRIVAL (R419): a packet on its way within the module, the first of its order, or one from another module. -/
def execPacketArrival (p : Packet) (s : State) : St State :=
  .next (if !toHere p then s
    else if fromOutside p then (if s.onFabric && decide (p.words.length ≤ (if p.kind = .remote then 34 else 32)) then s.meetPacket p else s)
    else if arrives p.kind && s.firstOnWay p then
      ({ s with fabric := s.fabric.erase p, refusedReplies := s.refusedReplies.filter fun e => e.1 != p } : State).meetPacket p
    else s)

/-- LANDING_FULL_REPLY_ARRIVAL (R420): a refusal reaches the head of a send buffer, from within the module or from another. -/
def execLandingFullReplyArrival (x : CtxId) (k : KReg) (s : State) : St State :=
  .next (match s.fabric.find? fun p => p.kind == .refused && p.src == x && p.srcChan == k && toHere p with
    | some p => ({ s with fabric := s.fabric.erase p } : State).headAnswer p
    | none =>
      match s.sendHead x.val k with
      | none => s
      | some h =>
        if h.inFlight && routeModule h.route != modNo then s.headAnswer { s.packetOf x.val k h with kind := .refused } else s)

/-! ### Landing entries (R421) -/

/-- LANDING_ENTRY_MOVE (R421): the oldest entry of a bound channel moves into its receive queue. -/
def execLandingEntryMove (x : CtxId) (k : KReg) (s : State) : St State :=
  let c := s.ctx x.val
  let ch := c.chan[k]
  .next (if c.st = .free ∨ c.st = .draining ∨ c.st = .loading ∨ ch.route.isNone then s
    else match (s.landedOf x.val c).find? fun l => l.chan == k with
      | none => s
      | some l =>
        if 64 < ch.recv.length + l.words then s
        else
          let ws := bytesWords l.words (slice (s.landBytes l) 64 256)
          ({ s with landed := s.landed.erase l } : State).setCtx x.val { c with chan := c.chan.set k { ch with recv := ch.recv ++ ws } })

/-! ### Remote operations (R414 to R417) -/

/-- The address word: the offset, beyond every handle when a reserved bit is set. -/
def remoteOff (ws : List W64) : Nat := (ws.getD 1 0).toNat

/-- What an operation asks of its handle: bytes, alignment, and the rights. -/
def remoteAsk (ws : List W64) : Nat × Nat × Bool × Bool :=
  let h := (ws.headD 0).toNat
  let n := bits h 48 5 + 1
  let size := 2 ^ bits h 54 2
  match remoteOp ws with
  | 2 => (8 * n, 8, true, false)
  | 3 => (size, size, true, true)
  | _ => (8 * n, 8, false, true)

/-- The device address of an operation, or its ARG (R417). -/
def State.remoteTarget (s : State) (plot : PlotNo) (gen : BitVec 16) (ws : List W64) : Except Nat Nat :=
  let (n, al, r, w) := remoteAsk ws
  let off := remoteOff ws
  if remoteLen (ws.headD 0) ≠ some ws.length then .error 1
  else if off % al ≠ 0 ∨ 2 ^ 40 ≤ off then .error 3
  else match s.handleAt plot gen.toNat (bits (ws.headD 0).toNat 22 22) off n r w with
    | .error c => .error (c + 1)
    | .ok (.host _) => .error 2
    | .ok (.dev a) =>
      match regionOf a, s.engineAddr plot a with
      | .ws .., _ => .error 2
      | .none, _ => .error 2
      | _, none => .error 2
      | _, some k => if r && s.ueHit k n then .error 2 else .ok k

/-- An operation performed at module scope: the words of its reply, if it has one, and the state (R415, R416). -/
def State.remoteDo (s : State) (d a : Nat) (ws : List W64) : Option (List W64) × State :=
  let h := (ws.headD 0).toNat
  let tag := bits h 0 16
  let head (op len : Nat) : W64 := BitVec.ofNat 64 (op * 2 ^ 60 + len * 2 ^ 48 + tag)
  match remoteOp ws with
  | 0 => (none, s.sysWrite a (wordBytes (ws.drop 2)))
  | 1 => (some [head 1 (bits h 48 5)], s.sysWrite a (wordBytes (ws.drop 2)))
  | 2 =>
    let n := bits h 48 5 + 1
    (some (head 2 (n - 1) :: bytesWords n (s.devRead d a (8 * n))), s)
  | _ =>
    let wide := bits h 54 2 == 3
    let n := if wide then 8 else 4
    let kinds : List AtKind := [.add, .min, .max, .minu, .maxu, .and, .or, .xor, .xchg, .cas, .fadd, .fmax]
    let k := kinds.getD (bits h 56 4) .add
    let old := ofBytes (match regionOf a with
      | .hbm => s.homeRead a n
      | _ => s.mem.read a n)
    let m := 2 ^ (8 * n)
    let new := k.new (8 * n) old ((ws.getD 2 0).toNat % m) ((ws.getD 3 0).toNat % m)
    (some [head 3 (bits h 48 5), BitVec.ofNat 64 old], s.sysWrite a (toBytes n new))

/-- The packets of a reply. -/
def replyPackets (p : Packet) (ws : List W64) : List Packet := (wordRuns 2 ws).map fun ws => { p with
    kind := .reply, srcModule := p.tgtModule, srcGen := p.tgtGen, tgtGen := p.srcGen, src := p.tgt, srcChan := 0
    tgtModule := p.srcModule, tgt := p.src, tgtChan := p.tgtChan, words := ws }

/-- The failure of an operation: to its sender, with a copy of the record in the target plot's log (R417). -/
def State.remoteFails (s : State) (p : Packet) (plot : PlotNo) (arg off : Nat) : State := (s.failCopy p plot arg off).answer p (.failed arg off)

/-- REMOTE_OPERATION_PERFORM (R415): entry n of a die's agent, the oldest of its source and virtual channel. -/
def execRemoteOperationPerform (d : DieId) (n : Nat) (s : State) : St State :=
  let die := s.die d.val
  .next (match die.agent[n]? with
    | none => s
    | some p =>
      if (die.agent.take n).any fun q => q.srcModule == p.srcModule && q.src == p.src && q.vc == p.vc then s
      else
        let s1 := s.setDie d.val { die with agent := die.agent.eraseIdx n }
        match s.names p with
        | .discard arg q => if arg = 0 then s1.lateDrop q else (s1.discards p arg q).answer p (.failed arg (remoteOff p.words))
        | .ok plot =>
          match s.remoteTarget plot p.tgtGen p.words with
          | .error arg => s1.remoteFails p plot arg (remoteOff p.words)
          | .ok a =>
            let (rep, s2) := s1.remoteDo d.val a p.words
            let s3 := if remoteOp p.words = 2 then s2 else s2.answer p .ack
            match rep with
            | none => s3
            | some ws => if p.srcModule.val = modNo then { s3 with fabric := s3.fabric ++ replyPackets p ws } else s3)

/-- Whether an operation of a context is still within this module: in a send buffer, on its way, at an agent, or as an acknowledgement. -/
def State.opHere (s : State) (x num : Nat) : Bool :=
  let owes (p : Packet) : Bool :=
    p.src.val == x && p.srcModule.val == modNo && p.num == num && (p.kind == .remote || p.kind == .ack || p.kind matches .failed ..)
  s.fabric.any owes || s.dies.toList.any (fun d => d.agent.any owes) ||
    (s.ctx x).chan.toList.any fun k => k.send.any fun h => !h.inFlight && routeKind h.route == 2 && h.num == num

/-- The operations that owe a context an acknowledgement from another module. -/
def State.opsOutside (s : State) (x : Nat) : List Nat := (s.ctx x).unacked.filter fun n => !s.opHere x n

/-- REMOTE_ACK_ARRIVAL (R407): the acknowledgement of operation n, on its way within the module or from another module. -/
def execRemoteAckArrival (x : CtxId) (n : Nat) (s : State) : St State :=
  .next (match s.fabric.find? fun p => p.kind == .ack && p.src == x && p.num == n && toHere p with
    | some p => ({ s with fabric := s.fabric.erase p } : State).settleOp x n
    | none => if (s.opsOutside x).contains n then s.settleOp x n else s)

/-- Whether a context waits for something of another module. -/
def State.awaitsOutside (s : State) (x : Nat) : Bool :=
  let c := s.ctx x
  !(s.opsOutside x).isEmpty || c.loads.any Load.isReply ||
    c.chan.toList.any fun k => k.send.any fun h => h.inFlight && routeModule h.route != modNo

/-- A failure of an operation at its sender: it ends the strand that sent it, where that is still there. -/
def State.opFails (s : State) (x num arg off : Nat) : State :=
  let s1 := s.settleOp x num
  if num < (s.ctx x).firstSent then s1 else s1.remoteFail x arg off

/-- REMOTE_FAILURE (R417): a failure on its way within the module; or one from another, of the oldest operation that is there. -/
def execRemoteFailure (x : CtxId) (arg offset : Nat) (s : State) : St State :=
  .next (match s.fabric.find? fun p => p.kind == .failed arg offset && p.src == x && toHere p with
    | some p => ({ s with fabric := s.fabric.erase p } : State).opFails x.val p.num arg offset
    | none =>
      if s.awaitsOutside x.val ∧ 1 ≤ arg ∧ arg ≤ 7 then s.opFails x.val ((s.opsOutside x).headD (s.ctx x).sent) arg offset else s)

/-! ### Revokes (R447) -/

/-- REVOKE_ARRIVAL (R447): a plot of another module has been torn down; a strand that waits for a reply from it ends. -/
def execRevokeArrival (module plot gen : Nat) (s : State) : St State :=
  .next (
    let hit (p : Pairing) : Bool := p.module.val == module && p.remote.val == plot && p.gen.toNat != gen % 65536
    let mine := (s.pairings.filter hit).map Pairing.plot
    let waits := s.ctxs.filterMap fun (x, c) =>
      if mine.contains c.plot then (c.loads.find? fun l => match l.kind with
        | .remote _ m => m == module
        | _ => false).map fun l => (x, l.addr) else none
    let s1 := { s with
      pairings := s.pairings.filter fun p => !hit p
      landed := s.landed.filter fun l => !(mine.contains l.plot && l.src.val == module) }
    waits.foldl (fun s x => s.remoteFail x.1 5 x.2) s1)

end Sys2Proof.Machine
end

