-- ==== Sys2Proof/Machine/Management.lean ====
section
/-!
DEFINITION. The management commands of every level (R266, R333, R363, R405, R440 to R449, R454, R456).
-/
namespace Sys2Proof.Machine

/-! ### Pages, levels and rights (R440 to R442) -/

def State.page (s : State) : Page → MgmtPage
  | .owner => s.ownerPage
  | .estate n => (s.estate n).page
  | .plot n => (s.plot n).page

def State.setPage (s : State) (p : Page) (x : MgmtPage) : State :=
  match p with
  | .owner => { s with ownerPage := x }
  | .estate n => s.setEstate n { s.estate n with page := x }
  | .plot n => s.setPlot n { s.plot n with page := x }

/-- The effective rights of a level (R442). -/
def State.effRights (s : State) (p : Page) : BitVec 5 :=
  match p with
  | .owner => 31
  | .estate n => if (s.estate n).live then (s.estate n).rights else 0
  | .plot n =>
    if !(s.plot n).live then 0 else if n = 0 then (s.plot n).rights else (s.plot n).rights &&& (s.estate (s.plot n).estate).rights

def State.hasRight (s : State) (p : Page) (b : Nat) : Bool := (s.effRights p).getLsbD b

/-- Whether the level held a right when its command's MCMD write was received (R442). -/
def State.granted (s : State) (p : Page) (b : Nat) : Bool := (s.page p).rights.getLsbD b

/-- Whether a level holds a plot. -/
def State.holdsPlot (s : State) (p : Page) (n : Nat) : Bool :=
  match p with
  | .owner => true
  | .estate e => n != 0 && (s.plot n).live && (s.plot n).estate == e.val
  | .plot m => m.val == n

/-- The end of a command: STATUS, MRES where one is named, and the state. -/
structure CmdOut where
  status : Nat
  mres : Option W64
  s : State

/-- A command's arguments. -/
abbrev Args := Vector W64 4
def Args.n (a : Args) (i : Fin 4) : Nat := a[i].toNat

/-- A command that ends with a STATUS and no effect. -/
def State.fails (s : State) (st : Nat) : CmdOut := ⟨st, none, s⟩
def State.done (s : State) : CmdOut := ⟨0, none, s⟩
def State.gives (s : State) (v : Nat) : CmdOut := ⟨0, some (BitVec.ofNat 64 v), s⟩

/-- The command that a page has started. -/
def MgmtPage.op (x : MgmtPage) : Nat := bits x.mcmd.toNat 56 8

/-- Run a page's command, the first of those in progress: its STATUS and result stand when BUSY clears (R440). Commands act in the order of
their MCMD writes (DEDUCED, log entry 186). -/
def State.runCmd (s : State) (p : Page) (op : Nat) (f : State → Args → CmdOut) : St State :=
  let x := s.page p
  .next (if !x.busy || x.op != op || s.cmds.head? != some p then s
    else
      let o := f s x.marg
      let y := o.s.page p
      { o.s.setPage p { y with busy := false, status := BitVec.ofNat 8 o.status, mres := o.mres.getD y.mres } with cmds := s.cmds.drop 1 })

/-! ### Estates and plots (R441, R447, R454) -/

def argPlot (a : Args) : Nat := a.n 0 % 256
def estateOk (e : Nat) : Bool := decide (1 ≤ e ∧ e ≤ 16)

/-- The estate that holds a virtual function. -/
def State.holder (s : State) (vf : Nat) : Option Nat :=
  (s.estates.find? fun (_, x) => x.live && decide (x.firstVf ≤ vf ∧ vf < x.firstVf + x.vfs)).map Prod.fst

/-- ESTATE_CREATE. -/
def estateCreateCmd (p : Page) (s : State) (a : Args) : CmdOut :=
  let e := a.n 0 % 256
  let first := bits (a.n 0) 8 8
  let n := bits (a.n 0) 16 8
  if p ≠ .owner then s.fails 1
  else if !estateOk e || n == 0 || first == 0 || decide (256 < first + n) then s.fails 2
  else if (s.estate e).live || (List.range n).any fun i => (s.holder (first + i)).isSome then s.fails 3
  else (s.setEstate e { Estate.absent with live := true, firstVf := first, vfs := n, page := (s.estate e).page }).done
def execEstateCreate (p : Page) (s : State) : St State := s.runCmd p 0x01 (estateCreateCmd p)

/-- ESTATE_DESTROY. -/
def estateDestroyCmd (p : Page) (s : State) (a : Args) : CmdOut :=
  let e := a.n 0 % 256
  if p ≠ .owner then s.fails 1
  else if !estateOk e then s.fails 2
  else if !(s.estate e).live then s.fails 4
  else if s.plots.any fun (_, x) => x.live && x.estate == e then s.fails 3
  else (s.setEstate e { Estate.absent with page := (s.estate e).page }).done
def execEstateDestroy (p : Page) (s : State) : St State := s.runCmd p 0x02 (estateDestroyCmd p)

/-- PLOT_CREATE: within the estate's functions, not within 2 ms of its number's destruction. -/
def plotCreateCmd (p : Page) (s : State) (a : Args) : CmdOut :=
  let n := argPlot a
  let old := s.plot n
  match p with
  | .estate e =>
    if !s.granted p 0 || n == 0 || s.holder n != some e.val then s.fails 1
    else if old.live || (old.destroyed.map fun t => decide (s.tick < t + 8000000)).getD false then s.fails 3
    else
      (s.setPlot n { Plot.absent with
        live := true, estate := e, prot := bitAt (a.n 0) 8, keyslot := bits (a.n 0) 16 8, gen := old.gen, page := old.page
        msix := old.msix }).done
  | _ => s.fails 1
def execPlotCreate (p : Page) (s : State) : St State := s.runCmd p 0x03 (plotCreateCmd p)

/-- A resource less another. -/
def Resource.less (a b : Resource) : List Resource :=
  match a, b with
  | .range x n, .range y m =>
    if x < y + m ∧ y < x + n then
      (if x < y then [.range x (y - x)] else []) ++ (if y + m < x + n then [.range (y + m) (x + n - (y + m))] else [])
    else [a]
  | _, _ => if a = b then [] else [a]

/-- A list of resources less one. -/
def takeBack (l : List Resource) (r : Resource) : List Resource := l.flatMap fun x => x.less r

/-- Whether a list of resources holds all of one: an HBM range may lie over several. -/
def holdsAll (l : List Resource) (r : Resource) : Bool := (l.foldl takeBack [r]).isEmpty

/-- A core leaves quarantine with the last of the segments of it that its plot held (R454). -/
def releaseCores (l : List Quarantine) : List Quarantine :=
  l.filter fun q => match q.res with
    | .core n => l.any fun x => x.plotid == q.plotid && match x.res with
      | .segment k => k / 12 == n
      | _ => false
    | _ => true

/-- A protected plot's resources leave its estate's holding and are quarantined (R454; DEDUCED, log entry 187). -/
def State.quarantinePlot (s : State) (n : Nat) (p : Plot) : State :=
  if !p.prot then s
  else
    let e := s.estate p.estate
    { s.setEstate p.estate { e with grants := p.grants.foldl takeBack e.grants } with
      quarantine := releaseCores (s.quarantine ++ p.grants.map fun r => ⟨r, some p.keyslot, plotId p.gen (Fin.ofNat 256 n)⟩) }

/-- The dictionaries of the kernels that a condition picks leave every core's store (R55). -/
def State.dropDicts (s : State) (gone : Nat → Bool) : State :=
  { s with cores := s.cores.mapVals fun _ c => { c with dicts := c.dicts.filter fun d => !gone d.1 } }

/-- The teardown of a plot (R447): everything of it goes, its generation advances, a protected plot's resources are quarantined. -/
def State.destroyPlot (s : State) (n : Nat) : State :=
  let p := s.plot n
  let mine := (s.ctxs.filter fun (_, c) => c.st != .free && c.plot.val == n).map Prod.fst
  let s1 := mine.foldl State.freeCtx s
  let s2 := { s1 with
    engines := s1.engines.filter fun e => e.plot.val != n
    groups := s1.groups.filter fun (_, g) => g.plot.val != n
    runq := s1.runq.filter fun (k, _) => k % 256 != n
    restore := s1.restore.mapVals fun _ l => l.filter fun x => x.plot.val != n
    launches := s1.launches.filter fun (_, l) => l.plot.val != n
    gangs := s1.gangs.filter fun (k, _) => k / 65536 != n
    purses := s1.purses.filter fun (k, _) => k / 65536 % 256 != n
    landed := s1.landed.filter fun l => l.plot.val != n
    pairings := s1.pairings.filter fun h => h.plot.val != n }
  let e := p.estate
  let s3 := s2.setEstate e { s2.estate e with held := (s2.estate e).held.filter fun h => h.plot.val != n }
  ((s3.quarantinePlot n p).dropDicts fun key => key / 65536 == n).setPlot n { Plot.absent with
    gen := p.gen + 1, destroyed := some s.tick, page := p.page, msix := p.msix, latedrop := p.latedrop }

/-- PLOT_DESTROY. -/
def plotDestroyCmd (p : Page) (s : State) (a : Args) : CmdOut :=
  let n := argPlot a
  match p with
  | .plot _ => s.fails 1
  | _ =>
    if !s.granted p 1 then s.fails 1
    else if n = 0 then s.fails 2
    else if !(s.plot n).live then s.fails 4
    else if !s.holdsPlot p n then s.fails 1
    else (s.destroyPlot n).done
def execPlotDestroy (p : Page) (s : State) : St State := s.runCmd p 0x04 (plotDestroyCmd p)

/-! ### Policy (R363, R443, R444) -/

/-- The level that holds a field: 0 the plot, 1 the estate, 2 the owner; none for an unknown identifier. -/
def fieldHolder (id : Nat) : Option Nat :=
  if id = 0x02 ∨ id = 0x03 ∨ id = 0x05 ∨ id = 0x0A ∨ id = 0x0F then some 1
  else if (0x06 ≤ id ∧ id ≤ 0x08) ∨ id = 0x0E then some 2
  else if 1 ≤ id ∧ id ≤ 0x0D then some 0
  else none

def pageRank : Page → Nat
  | .plot _ => 0
  | .estate _ => 1
  | .owner => 2

/-- A field's value. -/
def Policy.read (p : Policy) (id : Nat) : Nat :=
  match id with
  | 0x01 => p.priobase | 0x02 => p.bandlo | 0x03 => p.bandhi | 0x04 => p.slice | 0x05 => p.crights.toNat | 0x06 => p.ctxbase
  | 0x07 => p.ctxmax | 0x08 => p.imgmax | 0x09 => p.placeremote.toNat | 0x0A => p.scopelim.toNat | 0x0B => p.hidepause.toNat
  | 0x0C => p.trapkslot.toNat | 0x0D => p.trapentry.toNat | 0x0E => p.landbase | _ => p.qcount

/-- Whether every page of a range of a plot is pinned; where the plot or its estate has no table yet nothing can be tested, and the range is
taken (R363, R444; DEDUCED, log entry 129). -/
def State.pinnedRange (s : State) (n va len : Nat) : Bool :=
  let p := s.plot n
  if p.root.isNone || (n != 0 && (s.estate p.estate).root.isNone) then true
  else (pageCuts (len / 65536 + 2) va len).all fun c => match s.walk 0 n (c.1 / 65536 * 65536) with
    | .page _ _ _ _ _ _ pin _ => pin
    | .fail .. => false

/-- A field written, or none outside its limits. -/
def Policy.put (p : Policy) (slots : Nat → Bool) (pinned : Nat → Nat → Bool) (id v : Nat) : Option Policy :=
  let when_ (b : Bool) (q : Policy) : Option Policy := if b then some q else none
  match id with
  | 0x01 => when_ (v ≤ 47) { p with priobase := v }
  | 0x02 => when_ (v ≤ p.bandhi) { p with bandlo := v }
  | 0x03 => when_ (p.bandlo ≤ v && decide (v ≤ 47)) { p with bandhi := v }
  | 0x04 => when_ (1 ≤ v && decide (v < 2 ^ 32)) { p with slice := v }
  | 0x05 => when_ (v < 16) { p with crights := BitVec.ofNat 4 v }
  | 0x06 => when_ (v % 0x200000 = 0 && decide (v < 2 ^ 56) && pinned v (max 1 (p.ctxmax * (256 + p.imgmax)))) { p with ctxbase := v, written := p.written ||| 1 }
  | 0x07 => when_ (1 ≤ v && decide (v ≤ 5120)) { p with ctxmax := v, written := p.written ||| 2 }
  | 0x08 => when_ (v % 4096 = 0 && decide (12288 ≤ v ∧ v ≤ 2 ^ 24)) { p with imgmax := v, written := p.written ||| 4 }
  | 0x09 => when_ (v < 2) { p with placeremote := v == 1 }
  | 0x0A => when_ (v < 2) { p with scopelim := v == 1 }
  | 0x0B => when_ (v < 2) { p with hidepause := v == 1 }
  | 0x0C => when_ (v = 0xFFFF || slots v) { p with trapkslot := BitVec.ofNat 16 v }
  | 0x0D => when_ (v < 2 ^ 32) { p with trapentry := BitVec.ofNat 32 v }
  | 0x0E => when_ (v % 65536 = 0 && decide (v < 2 ^ 56) && pinned v 13107200) { p with landbase := v, written := p.written ||| 8 }
  | 0x0F => when_ (v ≤ 4096) { p with qcount := v }
  | _ => none

/-- What both forms of POLICY test: the field's identifier, or the STATUS. -/
def policyField (p : Page) (s : State) (a : Args) : Except Nat (Nat × Nat) :=
  let n := argPlot a
  let id := a.n 1 % 128
  match fieldHolder id with
  | none => .error 2
  | some h =>
    if 256 ≤ a.n 1 then .error 2
    else if !s.granted p 2 then .error 1
    else if !(s.plot n).live then .error 4
    else if !s.holdsPlot p n then .error 1
    else .ok (id, h)

/-- POLICY with MARG1 [7] = 0: a write by the level that holds the field; the owner is every level above the owner plot. -/
def policyWriteCmd (p : Page) (s : State) (a : Args) : CmdOut :=
  let n := argPlot a
  match policyField p s a with
  | .error st => s.fails st
  | .ok (id, h) =>
    if pageRank p ≠ h ∧ ¬(n = 0 ∧ p = .owner) then s.fails 1
    else
      let x := s.plot n
      match x.policy.put (fun k => (x.kernels.find k).isSome) (s.pinnedRange n) id (a.n 2) with
      | some q => (s.setPlot n { x with policy := q }).done
      | none => s.fails 2
def execPolicyWrite (p : Page) (s : State) : St State :=
  if bitAt ((s.page p).marg[1]).toNat 7 then .next s else s.runCmd p 0x05 (policyWriteCmd p)

/-- POLICY with MARG1 [7] = 1: a read by the level that holds the field or one above it. -/
def policyReadCmd (p : Page) (s : State) (a : Args) : CmdOut :=
  match policyField p s a with
  | .error st => s.fails st
  | .ok (id, h) => if pageRank p < h then s.fails 1 else s.gives ((s.plot (argPlot a)).policy.read id)
def execPolicyRead (p : Page) (s : State) : St State :=
  if bitAt ((s.page p).marg[1]).toNat 7 then s.runCmd p 0x05 (policyReadCmd p) else .next s

/-! ### Grants (R241, R441, R454) -/

/-- Whether two resources have something in common. -/
def Resource.meets : Resource → Resource → Bool
  | .range a n, .range b m => decide (a < b + m ∧ b < a + n)
  | a, b => a == b

/-- The resource that a GRANT names. -/
def argResource (a : Args) : Option Resource :=
  let o := a.n 1
  match bits (a.n 0) 8 4 with
  | 0 => if o < 640 then some (.core o) else none
  | 1 => if o < 7680 then some (.segment o) else none
  | 2 => if o < 49152 then some (.block o) else none
  | 3 => if a.n 2 ≠ 0 ∧ o + a.n 2 ≤ hbmTop then some (.range o (a.n 2)) else none
  | _ => none

def State.quarantined (s : State) (r : Resource) : Bool := s.quarantine.any fun q => q.res.meets r

/-- A segment granted to a plot holds zeros and empty granules (R241). -/
def State.freshGrant (s : State) (r : Resource) : State :=
  match r with
  | .segment _ =>
    let (b, n) := r.span
    { s with
      mem := s.mem.clear b n, full := s.full.filter (fun a => decide (a < b ∨ b + n ≤ a))
      ue := s.ue.filter fun a => decide (a + 8 ≤ b ∨ b + n ≤ a) }
  | _ => s

/-- GRANT: by the owner to an estate, or to the owner plot as target 0; by an estate to a plot. -/
def grantCmd (p : Page) (s : State) (a : Args) : CmdOut :=
  let t := argPlot a
  match argResource a with
  | none => if pageRank p = 0 then s.fails 1 else s.fails 2
  | some r =>
    match p with
    | .plot _ => s.fails 1
    | .owner =>
      if t ≠ 0 ∧ !(s.estate t).live then s.fails 4
      else if s.quarantined r || (s.plot 0).grants.any r.meets || s.estates.any fun (_, e) => e.live && e.grants.any r.meets then s.fails 3
      else if t = 0 then ((s.setPlot 0 { s.plot 0 with grants := (s.plot 0).grants ++ [r] }).freshGrant r).done
      else (s.setEstate t { s.estate t with grants := (s.estate t).grants ++ [r] }).done
    | .estate e =>
      if !s.granted p 3 then s.fails 1
      else if !s.holdsPlot p t || !holdsAll (s.estate e).grants r then s.fails 1
      else if s.quarantined r || s.plots.any fun (_, x) => x.live && x.estate == e.val && x.grants.any r.meets then s.fails 3
      else ((s.setPlot t { s.plot t with grants := (s.plot t).grants ++ [r] }).freshGrant r).done
def execGrant (p : Page) (s : State) : St State := s.runCmd p 0x06 (grantCmd p)

/-- Whether a context of the plot uses a resource: one on the core, for a core and its segments; any, for the rest. -/
def State.inUse (s : State) (plot : Nat) (r : Resource) : Bool :=
  s.ctxs.any fun (x, c) => c.st != .free && c.plot.val == plot && match r with
    | .core n => coreOfCtx x == n
    | .segment n => coreOfCtx x == n / 12
    | _ => true

/-- UNGRANT. -/
def ungrantCmd (p : Page) (s : State) (a : Args) : CmdOut :=
  let t := argPlot a
  match argResource a with
  | none => if pageRank p = 0 then s.fails 1 else s.fails 2
  | some r =>
    let fromPlot (t : Nat) : CmdOut :=
      let x := s.plot t
      if s.quarantined r then s.fails 3
      else if !holdsAll x.grants r then s.fails 4
      else if s.inUse t r then s.fails 3
      else (s.setPlot t { x with grants := takeBack x.grants r }).done
    match p with
    | .plot _ => s.fails 1
    | .owner =>
      if t = 0 then fromPlot 0
      else
        let e := s.estate t
        if s.quarantined r then s.fails 3
        else if !e.live || !holdsAll e.grants r then s.fails 4
        else if s.plots.any fun (_, x) => x.live && x.estate == t && x.grants.any r.meets then s.fails 3
        else (s.setEstate t { e with grants := takeBack e.grants r }).done
    | .estate _ => if !s.granted p 3 || !s.holdsPlot p t then s.fails 1 else fromPlot t
def execUngrant (p : Page) (s : State) : St State := s.runCmd p 0x07 (ungrantCmd p)

/-! ### Tables (R263, R266) -/

/-- The level that a ROOT or INVAL of a page concerns: a plot's stage 1, or an estate's stage 2; or the STATUS. -/
def tableTarget (p : Page) (s : State) (a : Args) : Except Nat Page :=
  let t := argPlot a
  match p with
  | .plot _ => .error 1
  | .owner =>
    if t = 0 then .ok (.plot 0) else if (s.estate t).live ∧ t ≤ 16 then .ok (.estate (Fin.ofNat 17 t)) else .error 4
  | .estate _ => if !s.granted p 3 || !s.holdsPlot p t then .error 1 else .ok (.plot (Fin.ofNat 256 t))

/-- ROOT: a table is aligned to its size (R263). -/
def rootCmd (p : Page) (s : State) (a : Args) : CmdOut :=
  match tableTarget p s a with
  | .error st => s.fails st
  | .ok (.plot n) =>
    if a.n 1 % 2048 ≠ 0 ∨ 2 ^ 48 ≤ a.n 1 then s.fails 2 else (s.setPlot n { s.plot n with root := some (a.n 1) }).done
  | .ok (.estate e) =>
    if a.n 1 % 4096 ≠ 0 ∨ hbmTop < a.n 1 + 4096 then s.fails 2 else (s.setEstate e { s.estate e with root := some (a.n 1) }).done
  | .ok .owner => s.fails 2
def execRoot (p : Page) (s : State) : St State := s.runCmd p 0x08 (rootCmd p)

/-- INVAL: the cached translations of the range go, with the table entries of the plot's stage 1 that its units hold; an estate's, all those
of its plots (R265, R266). -/
def invalCmd (p : Page) (s : State) (a : Args) : CmdOut :=
  match tableTarget p s a with
  | .error st => s.fails st
  | .ok (.plot n) =>
    ({ s with
      tlb := s.tlb.filter fun e => !(e.plot == n.val && decide (e.page * 65536 < a.n 1 + a.n 2 ∧ a.n 1 < e.page * 65536 + 65536))
      reads := s.reads.filter fun r => r.plot != n.val || r.stage2 } : State).done
  | .ok (.estate e) =>
    let mine (n : Nat) : Bool := n != 0 && (s.plot n).estate == e.val
    ({ s with tlb := s.tlb.filter fun t => !mine t.plot, reads := s.reads.filter fun r => !mine r.plot } : State).done
  | .ok .owner => s.fails 2
def execInval (p : Page) (s : State) : St State := s.runCmd p 0x09 (invalCmd p)

/-! ### Handles (R298, R445) -/

/-- The lowest number below a bound that a table does not use. -/
def lowFree {α : Type} (t : Tab α) (first bound : Nat) : Option Nat :=
  ((List.range (t.length + 1)).map (· + first)).find? fun k => (t.find k).isNone && decide (k < bound)

/-- A range of device addresses; an address outside the device's map is a host bus address. -/
def deviceRange (a n : Nat) : Bool :=
  match regionOf a with
  | .hbm => decide (a + n ≤ hbmTop)
  | .ws _ off => decide (off + n ≤ wsSize)
  | .spad _ off => decide (off + n ≤ spadSize)
  | .none => false

/-- HANDLE. -/
def handleCmd (p : Page) (s : State) (a : Args) : CmdOut :=
  let n := argPlot a
  let addr := a.n 1
  let len := a.n 2
  let host := addr / 2 ^ 48 != 0 || !deviceRange addr len
  if p ≠ .owner then s.fails 1
  else if addr % 4096 ≠ 0 ∨ len % 4096 ≠ 0 ∨ len = 0 then s.fails 2
  else if !(s.plot n).live then s.fails 4
  else if host && n != 0 then s.fails 2
  else
    let x := s.plot n
    match lowFree x.handles 0 (2 ^ 22) with
    | none => s.fails 5
    | some h =>
      let y : Handle := { host := host, addr := addr, len := len, read := bitAt (a.n 3) 0, write := bitAt (a.n 3) 1, gen := x.gen }
      (s.setPlot n { x with handles := x.handles.set h y }).gives h
def execHandle (p : Page) (s : State) : St State := s.runCmd p 0x0A (handleCmd p)

/-- UNHANDLE. -/
def unhandleCmd (p : Page) (s : State) (a : Args) : CmdOut :=
  let n := argPlot a
  let x := s.plot n
  if p ≠ .owner then s.fails 1
  else if (x.handles.find (a.n 1)).isNone then s.fails 4
  else (s.setPlot n { x with handles := x.handles.erase (a.n 1) }).done
def execUnhandle (p : Page) (s : State) : St State := s.runCmd p 0x0B (unhandleCmd p)

/-! ### Rights, pre-emption, pairings, queues -/

/-- RIGHTS (R442): the owner for an estate, or for the owner plot as target 0; an estate for a plot, with CRIGHTS. -/
def rightsCmd (p : Page) (s : State) (a : Args) : CmdOut :=
  let t := argPlot a
  let mask : BitVec 5 := BitVec.ofNat 5 (a.n 1)
  let forPlot : CmdOut :=
    let x := s.plot t
    (s.setPlot t { x with rights := mask, policy := { x.policy with crights := BitVec.ofNat 4 (a.n 2) } }).done
  match p with
  | .plot _ => s.fails 1
  | .owner => if t = 0 then forPlot else if !(s.estate t).live then s.fails 4 else (s.setEstate t { s.estate t with rights := mask }).done
  | .estate _ => if !(s.plot t).live then s.fails 4 else if !s.holdsPlot p t then s.fails 1 else forPlot
def execRights (p : Page) (s : State) : St State := s.runCmd p 0x0C (rightsCmd p)

/-- Pre-empt every group of a plot at once; a pause begins where it has work that will run again (R381, R449). -/
def State.preemptPlot (s : State) (n : Nat) : State :=
  let gs := (s.groups.filter fun (gid, g) => g.plot.val == n && !(s.liveMembers gid g).isEmpty).map Prod.fst
  let waits := s.restore.any (fun e => e.2.any fun x => x.plot.val == n) || s.runq.any fun e => e.1 % 256 == n && !e.2.isEmpty
  let s1 := gs.foldl State.preemptNow s
  if gs.isEmpty && !waits then s1 else s1.setPlot n { s1.plot n with pausing := true }

/-- PREEMPT. -/
def preemptCmd (p : Page) (s : State) (a : Args) : CmdOut :=
  let n := argPlot a
  if !(s.plot n).live then s.fails 4 else if !s.holdsPlot p n then s.fails 1 else (s.preemptPlot n).done
def execPreempt (p : Page) (s : State) : St State := s.runCmd p 0x0D (preemptCmd p)

/-- PAIR (R405): the remote plot's generation is what the other module says it is. -/
def pairCmd (p : Page) (s : State) (a : Args) : CmdOut :=
  let n := argPlot a
  let m := a.n 1 % 256
  if p ≠ .owner then s.fails 1
  else if m = modNo then s.fails 2
  else if !(s.plot n).live then s.fails 4
  else if (s.pairings.any fun h => h.plot.val == n && h.module.val == m) || decide (1024 ≤ s.pairings.length) then s.fails 5
  else
    let (i, s1) := s.takeFree
    ({ s1 with pairings := s1.pairings ++
        [⟨Fin.ofNat 256 n, Fin.ofNat 256 m, Fin.ofNat 256 (a.n 2), (Config.freeWord i).setWidth 16⟩] } : State).done
def execPair (p : Page) (s : State) : St State := s.runCmd p 0x0E (pairCmd p)

/-- The plot for which a page issues a plot's commands: its own, or the owner plot. -/
def pageOwn : Page → Option PlotNo
  | .owner => some 0
  | .estate _ => none
  | .plot n => some n

/-- QCREATE (R319). -/
def qcreateCmd (p : Page) (s : State) (a : Args) : CmdOut :=
  match pageOwn p with
  | none => s.fails 1
  | some n =>
    let x := s.plot n
    if !x.live then s.fails 4
    else if a.n 0 < x.policy.bandlo ∨ x.policy.bandhi < a.n 0 ∨ 8 ≤ a.n 1 ∨ 2 ^ 22 ≤ a.n 2 ∨ a.n 3 < 64 then s.fails 2
    else if x.policy.qcount ≤ x.queues.length then s.fails 5
    else
      let q := x.queues.length
      let y : Queue :=
        { ql := a.n 0, home := a.n 1, heath := a.n 2, hcap := a.n 3, slot := [], head := 0, tail := 0, mapped := false, mappedAt := 0
          waitSince := s.tick, failing := false, retryAt := 0 }
      (s.setPlot n { x with queues := x.queues.set q y }).gives q
def execQcreate (p : Page) (s : State) : St State := s.runCmd p 0x0F (qcreateCmd p)

/-! ### Attestation and time (R449, R456) -/

/-- Read and write in a level's own space. -/
def State.levelRead (s : State) (p : Page) (a n : Nat) : Option (List Byte) :=
  match p with
  | .owner => if a + n ≤ hbmTop then some (s.homeRead a n) else none
  | .plot m => s.plotRead 0 m a n
  | .estate e => (s.estateRange e a n false).map fun l => l.flatMap fun q => s.homeRead q.1 q.2

def pageLog : Page → LogLevel
  | .owner => .owner
  | .estate e => .estate e
  | .plot p => plotLog p

/-- Policy fields and grants as words, for a report's digest. -/
def State.levelWords (s : State) (p : Page) : List W64 :=
  let num (r : Resource) : List W64 := match r with
    | .core n => [0, BitVec.ofNat 64 n]
    | .segment n => [1, BitVec.ofNat 64 n]
    | .block n => [2, BitVec.ofNat 64 n]
    | .range b n => [3, BitVec.ofNat 64 b, BitVec.ofNat 64 n]
  match p with
  | .owner => []
  | .estate e => (s.estate e).grants.flatMap num
  | .plot n =>
    ((List.range 15).map fun i => BitVec.ofNat 64 ((s.plot n).policy.read (i + 1))) ++ (s.plot n).grants.flatMap num

/-- The report's first 216 bytes. -/
def State.report (s : State) (p : Page) (nonce : List Byte) : List Byte :=
  let (id, rank, t) : Nat × Nat × Nat := match p with
    | .owner => (0, 0, s.devns % 2 ^ 64)
    | .estate e => (e.val * 2 ^ 24, 1, s.devns % 2 ^ 64)
    | .plot n => ((s.plot n).estate * 2 ^ 24 + s.plotid n, 2, s.timeOf n)
  layout 0 216
    [(0, nonce), (64, toBytes 8 Config.moduleSerial.toNat), (72, Config.bootDigest.take 64), (136, toBytes 8 id)
     , (144, (Config.levelDigest rank (s.levelWords p)).take 64), (208, toBytes 8 t)]

/-- ATTEST: a nonce read, a report written. -/
def attestCmd (p : Page) (s : State) (a : Args) : CmdOut :=
  match s.levelRead p (a.n 0) 64 with
  | none => s.fails 2
  | some nonce =>
    let r := s.report p nonce
    match s.logStore (pageLog p) (a.n 1) (r ++ (List.range 132).map (Config.reportSignature s.free r)) with
    | none => s.fails 2
    | some s1 => ({ s1 with free := s1.free + 1 } : State).done
def execAttest (p : Page) (s : State) : St State := s.runCmd p 0x10 (attestCmd p)

/-- TIMESET: a lower OFF is stored as the current one. -/
def timesetCmd (p : Page) (s : State) (a : Args) : CmdOut :=
  let n := argPlot a
  let x := s.plot n
  if p ≠ .owner then s.fails 1 else if !x.live then s.fails 4 else (s.setPlot n { x with off := max x.off (toS 64 (a.n 1)) }).done
def execTimeset (p : Page) (s : State) : St State := s.runCmd p 0x11 (timesetCmd p)

/-! ### Kernels (R331, R333) -/

/-- A live-list entry of an image (R331). -/
def readLive (l : List Byte) : LiveEntry :=
  let w (i : Nat) : Nat := ofBytes (slice l (8 * i) 8)
  { g := BitVec.ofNat 64 (w 0), t0 := bitAt (w 1) 0, t1 := bitAt (w 1) 1, mx := bitAt (w 1) 2
    pads := (List.range (min (bits (w 1) 8 4) 8)).map fun i => (bits (w (i + 2)) 0 32, bits (w (i + 2)) 32 32) }

/-- A kernel as its image in plot memory holds it. -/
def State.readKernel (s : State) (plot a : Nat) : Option Kernel := do
  let h ← s.plotRead 0 plot a 64
  let w (i : Nat) : Nat := ofBytes (slice h (8 * i) 8)
  let codelen := bits (w 1) 32 32
  let dictlen := bits (w 1) 16 16
  let livelen := bits (w 1) 0 16
  if bits (w 0) 32 32 ≠ 0x4B494D31 ∨ 64 < livelen ∨ w 2 % 16 ≠ 0 ∨ w 3 % 16 ≠ 0 ∨ w 4 % 16 ≠ 0 then none
  else
    let code ← s.plotRead 0 plot (a + w 3) (2 * codelen)
    let dict ← s.plotRead 0 plot (a + w 2) (48 * dictlen)
    let live ← s.plotRead 0 plot (a + w 4) (80 * livelen)
    pure
      { code := (List.range codelen).map fun i => BitVec.ofNat 16 (ofBytes (slice code (2 * i) 2))
        dict := (List.range dictlen).map fun i => ofBytes (slice dict (48 * i) 48)
        live := (List.range livelen).map fun i => readLive (slice live (80 * i) 80), maximg := 0 }

/-- The largest image that a plot's kernels may have: until the owner has written the four fields of R444, none is small enough. -/
def Policy.imageLimit (p : Policy) : Nat := if p.written = 15 then p.imgmax else 0

/-- Bytes of a kernel's code and dictionary, and those of every registered kernel, which the store for registered code holds (R333). -/
def Kernel.stored (k : Kernel) : Nat := 2 * k.code.length + 48 * k.dict.length
def State.storeUsed (s : State) : Nat := (s.plots.flatMap fun e => e.2.kernels.map fun k => k.2.stored).foldl (· + ·) 0

/-- KREG: the slot wanted, then the checks of R84; until the owner has written the four fields of R444, every image is too large. -/
def kregCmd (p : Page) (s : State) (a : Args) : CmdOut :=
  match pageOwn p with
  | none => s.fails 1
  | some n =>
    let x := s.plot n
    let want := a.n 1 % 65536
    if !x.live then s.fails 4
    else if want ≠ 0xFFFF ∧ 4096 ≤ want then s.fails 2
    else if want ≠ 0xFFFF ∧ (x.kernels.find want).isSome then s.fails 3
    else match (if want = 0xFFFF then lowFree x.kernels 0 4096 else some want), s.readKernel n (a.n 0) with
      | none, _ => s.fails 5
      | _, none => s.fails 2
      | some k, some img =>
        match checkKernel img (n = 0) x.policy.imageLimit with
        | .error w => ⟨2, some (BitVec.ofNat 64 w), s⟩
        | .ok kern =>
          if Config.storeTakes s.storeUsed kern.stored then (s.setPlot n { x with kernels := x.kernels.set k kern }).gives k else s.fails 5
def execKreg (p : Page) (s : State) : St State := s.runCmd p 0x12 (kregCmd p)

/-- Whether a context, a queued record, a saved group or a registered graph of a plot names a kernel slot (R333). -/
def State.kslotUsed (s : State) (n : PlotNo) (k : Nat) : Bool :=
  s.ctxs.any (fun (_, c) => c.st != .free && c.plot == n && c.kslot.toNat == k) ||
    s.runq.any (fun (i, q) => i % 256 == n.val && q.any fun r => r.kslot == k) ||
    s.restore.any (fun (cl, l) => l.any fun x => x.plot == n && ((s.objHeader (cl / 10) n x.obj).map ObjHeader.kslot) == some k) ||
    (s.plot n).graphs.any fun (_, g) => g.nodes.any fun w => nodeKind w == 1 && bits (nodeWord w 0) 32 16 == k

/-- KUNREG. -/
def kunregCmd (p : Page) (s : State) (a : Args) : CmdOut :=
  match pageOwn p with
  | none => s.fails 1
  | some n =>
    let x := s.plot n
    let k := a.n 0 % 65536
    if (x.kernels.find k).isNone then s.fails 4
    else if s.kslotUsed n k then s.fails 3
    else ((s.setPlot n { x with kernels := x.kernels.erase k }).dropDicts fun key => key == dictKey n k).done
def execKunreg (p : Page) (s : State) : St State := s.runCmd p 0x13 (kunregCmd p)

/-! ### Graphs (R327, R332, R333) -/

/-- A graph as its image in plot memory holds it; nothing for bytes that are no graph image. -/
def State.readGraph (s : State) (plot a : Nat) : Option Graph := do
  let h ← s.plotRead 0 plot a 64
  let w (i : Nat) : Nat := ofBytes (slice h (8 * i) 8)
  let n := bits (w 0) 16 16
  let m := bits (w 0) 0 16
  if bits (w 0) 32 32 ≠ 0x47524131 ∨ n = 0 then none
  else
    let nb ← s.plotRead 0 plot (a + 64) (128 * n)
    let eb ← s.plotRead 0 plot (a + 64 + 128 * n) (8 * m)
    let nodes := (List.range n).map fun i => bytesWords 16 (slice nb (128 * i) 128)
    let ews := (List.range m).map fun i => ofBytes (slice eb (8 * i) 8)
    if (nodes.any fun x => nodeKind x == 0 || decide (3 < nodeKind x)) ||
        (ews.any fun e => bits e 62 2 == 0 || bits e 62 2 == 3 || bits e 28 34 != 0 || bits e 12 4 != 0 || decide (n ≤ bits e 16 12) ||
          decide (n ≤ bits e 0 12)) then none
    else
      pure
        { argbase := w 1, compbase := w 2, aselmax := w 3, nodes := nodes
          edges := ews.map fun e => (bits e 62 2 == 2, bits e 16 12, bits e 0 12) }

/-- The nodes that edges of a kind lead to from a set, in so many steps. -/
def Graph.reach (g : Graph) (fullOnly : Bool) : Nat → List Nat → List Nat
  | 0, l => l
  | k + 1, l =>
    let more := (g.edges.filter fun (early, a, b) => !(fullOnly && early) && l.contains a && !l.contains b).map fun e => e.2.2
    if more.isEmpty then l else g.reach fullOnly k (l ++ more.eraseDups)

/-- The nodes reached from a node by one edge or more. -/
def Graph.after (g : Graph) (fullOnly : Bool) (i : Nat) : List Nat :=
  g.reach fullOnly g.nodes.length (((g.edges.filter fun (early, a, _) => !(fullOnly && early) && a == i).map fun e => e.2.2).eraseDups)

/-- Whether a cluster can hold a group of a KERNEL node: cores, with the segments of its kernel's pad ranges. -/
def State.demandMet (s : State) (plot : Nat) (k : Kernel) (gsize cl : Nat) : Bool :=
  decide (gsize < ((List.range 16).filter fun i =>
    (s.plot plot).owns (.core (cl * 16 + i)) && k.live.all fun e => e.pads.all fun p => s.spadOk plot (cl * 16 + i) p.1 p.2).length)

/-- The failures of one node (R327): an endpoint's handle is tested for its validity and its right, not the range that it will be asked for. -/
def State.nodeErrs (s : State) (n : PlotNo) (g : Graph) (i : Nat) (w : List W64) : List (Nat × Nat × Nat) :=
  let x := s.plot n
  let err (c : Nat) : List (Nat × Nat × Nat) := [(c, i, 15)]
  let ends (e : Nat) (len : Nat) (r wr : Bool) : Bool :=
    endSpace e == 1 && (match s.handleAt n x.gen.toNat (endHandle e) (endOff e) len r wr with
      | .error c => c == 2
      | .ok _ => true)
  (if (g.after false i).contains i then err 0x20 else []) ++
  match nodeKind w with
  | 1 =>
    match x.kernels.find (bits (nodeWord w 0) 32 16) with
    | none => err 0x21
    | some k =>
      (match checkKernel k (n = 0) x.policy.imageLimit with
        | .error _ => err 0x21
        | .ok _ => []) ++
      (if ((List.range 40).any fun cl => placeAllows (nodeWord w 2 % 2 ^ 40) cl && s.demandMet n k (bits (nodeWord w 1) 44 4) cl) then [] else err 0x22) ++
      (if (g.nodes.zipIdx.any fun (v, j) => nodeKind v == 3 &&
          ((List.range 40).any fun cl => placeAllows (nodeWord w 2 % 2 ^ 40) cl &&
            ((List.range 16).any fun c => x.owns (.core (cl * 16 + c))) && (bits (nodeWord v 4) 0 3 == 4 || bits (nodeWord v 4) 0 3 == cl / 10)) &&
          !(g.after true i).contains j && !(g.after true j).contains i) then err 0x26 else [])
  | 2 => if ends (nodeWord w 1) 0 true false && ends (nodeWord w 2) 0 false true then [] else err 0x23
  | _ =>
    let d := bits (nodeWord w 4) 0 3
    let dies := if d = 4 then [0, 1, 2, 3] else [d]
    (if 4 < d ∨ nodeWord w 2 % 512 ≠ 0 ∨ nodeWord w 3 % 512 ≠ 0 ∨ !(dies.all fun d => s.wsOk n d (nodeWord w 2) (nodeWord w 3)) then err 0x22 else []) ++
      (if ends (nodeWord w 1) (nodeWord w 3) true false then [] else err 0x23)

/-- The check of a graph: none, or the status word. -/
def State.graphErr (s : State) (n : PlotNo) (g : Graph) : Option Nat :=
  let whole (c : Nat) : List (Nat × Nat × Nat) := [(c, 0xFFFFFFFF, 15)]
  let args := 64 * (min g.aselmax 65535 + 1) * g.nodes.length
  let es :=
    (if g.argbase % 64 ≠ 0 ∨ g.compbase % 16 ≠ 0 ∨ (s.walkRange 0 n true false g.argbase args).isNone then whole 0x24 else []) ++
    (if 4096 < g.nodes.length then whole 0x25 else []) ++ g.nodes.zipIdx.flatMap fun (w, i) => s.nodeErrs n g i w
  (leastErr es).map statusWord

/-- GREG. -/
def gregCmd (p : Page) (s : State) (a : Args) : CmdOut :=
  match pageOwn p with
  | none => s.fails 1
  | some n =>
    let x := s.plot n
    if !x.live then s.fails 4
    else match s.readGraph n (a.n 0) with
      | none => s.fails 2
      | some g =>
        match s.graphErr n g with
        | some w => ⟨2, some (BitVec.ofNat 64 w), s⟩
        | none =>
          match (if x.graphs.length < 1024 then lowFree x.graphs 1 (2 ^ 32) else none) with
          | none => s.fails 5
          | some h => (s.setPlot n { x with graphs := x.graphs.set h g }).gives h
def execGreg (p : Page) (s : State) : St State := s.runCmd p 0x14 (gregCmd p)

/-- GUNREG. -/
def gunregCmd (p : Page) (s : State) (a : Args) : CmdOut :=
  match pageOwn p with
  | none => s.fails 1
  | some n =>
    let x := s.plot n
    let h := a.n 0 % 2 ^ 32
    if (x.graphs.find h).isNone then s.fails 4
    else if s.launches.any fun (_, l) => l.plot == n && l.graph == h then s.fails 3
    else (s.setPlot n { x with graphs := x.graphs.erase h }).done
def execGunreg (p : Page) (s : State) : St State := s.runCmd p 0x15 (gunregCmd p)

/-- An OP that the table does not hold ends with STATUS 2 (R441). -/
def execMcmdUnknownOp (p : Page) (s : State) : St State :=
  let op := (s.page p).op
  if 1 ≤ op ∧ op ≤ 0x15 then .next s else s.runCmd p op fun s _ => s.fails 2

end Sys2Proof.Machine
end

