-- ==== Sys2Proof/Machine/Background.lean ====
section
/-!
DEFINITION. Background work (R229, R452 to R454, R469 to R471) and starts (R458, R460 to R466).
-/
namespace Sys2Proof.Machine

/-! ### The gleaner (R452 to R454) -/

/-- A memory without the bytes of a range, in every form. -/
def Memory.wipe (m : Memory) (a n : Nat) : Memory := m.filter fun c => decide (c.1 % 2 ^ 48 < a ∨ a + n ≤ c.1 % 2 ^ 48)

/-- Whether a write on its way meets a range. -/
def inRange (a n x len : Nat) : Bool := decide (x % 2 ^ 48 < a + n ∧ a < x % 2 ^ 48 + max len 1)

/-- Zeros, raw, over a range of the device, with full-empty bits set empty (R452). -/
def State.zeroRange (s : State) (a n : Nat) : State :=
  { s with
    mem := s.mem.wipe a n
    full := s.full.filter fun x => !inRange a n x 16
    ue := s.ue.filter fun x => !inRange a n x 8
    enc := s.enc.filter fun (l, _) => !inRange a n (128 * l) 128
    dies := s.dies.map fun d => { d with
      view := d.view.wipe a n
      out := d.out.filter fun o => !inRange a n o.addr o.bytes.length
      updates := d.updates.filter fun u => !inRange a n u.addr u.bytes.length } }

/-- What a range leaves of the quarantine once it is written. -/
def State.liftQuarantine (s : State) (a n : Nat) : State :=
  { s with quarantine := releaseCores (s.quarantine.flatMap fun q =>
      match q.res with
      | .core _ => [q]
      | .range .. => (q.res.less (.range a n)).map fun r => { q with res := r }
      | r => if resourceMeets r a n then [] else [q]) }

/-- The end of a job: its completion object, the granule, PF vector 1 (R452). -/
def State.jobDone (s : State) (j : GleanJob) : State :=
  let ws : List W64 := [BitVec.ofNat 64 ((j.len + 65535) / 65536), BitVec.ofNat 64 (2 ^ 48)]
  (match j.cpl with
    | some (core, a) => s.engineSpadWrite core a (wordBytes ws)
    | none => s).interrupt 0 1

/-- GLEAN_BLOCK_WRITE (R452): one block of the running job. -/
def execGleanBlockWrite (s : State) : St State :=
  .next (match s.jobs with
    | [] => s
    | j :: rest =>
      let n := min 65536 (j.start + j.len - j.pos)
      let s1 := (s.zeroRange j.pos n).liftQuarantine j.pos n
      let p := j.pos + n
      let s2 := { s1 with scrubPos := BitVec.ofNat 40 p }
      if p < j.start + j.len then { s2 with jobs := { j with pos := p } :: rest } else ({ s2 with jobs := rest } : State).jobDone j)

/-! ### Scrub, calibration, clocks, wear (R229, R469 to R471) -/

/-- SPACE of a device address (R470). -/
def spaceOf (a : Nat) : Nat :=
  match regionOf a with
  | .spad .. => 1
  | .ws .. => 2
  | _ => 0

/-- PATROL_SCRUB (R470): an uncorrectable word is left as it stands and recorded; the interrupt is raised when COUNT leaves 0. -/
def execPatrolScrub (da : Nat) (s : State) : St State :=
  let w := da % 2 ^ 40 / 8 * 8
  .next (if !s.ue.contains w then s
    else if s.patCount = 0 then
      ({ s with patCount := 1, patSpace := BitVec.ofNat 2 (spaceOf w), patAddr := BitVec.ofNat 40 w } : State).interrupt 0 0
    else { s with patCount := if s.patCount = 0xFFFF then 0xFFFF else s.patCount + 1 })

/-- HBM_CALIBRATION (R469): it costs bandwidth and changes nothing that the machine holds. -/
def execHbmCalibration (_ : Nat) (s : State) : St State := .next s

/-- LINK_CALIBRATION (R469). -/
def execLinkCalibration (_ : Nat) (s : State) : St State := .next s

/-- CLOCK_LOWERING (R471): in steps of 250 MHz, down to 2 GHz. -/
def execClockLowering (d : DieId) (s : State) : St State :=
  let die := s.die d.val
  .next (s.setDie d.val { die with mhz := max 2000 (die.mhz - 250) })

/-- CLOCK_RESTORE (R471): back toward 4 GHz. -/
def execClockRestore (d : DieId) (s : State) : St State :=
  let die := s.die d.val
  .next (s.setDie d.val { die with mhz := min 4000 (die.mhz + 250) })

/-- WEAR_MANAGEMENT_MIGRATION (R229): a context that holds a strand is marked. -/
def execWearManagementMigration (x : CtxId) (s : State) : St State :=
  let c := s.ctx x.val
  .next (if c.st = .free then s else s.setCtx x.val { c with migrate := true })

/-! ### Starts (R460 to R466) -/

/-- The steps of a cold start; of a warm start with and without training (R462, R463). -/
def coldSteps : List Nat := [1, 2, 3, 4, 5, 6, 7, 8, 9].filter (· != 2)
def warmSteps (training : Bool) : List Nat := if training then [1, 2, 3, 4, 7, 8, 9] else [1, 2, 7, 8, 9]

/-- The first scratchpad (R260). -/
def padBase : Nat := 0x9000000000

/-- The first step that fails. -/
def State.failingStep (s : State) (l : List Nat) : Option Nat := l.find? fun k => !Config.startStepOk s.starts k

/-- What a cold start that fails at a step leaves of the memories: a step that was not reached has zeroed nothing (R462). Every key is gone. -/
def State.notZeroed (s : State) (k : Nat) : State :=
  let s1 := s.keys.foldl (fun s e => s.dropKey e.1) s
  let stays (a : Nat) : Bool := match regionOf (a % 2 ^ 48) with
    | .hbm => decide (k ≤ 6)
    | .ws .. => decide (k ≤ 5)
    | .spad .. => decide (k ≤ 7)
    | .none => false
  { State.reset with
    mem := s1.mem.filter fun c => stays c.1
    full := s1.full.filter stays, ue := s1.ue.filter stays, enc := if k ≤ 6 then s1.enc else []
    dies := State.reset.dies.map fun d => { d with view := s1.mem.filter fun c => stays c.1 && regionOf (c.1 % 2 ^ 48) == .hbm } }

/-- A cold start (R462, R464): the module as after reset; only the model's own bookkeeping goes on. One that fails leaves the module off the
fabric. -/
def State.coldStart (s : State) : State :=
  let on (t : State) : State := { t with
    tick := s.tick, sched := s.sched, free := s.free, hostMsgs := s.hostMsgs, hostData := s.hostData, starts := s.starts + 1 }
  match s.failingStep coldSteps with
  | none => on State.reset
  | some k => { on (s.notZeroed k) with failStep := k, lastStart := s.lastStart, wfail := s.wfail, onFabric := false }

/-- Dirty lines go to HBM: every write on its way is performed, and every die sees HBM as it is (R462 step 2). -/
def State.writeBack (s : State) : State :=
  let m := (s.dies.toList.flatMap Die.out).foldl (fun m o => m.write o.addr o.bytes) s.mem
  let v := m.filter fun c => regionOf (c.1 % 2 ^ 48) == .hbm
  { s with mem := m, dies := s.dies.map fun d => { d with view := v, clock := [0, 0, 0, 0], out := [], updates := [], own := [] } }

/-- The base dies' records of the objects that a start finds at work, and of those whose restore list it discards (R465, R466). -/
def State.objRecords (s : State) : List ObjRecord :=
  (s.restore.flatMap fun e => e.2.map fun x => (⟨if x.cres.isSome then .resume else .saved, e.1 / 10, x.plot, x.obj, x.units⟩ : ObjRecord)) ++
  (s.ctxs.filterMap fun e => e.2.copying.map fun c => ⟨.copy, dieOf (coreOfCtx e.1), e.2.plot, c.1, []⟩) ++
  s.groups.filterMap fun e => e.2.stop.map fun st => ⟨.write, dieOf (coreOfCtx (e.2.members.headD 0)), e.2.plot, st.obj, st.units⟩

/-- An object settled by the firmware (R466). Units are freed also where the header can no longer be reached. -/
def State.settleObj (s : State) (r : ObjRecord) : State :=
  let s1 := match s.objHeader r.die r.plot r.obj with
    | none => s
    | some h =>
      match r.work with
      | .resume => (s.putW2 r.die r.plot r.obj false 1 (h.version + 1)).addRem r.plot h.gang 1
      | .saved => s.putW2 r.die r.plot r.obj false 3 (h.version + 1)
      | .copy => s.putW2 r.die r.plot r.obj false h.state h.version
      | .write => s
  s1.giveUnits r.plot r.units

/-- What every warm start discards, whatever its steps come to: contexts end without a commit, and with them groups, records, lists, engine
operations, launches, packets and landing entries (R458, R460, R465). A group held for an estate whose object is not written is lost. Gangs
keep their work sums (DEDUCED, log entry 190). -/
def State.discardWork (s : State) : State :=
  let lost := s.groups.filterMap fun e => e.2.stop.map fun st => (e.2.plot, st.obj)
  { s with
    unsettled := s.unsettled ++ s.objRecords
    estates := s.estates.mapVals fun _ e => { e with held := e.held.filter fun h => !lost.contains (h.plot, h.obj) }
    tlb := [], reads := [], cores := s.cores.mapVals fun _ c => { Core.zero with offline := c.offline, share := c.share }
    gangs := s.gangs.mapVals fun _ g => { g with launch := none }
    dies := s.dies.map fun d => { d with agent := [] }
    ctxs := [], groups := [], runq := [], restore := [], engines := [], launches := [], landed := [], fabric := [], refusedReplies := []
    micro := [], due := [] }

/-- Refresh timers at bank 0; purses and share accounts dropped (R462 step 9). -/
def State.dropAccounts (s : State) : State :=
  { s with
    purses := [], cores := s.cores.mapVals fun _ c => { c with share := .zero }
    dies := s.dies.map fun d => { d with refreshNs := 0 } }

/-- Parts of a range that a list of resources leaves. -/
def leftOver (l : List Resource) : List Resource := l.foldl (fun acc r => acc.flatMap fun x => x.less r) [.range 0 hbmTop]

/-- HBM neither granted nor quarantined becomes gleaner jobs, in ascending order (R465). -/
def State.queueFree (s : State) : State :=
  let held := (s.estates.flatMap fun (_, e) => if e.live then e.grants else []) ++ (s.plot 0).grants ++ s.quarantine.map Quarantine.res
  let free := (leftOver held).filterMap fun r => match r with
    | .range b n => some (b, n)
    | _ => none
  { s with
    quarantine := s.quarantine ++ free.map (fun e => (⟨.range e.1 e.2, none, 0⟩ : Quarantine))
    jobs := s.jobs ++ free.map fun e => ⟨e.1, e.2, e.1, none⟩ }

/-- Scratchpads zeroed, granules empty, their segments out of quarantine (R454, R462 step 7). -/
def State.clearPads (s : State) : State :=
  let s1 := s.zeroRange padBase (640 * 0x100000)
  { s1 with quarantine := releaseCores (s1.quarantine.filter fun q => match q.res with
      | .segment _ => false
      | _ => true) }

/-- The gleaner's jobs over scratchpad are complete when the warm start ends, in list order (R454, R458). -/
def State.endPadJobs (s : State) : State :=
  let (pads, rest) := s.jobs.partition fun j => decide (padBase ≤ j.start)
  pads.foldl (fun s j => ({ s with scrubPos := BitVec.ofNat 40 (j.start + j.len) } : State).jobDone j) { s with jobs := rest }

/-- The steps of a warm start before a step, where it fails (R462). -/
def State.warmUpTo (s : State) (k : Nat) : State :=
  let s1 := if 2 < k then s.discardWork.writeBack else s.discardWork
  let s2 := if 6 < k then s1.queueFree else s1
  if 7 < k then s2.clearPads else s2

/-- A warm start, or a cold one after three failures or a write-back that fails (R460 to R466). -/
def State.warmStart (s : State) : State :=
  if s.wfail = 3 then s.coldStart
  else
    let training := !Config.trainingKept s.starts
    match s.failingStep (warmSteps training) with
    | some 2 => s.coldStart
    | some k => ({ s.warmUpTo k with failStep := k, wfail := s.wfail + 1, starts := s.starts + 1 } : State).interrupt 0 0
    | none =>
      let s1 := (s.warmUpTo 9).dropAccounts
      { ({ s1.unsettled.foldl State.settleObj s1 with unsettled := [] } : State).endPadJobs with
        failStep := 0, wfail := 0, lastStart := if training then 2 else 3, starts := s.starts + 1, onFabric := s.onFabric || training }

/-- POWER_ON (R460). -/
def execPowerOn (s : State) : St State := .next s.coldStart

/-- START_WARM_REQUEST (R460 to R462). -/
def execStartWarmRequest (s : State) : St State := .next s.warmStart

/-- START_COLD_REQUEST (R460). -/
def execStartColdRequest (s : State) : St State := .next s.coldStart

/-- FUNDAMENTAL_RESET (R460). -/
def execFundamentalReset (s : State) : St State := .next s.warmStart

end Sys2Proof.Machine
end

