-- ==== Sys2Proof/Machine/HostSide.lean ====
section
/-!
DEFINITION. The host's side: registers (R351 to R353, R422, R436 to R440, R453, R461, R470), the HBM window, virtual functions (R446), MSI-X
vectors (R437, R455).
-/
namespace Sys2Proof.Machine

/-! ### Registers by BAR and offset (R437 to R439) -/

/-- The registers of the BARs, as 64-bit words. -/
inductive Reg where
  | marg (p : Page) (i : Fin 4)
  | mcmd (p : Page)
  | mstat (p : Page)
  | mres (p : Page)
  | flogcfg (p : Page)
  | flogptr (p : Page)
  | floglost (p : Page)
  | launch (plot : PlotNo)
  | start | patrolue | scrubpos | ageperiod | purse | spin | share | winbase
  | keyStates (i : Nat)
  | devcert (off : Nat)
  | clock (d : Nat)
  | latedrop (plot : PlotNo) (level : Page)
  | msixTable (fn i : Nat)
  | msixPending (fn : Nat)
  | frelobj (e : Fin 17)
  | frelcmd (e : Fin 17)
deriving DecidableEq, Repr

/-- A management page's registers from a base. -/
def pageReg (p : Page) (base off : Nat) : Option Reg :=
  if off < base then none
  else match off - base with
    | 0x00 => some (.marg p 0)
    | 0x08 => some (.marg p 1)
    | 0x10 => some (.marg p 2)
    | 0x18 => some (.marg p 3)
    | 0x20 => some (.mcmd p)
    | 0x28 => some (.mstat p)
    | 0x30 => some (.mres p)
    | _ => none

/-- A fault log's registers from a base. -/
def logReg (p : Page) (base off : Nat) : Option Reg :=
  if off = base then some (.flogcfg p) else if off = base + 8 then some (.flogptr p) else if off = base + 16 then some (.floglost p) else none

/-- PF BAR0 (R438). -/
def pfReg (off : Nat) : Option Reg :=
  match off with
  | 0x200 => some .start
  | 0x208 => some .patrolue
  | 0x210 => some .scrubpos
  | 0x218 => some .ageperiod
  | 0x220 => some .purse
  | 0x228 => some .spin
  | 0x230 => some .share
  | 0x238 => some .winbase
  | 0x300 => some (.launch 0)
  | 0x4040 => some (.latedrop 0 .owner)
  | 0x81000 => some (.msixPending 0)
  | _ =>
    if 0x1000 ≤ off ∧ off < 0x1100 then some (.keyStates ((off - 0x1000) / 8))
    else if 0x2000 ≤ off ∧ off < 0x4000 then some (.devcert (off - 0x2000))
    else if 0x4000 ≤ off ∧ off < 0x4020 then some (.clock ((off - 0x4000) / 8))
    else if 0x80000 ≤ off ∧ off < 0x80090 then some (.msixTable 0 ((off - 0x80000) / 8))
    else (pageReg .owner 0 off).or (logReg .owner 0x100 off)

/-- VF BAR0 (R439). -/
def vfReg (n : PlotNo) (off : Nat) : Option Reg :=
  match off with
  | 0x0000 => some (.launch n)
  | 0x3000 => some (.latedrop n (.plot n))
  | 0x9000 => some (.msixPending n)
  | _ =>
    if 0x8000 ≤ off ∧ off < 0x8200 then some (.msixTable n ((off - 0x8000) / 8))
    else (pageReg (.plot n) 0x1000 off).or (logReg (.plot n) 0x2000 off)

/-- VF BAR2 of an estate's first virtual function (R439). -/
def estateReg (e : Fin 17) (off : Nat) : Option Reg :=
  match off with
  | 0x0200 => some (.frelobj e)
  | 0x0208 => some (.frelcmd e)
  | _ =>
    if 0x1000 ≤ off ∧ off < 0x1800 then some (.latedrop (Fin.ofNat 256 ((off - 0x1000) / 8)) (.estate e))
    else (pageReg (.estate e) 0 off).or (logReg (.estate e) 0x100 off)

/-- The register at an offset that is a multiple of 8, where the BAR has one. -/
def State.regAt (s : State) (fn : PlotNo) (bar off : Nat) : Option Reg :=
  if fn = 0 then (if bar = 0 then pfReg off else none)
  else if bar = 0 then vfReg fn off
  else if bar = 2 then
    match s.estates.find? fun (_, e) => e.live && e.firstVf == fn.val with
    | some (e, _) => estateReg (Fin.ofNat 17 e) off
    | none => none
  else none

/-! ### Reading (R7, R438) -/

/-- A log's registers by page; the owner plot's records are the owner's. -/
def State.pageLog (s : State) (p : Page) : FaultLog := s.log (Machine.pageLog p)

/-- What a register reads as. -/
def State.regRead (s : State) (r : Reg) : W64 :=
  match r with
  | .marg p i => (s.page p).marg[i]
  | .mcmd _ => 0
  | .mstat p => BitVec.ofNat 64 ((s.page p).busy.toNat * 2 ^ 63 + (s.page p).status.toNat)
  | .mres p => (s.page p).mres
  | .flogcfg p => (s.pageLog p).cfg
  | .flogptr p => BitVec.ofNat 64 ((s.pageLog p).cons.toNat * 2 ^ 32 + (s.pageLog p).prod.toNat)
  | .floglost p => (s.pageLog p).lost.setWidth 64
  | .launch _ => 0
  | .start => BitVec.ofNat 64 (s.wfail * 2 ^ 32 + s.lastStart * 2 ^ 28 + s.failStep * 2 ^ 16)
  | .patrolue => BitVec.ofNat 64 (s.patCount.toNat * 2 ^ 48 + s.patSpace.toNat * 2 ^ 40 + s.patAddr.toNat)
  | .scrubpos =>
    match s.jobs with
    | [] => s.scrubPos.setWidth 64
    | j :: rest => BitVec.ofNat 64 (2 ^ 63 + min rest.length 8 * 2 ^ 40 + j.pos)
  | .ageperiod => s.agePeriod.setWidth 64
  | .purse => s.purseReg.setWidth 64
  | .spin => s.spinReg.setWidth 64
  | .share => s.shareReg.setWidth 64
  | .winbase => BitVec.ofNat 64 (s.winBase.toNat * 2 ^ 36)
  | .keyStates i => BitVec.ofNat 64 (ofBytes ((List.range 8).map fun j => if (s.keys.find (8 * i + j)).isSome then 1 else 0))
  | .devcert off => BitVec.ofNat 64 (ofBytes ((List.range 8).map fun j => Config.devCert (off + j)))
  | .clock d => BitVec.ofNat 64 (s.die d).mhz
  | .latedrop n p =>
    if s.hasRight p 4 && (p == .owner || s.holdsPlot p n) then (s.plot n).latedrop.setWidth 64 else 0
  | .msixTable fn i => let e := (s.msix fn).entry (i / 2); if i % 2 = 0 then e.1 else e.2
  | .msixPending fn => (s.msix fn).pending.setWidth 64
  | .frelobj _ => 0
  | .frelcmd _ => 0

/-! ### Writing -/

/-- A vector is unmasked: its held message goes out (R455). -/
def State.unmask (s : State) (fn v : Nat) : State :=
  let m := s.msix fn
  if m.pending.getLsbD v && !m.masked v then
    (s.setMsix fn { m with pending := m.pending &&& ~~~(BitVec.ofNat 32 (2 ^ v)) }).interrupt fn v
  else s

/-- A word of an MSI-X table is written. -/
def State.msixWrite (s : State) (fn i : Nat) (v : W64) : State :=
  let m := s.msix fn
  let e := m.entry (i / 2)
  let e1 := if i % 2 = 0 then (v, e.2) else (e.1, v)
  (s.setMsix fn { m with table := m.table.set (i / 2) e1 }).unmask fn (i / 2)

/-- MCMD: the high half starts a command unless one is in progress, with the rights that its level then holds; a low half alone is held (R438,
R440, R442). -/
def State.mcmdWrite (s : State) (p : Page) (v : W64) (lowOnly : Bool) : State :=
  let x := s.page p
  if lowOnly then s.setPage p { x with mcmdLow := v.setWidth 32 }
  else if x.busy then s
  else { s.setPage p { x with mcmd := v, busy := true, mcmdLow := 0, rights := s.effRights p } with cmds := s.cmds ++ [p] }

/-- FRELCMD, in the same way, with the FRELOBJ that it finds; other values of OP are ignored (R353). -/
def State.frelWrite (s : State) (e : Fin 17) (v : W64) (lowOnly : Bool) : State :=
  let x := s.estate e
  if lowOnly then s.setEstate e { x with frelLow := v.setWidth 32 }
  else
    let op := bits v.toNat 56 8
    s.setEstate e { x with frelLow := 0, frelcmds := if op = 1 ∨ op = 2 then x.frelcmds ++ [(x.frelobj, v)] else x.frelcmds }

/-- FLOGCFG (R351): reserved bits read 0, and a LOGN out of range stores 0. -/
def logCfg (v : W64) : W64 :=
  let n := bits v.toNat 0 5
  BitVec.ofNat 64 (bits v.toNat 8 56 * 256 + (if 4 ≤ n ∧ n ≤ 20 then n else 0))

def State.flogCfgWrite (s : State) (p : Page) (v : W64) : State := s.setLog { s.pageLog p with cfg := logCfg v } (Machine.pageLog p)
def State.flogConsWrite (s : State) (p : Page) (v : W64) : State :=
  s.setLog { s.pageLog p with cons := BitVec.ofNat 32 (v.toNat / 2 ^ 32) } (Machine.pageLog p)
def State.flogLostWrite (s : State) (p : Page) (v : W64) : State :=
  let l := s.pageLog p
  s.setLog { l with lost := l.lost &&& ~~~(v.setWidth 32) } (Machine.pageLog p)

/-- PATROLUE (R470): writing 1s clears bits of COUNT. -/
def State.patrolWrite (s : State) (v : W64) : State := { s with patCount := s.patCount &&& ~~~(BitVec.ofNat 16 (v.toNat / 2 ^ 48)) }

/-- START.REQ (R461). -/
def State.startWrite (s : State) (v : W64) : State :=
  match bits v.toNat 0 2 with
  | 1 => s.warmStart
  | 2 => s.coldStart
  | _ => s

/-- A write of a whole register; `half` is the half that a 32-bit write changes. BOOSTMAX and SPINDROP above 47 store 47 (DESIGN CHOICE, log
entry 172). -/
def State.regWrite (s : State) (r : Reg) (v : W64) (half : Option Bool) : State :=
  let low : Bool := half = some false
  match r with
  | .marg p i => let x := s.page p; s.setPage p { x with marg := x.marg.set i v }
  | .mcmd p =>
    let x := s.page p
    s.mcmdWrite p (if half = some true then BitVec.ofNat 64 (v.toNat / 2 ^ 32 * 2 ^ 32 + x.mcmdLow.toNat) else v) low
  | .frelcmd e =>
    let x := s.estate e
    s.frelWrite e (if half = some true then BitVec.ofNat 64 (v.toNat / 2 ^ 32 * 2 ^ 32 + x.frelLow.toNat) else v) low
  | .flogcfg p => s.flogCfgWrite p v
  | .flogptr p => if low then s else s.flogConsWrite p v
  | .floglost p => s.flogLostWrite p v
  | .launch n => if half.isSome then s else s.doLaunch n v
  | .start => s.startWrite v
  | .patrolue => s.patrolWrite v
  | .ageperiod => { s with agePeriod := BitVec.ofNat 32 (max 1000 (v.toNat % 2 ^ 32)) }
  | .purse => { s with purseReg := BitVec.ofNat 24 (min 47 (bits v.toNat 16 8) * 65536 + v.toNat % 65536) }
  | .spin => { s with spinReg := BitVec.ofNat 40 (min 47 (bits v.toNat 32 8) * 2 ^ 32 + max 64 (v.toNat % 2 ^ 32)) }
  | .share => { s with shareReg := BitVec.ofNat 32 (max 4096 (v.toNat % 2 ^ 32)) }
  | .winbase => { s with winBase := BitVec.ofNat 4 (v.toNat / 2 ^ 36) }
  | .msixTable fn i => s.msixWrite fn i v
  | .frelobj e =>
    let x := s.estate e
    let o := x.frelobj.toNat
    s.setEstate e { x with frelobj := match half with
      | none => v
      | some true => BitVec.ofNat 64 (v.toNat / 2 ^ 32 * 2 ^ 32 + o % 2 ^ 32)
      | some false => BitVec.ofNat 64 (o / 2 ^ 32 * 2 ^ 32 + v.toNat % 2 ^ 32) }
  | _ => s

/-- The value that a 32-bit write makes of a register: its own half, the other as it reads; write-one bits of the other half are not
written. -/
def State.mergeHalf (s : State) (r : Reg) (high : Bool) (v : W64) : W64 :=
  let old : Nat := match r with
    | .floglost _ => 0
    | .patrolue => 0
    | .start => 0
    | r => (s.regRead r).toNat
  if high then BitVec.ofNat 64 (v.toNat % 2 ^ 32 * 2 ^ 32 + old % 2 ^ 32) else BitVec.ofNat 64 (old / 2 ^ 32 * 2 ^ 32 + v.toNat % 2 ^ 32)

/-- What an aligned read of the width gives: 0 where no register is (R438, R439). -/
def State.hostRead (s : State) (fn : PlotNo) (bar off : Nat) (width : RegWidth) : W64 :=
  let v := (((s.regAt fn bar (off / 8 * 8)).map s.regRead).getD 0).toNat
  match width with
  | .w64 => BitVec.ofNat 64 v
  | .w32 => BitVec.ofNat 64 (if off % 8 = 4 then v / 2 ^ 32 else v % 2 ^ 32)

/-- REGISTER_WRITE (R7, R438, R439): an aligned access of the host. An offset that no register has ignores a write. The opcode table has no
row of its own for a read, which this one takes with no value (DESIGN CHOICE, log entry 188). -/
def execRegisterWrite (fn : PlotNo) (bar off : Nat) (width : RegWidth) (value : OptW64) (s : State) : St State :=
  let n := match width with
    | .w32 => 4
    | .w64 => 8
  .next (if off % n ≠ 0 then s
    else match value with
      | none => { s with hostData := s.hostRead fn bar off width }
      | some v =>
        match s.regAt fn bar (off / 8 * 8), width with
        | none, _ => s
        | some r, .w64 => s.regWrite r v none
        | some r, .w32 => let high := off % 8 == 4; s.regWrite r (s.mergeHalf r high v) (some high))

/-- FLOG_CONS_WRITE (R351, R352). -/
def execFlogConsWrite (p : Page) (value : W64) (s : State) : St State := .next (s.flogConsWrite p value)

/-- FLOGLOST_CLEAR (R351). -/
def execFloglostClear (p : Page) (value : W64) (s : State) : St State := .next (s.flogLostWrite p value)

/-- PATROLUE_CLEAR (R470). -/
def execPatrolueClear (value : W64) (s : State) : St State := .next (s.patrolWrite value)

/-! ### The window (R437, R438) -/

/-- The device address of a byte of PF BAR2. -/
def State.windowAddr (s : State) (off : Nat) : Nat := s.winBase.toNat * 2 ^ 36 + off % 2 ^ 36

/-- HOST_WINDOW_ACCESS (R438): a write of HBM at system scope, or a read; outside HBM a read gives all ones and a write is ignored. -/
def execHostWindowAccess (off : Nat) (width : RegWidth) (wr : OptW64) (s : State) : St State :=
  let n := match width with
    | .w32 => 4
    | .w64 => 8
  let a := s.windowAddr off
  let inside := decide (a + n ≤ hbmTop) && off % n == 0
  .next (match wr with
    | some v => if inside then s.sysWrite a (toBytes n v.toNat) else s
    | none => { s with hostData := if inside then BitVec.ofNat 64 (ofBytes (s.homeRead a n)) else BitVec.ofNat 64 (2 ^ (8 * n) - 1) })

/-! ### Virtual functions (R446) -/

/-- The plots of virtual functions. -/
def State.vfPlots (s : State) : List Nat := (s.plots.filter fun (n, p) => n != 0 && p.live).map Prod.fst

/-- VF Enable is cleared: every plot is pre-empted at once, its queues freeze, its interrupts are held. -/
def State.disableVfs (s : State) : State :=
  if !s.vfEnable then s else s.vfPlots.foldl State.preemptPlot { s with vfEnable := false, vfOffAt := s.tick }

/-- VF_ENABLE_CLEAR. -/
def execVfEnableClear (s : State) : St State := .next s.disableVfs

/-- The aging of a plot's queues stood still between two base ticks. -/
def Plot.resumeQueues (p : Plot) (off now : Nat) : Plot :=
  { p with queues := p.queues.mapVals fun _ q => { q with waitSince := q.waitSince + (now - max off q.waitSince) } }

/-- Held interrupts are raised, at most one for each vector. -/
def State.raiseHeld (s : State) (fn : Nat) : State :=
  let h := (s.msix fn).held
  (List.range 32).foldl (fun s v => if h.getLsbD v then s.interrupt fn v else s) (s.setMsix fn { s.msix fn with held := 0 })

/-- VF_ENABLE_SET: saved groups may be placed again, queues resume, held interrupts are raised. -/
def execVfEnableSet (s : State) : St State :=
  .next (if s.vfEnable then s
    else
      let s1 := { s with
        vfEnable := true
        plots := s.plots.mapVals fun n p => if n = 0 then p else p.resumeQueues s.vfOffAt s.tick }
      s1.vfPlots.foldl State.raiseHeld s1)

/-- FUNCTION_LEVEL_RESET (R436, R446): the function's plot is pre-empted and its MSI-X state cleared; the plot resumes with the end of the
reset. That of the physical function clears VF Enable too (PRESUMED, log entry 189). -/
def execFunctionLevelReset (plot : PlotNo) (s : State) : St State :=
  .next (((if plot = 0 then s.disableVfs else s).preemptPlot plot).setMsix plot .zero)

/-- MSIX_VECTOR_UNMASK (R455): the mask bit of a vector is cleared, and its pending message goes out. -/
def execMsixVectorUnmask (fn : PlotNo) (vec : Nat) (s : State) : St State :=
  let vs := if fn = 0 then 9 else 32
  .next (if vs ≤ vec then s
    else
      let e := (s.msix fn).entry vec
      s.msixWrite fn (2 * vec + 1) (e.2 &&& ~~~(BitVec.ofNat 64 (2 ^ 32))))

end Sys2Proof.Machine
end

