-- ==== Sys2Proof/Machine/Dispatch.lean ====
section
/-!
DEFINITION. One arm for each constructor of Instr: the call of its meaning.
-/
namespace Sys2Proof.Machine

def exec (i : Instr) (s : State) : Host.Outcome State Fault Refusal :=
  match i with
  | .bnop => Sys2Proof.Machine.execBnop s
  | .b cr cb cs off => Sys2Proof.Machine.execB cr cb cs off s
  | .bA cr cb cs off => Sys2Proof.Machine.execBA cr cb cs off s
  | .br cr cb cs tr => Sys2Proof.Machine.execBr cr cb cs tr s
  | .brA cr cb cs tr => Sys2Proof.Machine.execBrA cr cb cs tr s
  | .call lr off => Sys2Proof.Machine.execCall lr off s
  | .callr lr tr => Sys2Proof.Machine.execCallr lr tr s
  | .bvu vr cs off => Sys2Proof.Machine.execBvu vr cs off s
  | .bvuA vr cs off => Sys2Proof.Machine.execBvuA vr cs off s
  | .loop tg off => Sys2Proof.Machine.execLoop tg off s
  | .loopi trip off => Sys2Proof.Machine.execLoopi trip off s
  | .loopm tg ii sc => Sys2Proof.Machine.execLoopm tg ii sc s
  | .loopmi trip ii sc => Sys2Proof.Machine.execLoopmi trip ii sc s
  | .lexit cr cb cs => Sys2Proof.Machine.execLexit cr cb cs s
  | .exit => Sys2Proof.Machine.execExit s
  | .trap code => Sys2Proof.Machine.execTrap code s
  | .snop => Sys2Proof.Machine.execSnop s
  | .add g d a b => Sys2Proof.Machine.execAdd g d a b s
  | .sub g d a b => Sys2Proof.Machine.execSub g d a b s
  | .adds g d a b => Sys2Proof.Machine.execAdds g d a b s
  | .subs g d a b => Sys2Proof.Machine.execSubs g d a b s
  | .addus g d a b => Sys2Proof.Machine.execAddus g d a b s
  | .subus g d a b => Sys2Proof.Machine.execSubus g d a b s
  | .adc g d a b cy p z => Sys2Proof.Machine.execAdc g d a b cy p z s
  | .sbc g d a b cy p z => Sys2Proof.Machine.execSbc g d a b cy p z s
  | .mul g d a b => Sys2Proof.Machine.execMul g d a b s
  | .mulh g d a b => Sys2Proof.Machine.execMulh g d a b s
  | .mulhu g d a b => Sys2Proof.Machine.execMulhu g d a b s
  | .madc g d a b cy p z => Sys2Proof.Machine.execMadc g d a b cy p z s
  | .div g d a b => Sys2Proof.Machine.execDiv g d a b s
  | .divu g d a b => Sys2Proof.Machine.execDivu g d a b s
  | .rem g d a b => Sys2Proof.Machine.execRem g d a b s
  | .remu g d a b => Sys2Proof.Machine.execRemu g d a b s
  | .and g d a b => Sys2Proof.Machine.execAnd g d a b s
  | .or g d a b => Sys2Proof.Machine.execOr g d a b s
  | .xor g d a b => Sys2Proof.Machine.execXor g d a b s
  | .andn g d a b => Sys2Proof.Machine.execAndn g d a b s
  | .orn g d a b => Sys2Proof.Machine.execOrn g d a b s
  | .shl g d a b => Sys2Proof.Machine.execShl g d a b s
  | .shr g d a b => Sys2Proof.Machine.execShr g d a b s
  | .sra g d a b => Sys2Proof.Machine.execSra g d a b s
  | .rol g d a b => Sys2Proof.Machine.execRol g d a b s
  | .clz g d a => Sys2Proof.Machine.execClz g d a s
  | .ctz g d a => Sys2Proof.Machine.execCtz g d a s
  | .popc g d a => Sys2Proof.Machine.execPopc g d a s
  | .bext g d a b f => Sys2Proof.Machine.execBext g d a b f s
  | .bins g d a b f => Sys2Proof.Machine.execBins g d a b f s
  | .sext g d a f => Sys2Proof.Machine.execSext g d a f s
  | .zext g d a f => Sys2Proof.Machine.execZext g d a f s
  | .cmpeq g d n a b => Sys2Proof.Machine.execCmpeq g d n a b s
  | .cmpne g d n a b => Sys2Proof.Machine.execCmpne g d n a b s
  | .cmplt g d n a b => Sys2Proof.Machine.execCmplt g d n a b s
  | .cmple g d n a b => Sys2Proof.Machine.execCmple g d n a b s
  | .cmpltu g d n a b => Sys2Proof.Machine.execCmpltu g d n a b s
  | .cmpleu g d n a b => Sys2Proof.Machine.execCmpleu g d n a b s
  | .min g d a b => Sys2Proof.Machine.execMin g d a b s
  | .max g d a b => Sys2Proof.Machine.execMax g d a b s
  | .minu g d a b => Sys2Proof.Machine.execMinu g d a b s
  | .maxu g d a b => Sys2Proof.Machine.execMaxu g d a b s
  | .movi g d imm => Sys2Proof.Machine.execMovi g d imm s
  | .movk g d hw imm => Sys2Proof.Machine.execMovk g d hw imm s
  | .mfs g d csr => Sys2Proof.Machine.execMfs g d csr s
  | .mts g a csr => Sys2Proof.Machine.execMts g a csr s
  | .movb g d n inv a bit => Sys2Proof.Machine.execMovb g d n inv a bit s
  | .fadd g d a b r => Sys2Proof.Machine.execFadd g d a b r s
  | .fsub g d a b r => Sys2Proof.Machine.execFsub g d a b r s
  | .fmul g d a b r => Sys2Proof.Machine.execFmul g d a b r s
  | .fma g d a b r => Sys2Proof.Machine.execFma g d a b r s
  | .fmin g d a b r => Sys2Proof.Machine.execFmin g d a b r s
  | .fmax g d a b r => Sys2Proof.Machine.execFmax g d a b r s
  | .fminnum g d a b r => Sys2Proof.Machine.execFminnum g d a b r s
  | .fmaxnum g d a b r => Sys2Proof.Machine.execFmaxnum g d a b r s
  | .fcmpeq g d n a b => Sys2Proof.Machine.execFcmpeq g d n a b s
  | .fcmplt g d n a b => Sys2Proof.Machine.execFcmplt g d n a b s
  | .fcmple g d n a b => Sys2Proof.Machine.execFcmple g d n a b s
  | .fcmpun g d n a b => Sys2Proof.Machine.execFcmpun g d n a b s
  | .fcvtif g d a r => Sys2Proof.Machine.execFcvtif g d a r s
  | .fcvtfi g d a r => Sys2Proof.Machine.execFcvtfi g d a r s
  | .fcvtf g d a k r => Sys2Proof.Machine.execFcvtf g d a k r s
  | .fclass g d a => Sys2Proof.Machine.execFclass g d a s
  | .anop => Sys2Proof.Machine.execAnop s
  | .lds g d a m => Sys2Proof.Machine.execLds g d a m s
  | .ldw g d a m => Sys2Proof.Machine.execLdw g d a m s
  | .ldwu g d a m => Sys2Proof.Machine.execLdwu g d a m s
  | .ldh g d a m => Sys2Proof.Machine.execLdh g d a m s
  | .ldhu g d a m => Sys2Proof.Machine.execLdhu g d a m s
  | .ldb g d a m => Sys2Proof.Machine.execLdb g d a m s
  | .ldbu g d a m => Sys2Proof.Machine.execLdbu g d a m s
  | .sts g x a m => Sys2Proof.Machine.execSts g x a m s
  | .stw g x a m => Sys2Proof.Machine.execStw g x a m s
  | .sth g x a m => Sys2Proof.Machine.execSth g x a m s
  | .stb g x a m => Sys2Proof.Machine.execStb g x a m s
  | .ldv g v a m => Sys2Proof.Machine.execLdv g v a m s
  | .stv g v a m => Sys2Proof.Machine.execStv g v a m s
  | .wlds g d a m => Sys2Proof.Machine.execWlds g d a m s
  | .wldv g v a m => Sys2Proof.Machine.execWldv g v a m s
  | .aadd g a x => Sys2Proof.Machine.execAadd g a x s
  | .amov g a x => Sys2Proof.Machine.execAmov g a x s
  | .aget g d a => Sys2Proof.Machine.execAget g d a s
  | .mset g m x => Sys2Proof.Machine.execMset g m x s
  | .mget g d m => Sys2Proof.Machine.execMget g d m s
  | .lea g d a m => Sys2Proof.Machine.execLea g d a m s
  | .acmplt g d n a => Sys2Proof.Machine.execAcmplt g d n a s
  | .clrv g a m => Sys2Proof.Machine.execClrv g a m s
  | .vnop => Sys2Proof.Machine.execVnop s
  | .vmov g d a => Sys2Proof.Machine.execVmov g d a s
  | .vadd g d a b => Sys2Proof.Machine.execVadd g d a b s
  | .vsub g d a b => Sys2Proof.Machine.execVsub g d a b s
  | .vadds g d a b => Sys2Proof.Machine.execVadds g d a b s
  | .vsubs g d a b => Sys2Proof.Machine.execVsubs g d a b s
  | .vaddus g d a b => Sys2Proof.Machine.execVaddus g d a b s
  | .vsubus g d a b => Sys2Proof.Machine.execVsubus g d a b s
  | .vmul g d a b sat => Sys2Proof.Machine.execVmul g d a b sat s
  | .vmulh g d a b => Sys2Proof.Machine.execVmulh g d a b s
  | .vmulhu g d a b => Sys2Proof.Machine.execVmulhu g d a b s
  | .vmulw g d a b h u => Sys2Proof.Machine.execVmulw g d a b h u s
  | .vmacw g d a b h u sat => Sys2Proof.Machine.execVmacw g d a b h u sat s
  | .vdot4 g d a b h u sat => Sys2Proof.Machine.execVdot4 g d a b h u sat s
  | .vmadc g d a b cy z => Sys2Proof.Machine.execVmadc g d a b cy z s
  | .vadc g d a b cy z => Sys2Proof.Machine.execVadc g d a b cy z s
  | .vsbc g d a b cy z => Sys2Proof.Machine.execVsbc g d a b cy z s
  | .vabs g d a sat => Sys2Proof.Machine.execVabs g d a sat s
  | .vneg g d a sat => Sys2Proof.Machine.execVneg g d a sat s
  | .vmini g d a b => Sys2Proof.Machine.execVmini g d a b s
  | .vmaxi g d a b => Sys2Proof.Machine.execVmaxi g d a b s
  | .vminu g d a b => Sys2Proof.Machine.execVminu g d a b s
  | .vmaxu g d a b => Sys2Proof.Machine.execVmaxu g d a b s
  | .vclamp g d a b => Sys2Proof.Machine.execVclamp g d a b s
  | .vavg g d a b => Sys2Proof.Machine.execVavg g d a b s
  | .vavgu g d a b => Sys2Proof.Machine.execVavgu g d a b s
  | .vabd g d a b => Sys2Proof.Machine.execVabd g d a b s
  | .vabdu g d a b => Sys2Proof.Machine.execVabdu g d a b s
  | .vand g d a b => Sys2Proof.Machine.execVand g d a b s
  | .vor g d a b => Sys2Proof.Machine.execVor g d a b s
  | .vxor g d a b => Sys2Proof.Machine.execVxor g d a b s
  | .vandn g d a b => Sys2Proof.Machine.execVandn g d a b s
  | .vbitsel g d a b => Sys2Proof.Machine.execVbitsel g d a b s
  | .vshl g d a b sat => Sys2Proof.Machine.execVshl g d a b sat s
  | .vshr g d a b => Sys2Proof.Machine.execVshr g d a b s
  | .vsra g d a b => Sys2Proof.Machine.execVsra g d a b s
  | .vrol g d a b => Sys2Proof.Machine.execVrol g d a b s
  | .vclz g d a => Sys2Proof.Machine.execVclz g d a s
  | .vpopc g d a => Sys2Proof.Machine.execVpopc g d a s
  | .vbext g d a b f => Sys2Proof.Machine.execVbext g d a b f s
  | .vbins g d a b f => Sys2Proof.Machine.execVbins g d a b f s
  | .vsext g d a f => Sys2Proof.Machine.execVsext g d a f s
  | .vzext g d a f => Sys2Proof.Machine.execVzext g d a f s
  | .vrev g d a => Sys2Proof.Machine.execVrev g d a s
  | .vbswap g d a => Sys2Proof.Machine.execVbswap g d a s
  | .vcmpeq g d a b => Sys2Proof.Machine.execVcmpeq g d a b s
  | .vcmpne g d a b => Sys2Proof.Machine.execVcmpne g d a b s
  | .vcmplt g d a b => Sys2Proof.Machine.execVcmplt g d a b s
  | .vcmple g d a b => Sys2Proof.Machine.execVcmple g d a b s
  | .vcmpltu g d a b => Sys2Proof.Machine.execVcmpltu g d a b s
  | .vcmpleu g d a b => Sys2Proof.Machine.execVcmpleu g d a b s
  | .vsel g d a b => Sys2Proof.Machine.execVsel g d a b s
  | .vfadd g d a b r => Sys2Proof.Machine.execVfadd g d a b r s
  | .vfsub g d a b r => Sys2Proof.Machine.execVfsub g d a b r s
  | .vfmul g d a b r => Sys2Proof.Machine.execVfmul g d a b r s
  | .vfma g d a b r => Sys2Proof.Machine.execVfma g d a b r s
  | .vfms g d a b r => Sys2Proof.Machine.execVfms g d a b r s
  | .vfnma g d a b r => Sys2Proof.Machine.execVfnma g d a b r s
  | .vfmaw g d a b h f r => Sys2Proof.Machine.execVfmaw g d a b h f r s
  | .vfabs g d a => Sys2Proof.Machine.execVfabs g d a s
  | .vfneg g d a => Sys2Proof.Machine.execVfneg g d a s
  | .vmin g d a b => Sys2Proof.Machine.execVmin g d a b s
  | .vmax g d a b => Sys2Proof.Machine.execVmax g d a b s
  | .vminnum g d a b => Sys2Proof.Machine.execVminnum g d a b s
  | .vmaxnum g d a b => Sys2Proof.Machine.execVmaxnum g d a b s
  | .vfclamp g d a b => Sys2Proof.Machine.execVfclamp g d a b s
  | .vfrnd g d a r => Sys2Proof.Machine.execVfrnd g d a r s
  | .vfclass g d a => Sys2Proof.Machine.execVfclass g d a s
  | .vfcopys g d a b => Sys2Proof.Machine.execVfcopys g d a b s
  | .vfscale g d a b r => Sys2Proof.Machine.execVfscale g d a b r s
  | .vfcmpeq g d a b => Sys2Proof.Machine.execVfcmpeq g d a b s
  | .vfcmplt g d a b => Sys2Proof.Machine.execVfcmplt g d a b s
  | .vfcmple g d a b => Sys2Proof.Machine.execVfcmple g d a b s
  | .vfcmpun g d a b => Sys2Proof.Machine.execVfcmpun g d a b s
  | .vcvtfi g d a f u r => Sys2Proof.Machine.execVcvtfi g d a f u r s
  | .vcvtif g d a f u r => Sys2Proof.Machine.execVcvtif g d a f u r s
  | .vcvtff g d a k h r => Sys2Proof.Machine.execVcvtff g d a k h r s
  | .vcvtii g d a k h u sat => Sys2Proof.Machine.execVcvtii g d a k h u sat s
  | .vpack g d a q u sat => Sys2Proof.Machine.execVpack g d a q u sat s
  | .vunpack g d a q u => Sys2Proof.Machine.execVunpack g d a q u s
  | .vqnq4 g d a ty r => Sys2Proof.Machine.execVqnq4 g d a ty r s
  | .vdqnq4 g d a => Sys2Proof.Machine.execVdqnq4 g d a s
  | .vrcp g d a r => Sys2Proof.Machine.execVrcp g d a r s
  | .vrsqrt g d a r => Sys2Proof.Machine.execVrsqrt g d a r s
  | .vexp2 g d a r => Sys2Proof.Machine.execVexp2 g d a r s
  | .vlog2 g d a r => Sys2Proof.Machine.execVlog2 g d a r s
  | .vscacc g d a b ga => Sys2Proof.Machine.execVscacc g d a b ga s
  | .vcsum g t => Sys2Proof.Machine.execVcsum g t s
  | .vcsumRow g d t sel => Sys2Proof.Machine.execVcsumRow g d t sel s
  | .vcchk g t => Sys2Proof.Machine.execVcchk g t s
  | .vredadd g d a => Sys2Proof.Machine.execVredadd g d a s
  | .vredaddw g d a u => Sys2Proof.Machine.execVredaddw g d a u s
  | .vredfadd g d a r => Sys2Proof.Machine.execVredfadd g d a r s
  | .vredmin g d a u => Sys2Proof.Machine.execVredmin g d a u s
  | .vredmax g d a u => Sys2Proof.Machine.execVredmax g d a u s
  | .vredfmin g d a => Sys2Proof.Machine.execVredfmin g d a s
  | .vredfmax g d a => Sys2Proof.Machine.execVredfmax g d a s
  | .vredand g d a => Sys2Proof.Machine.execVredand g d a s
  | .vredor g d a => Sys2Proof.Machine.execVredor g d a s
  | .vbcast g d a b => Sys2Proof.Machine.execVbcast g d a b s
  | .vperm g d a b => Sys2Proof.Machine.execVperm g d a b s
  | .vshuf g d a b => Sys2Proof.Machine.execVshuf g d a b s
  | .vrotl g d a b => Sys2Proof.Machine.execVrotl g d a b s
  | .vslide g d a b => Sys2Proof.Machine.execVslide g d a b s
  | .vzip g d a b h => Sys2Proof.Machine.execVzip g d a b h s
  | .vunzip g d a b h => Sys2Proof.Machine.execVunzip g d a b h s
  | .vrevl g d a => Sys2Proof.Machine.execVrevl g d a s
  | .vcompress g d a b n => Sys2Proof.Machine.execVcompress g d a b n s
  | .vexpand g d a b n => Sys2Proof.Machine.execVexpand g d a b n s
  | .vtopk g d a b h => Sys2Proof.Machine.execVtopk g d a b h s
  | .viota g d a u => Sys2Proof.Machine.execViota g d a u s
  | .vany g gn b a => Sys2Proof.Machine.execVany g gn b a s
  | .vall g gn b a => Sys2Proof.Machine.execVall g gn b a s
  | .vmcount g gn a => Sys2Proof.Machine.execVmcount g gn a s
  | .vmskg g gn a q => Sys2Proof.Machine.execVmskg g gn a q s
  | .vgmsk g d gs q => Sys2Proof.Machine.execVgmsk g d gs q s
  | .vins g d gs t => Sys2Proof.Machine.execVins g d gs t s
  | .vext g gn a t => Sys2Proof.Machine.execVext g gn a t s
  | .tcfg g t ty => Sys2Proof.Machine.execTcfg g t ty s
  | .vcvt8 g d a q e r => Sys2Proof.Machine.execVcvt8 g d a q e r s
  | .vcvt8w g d a q u => Sys2Proof.Machine.execVcvt8w g d a q u s
  | .mnop => Sys2Proof.Machine.execMnop s
  | .mclr set => Sys2Proof.Machine.execMclr set s
  | .mpush w sa sb => Sys2Proof.Machine.execMpush w sa sb s
  | .macc w sa sb => Sys2Proof.Machine.execMacc w sa sb s
  | .mshift sa sb => Sys2Proof.Machine.execMshift sa sb s
  | .mdrain arow t => Sys2Proof.Machine.execMdrain arow t s
  | .mswap => Sys2Proof.Machine.execMswap s
  | .mcfg pa pb => Sys2Proof.Machine.execMcfg pa pb s
  | .xnop => Sys2Proof.Machine.execXnop s
  | .ldg g d src size acq scope => Sys2Proof.Machine.execLdg g d src size acq scope s
  | .ldgu g d src size acq scope => Sys2Proof.Machine.execLdgu g d src size acq scope s
  | .ldgnc g d src size acq scope => Sys2Proof.Machine.execLdgnc g d src size acq scope s
  | .stg g d src size rel scope => Sys2Proof.Machine.execStg g d src size rel scope s
  | .ldgv g v src acq scope => Sys2Proof.Machine.execLdgv g v src acq scope s
  | .stgv g v src rel scope => Sys2Proof.Machine.execStgv g v src rel scope s
  | .prefg g src => Sys2Proof.Machine.execPrefg g src s
  | .atadd g d src wide ord scope => Sys2Proof.Machine.execAtadd g d src wide ord scope s
  | .atmin g d src wide ord scope => Sys2Proof.Machine.execAtmin g d src wide ord scope s
  | .atmax g d src wide ord scope => Sys2Proof.Machine.execAtmax g d src wide ord scope s
  | .atminu g d src wide ord scope => Sys2Proof.Machine.execAtminu g d src wide ord scope s
  | .atmaxu g d src wide ord scope => Sys2Proof.Machine.execAtmaxu g d src wide ord scope s
  | .atand g d src wide ord scope => Sys2Proof.Machine.execAtand g d src wide ord scope s
  | .ator g d src wide ord scope => Sys2Proof.Machine.execAtor g d src wide ord scope s
  | .atxor g d src wide ord scope => Sys2Proof.Machine.execAtxor g d src wide ord scope s
  | .atxchg g d src wide ord scope => Sys2Proof.Machine.execAtxchg g d src wide ord scope s
  | .atcas g d src wide ord scope => Sys2Proof.Machine.execAtcas g d src wide ord scope s
  | .atfadd g d src ord scope => Sys2Proof.Machine.execAtfadd g d src ord scope s
  | .atfmax g d src ord scope => Sys2Proof.Machine.execAtfmax g d src ord scope s
  | .fence g ord scope => Sys2Proof.Machine.execFence g ord scope s
  | .ldfe g p q size clear => Sys2Proof.Machine.execLdfe g p q size clear s
  | .stfe g p q size => Sys2Proof.Machine.execStfe g p q size s
  | .feset g p q v => Sys2Proof.Machine.execFeset g p q v s
  | .fetest g p b q => Sys2Proof.Machine.execFetest g p b q s
  | .gbar g => Sys2Proof.Machine.execGbar g s
  | .sbind g n q => Sys2Proof.Machine.execSbind g n q s
  | .sunbind g n => Sys2Proof.Machine.execSunbind g n s
  | .treg g e q => Sys2Proof.Machine.execTreg g e q s
  | .tunreg g e => Sys2Proof.Machine.execTunreg g e s
  | .ecopy g p q => Sys2Proof.Machine.execEcopy g p q s
  | .emcast g p q => Sys2Proof.Machine.execEmcast g p q s
  | .egather g p q => Sys2Proof.Machine.execEgather g p q s
  | .escatter g p q => Sys2Proof.Machine.execEscatter g p q s
  | .eplane g p q => Sys2Proof.Machine.execEplane g p q s
  | .efeed g p q => Sys2Proof.Machine.execEfeed g p q s
  | .ewait g q => Sys2Proof.Machine.execEwait g q s
  | .etest g p b q => Sys2Proof.Machine.execEtest g p b q s
  | .qpush g p q => Sys2Proof.Machine.execQpush g p q s
  | .qpop g p q => Sys2Proof.Machine.execQpop g p q s
  | .qlen g p q => Sys2Proof.Machine.execQlen g p q s
  | .cntadd g q => Sys2Proof.Machine.execCntadd g q s
  | .cntrd g d => Sys2Proof.Machine.execCntrd g d s
  | .kbind g n q => Sys2Proof.Machine.execKbind g n q s
  | .kunbind g n => Sys2Proof.Machine.execKunbind g n s
  | .kstat g d n => Sys2Proof.Machine.execKstat g d n s
  | .susp g q => Sys2Proof.Machine.execSusp g q s
  | .cres g q => Sys2Proof.Machine.execCres g q s
  | .cresT g p q => Sys2Proof.Machine.execCresT g p q s
  | .ccopy g p q => Sys2Proof.Machine.execCcopy g p q s
  | .cdrop g q => Sys2Proof.Machine.execCdrop g q s
  | .cinfo g p q => Sys2Proof.Machine.execCinfo g p q s
  | .kslotld g p q => Sys2Proof.Machine.execKslotld g p q s
  | .kslotz g q => Sys2Proof.Machine.execKslotz g q s
  | .glean g p => Sys2Proof.Machine.execGlean g p s
  | .notify g q => Sys2Proof.Machine.execNotify g q s
  | .issueBundle c => Sys2Proof.Machine.execIssueBundle c s
  | .fixedLatencyLanding c => Sys2Proof.Machine.execFixedLatencyLanding c s
  | .loadValueLanding x n => Sys2Proof.Machine.execLoadValueLanding x n s
  | .checkpointCommit c => Sys2Proof.Machine.execCheckpointCommit c s
  | .commitQueuePerform x n => Sys2Proof.Machine.execCommitQueuePerform x n s
  | .yield c => Sys2Proof.Machine.execYield c s
  | .idleCoreChoice c => Sys2Proof.Machine.execIdleCoreChoice c s
  | .spinlimPark c => Sys2Proof.Machine.execSpinlimPark c s
  | .parkEnd x => Sys2Proof.Machine.execParkEnd x s
  | .qpushRetry x => Sys2Proof.Machine.execQpushRetry x s
  | .takeRecord cl plot n c => Sys2Proof.Machine.execTakeRecord cl plot n c s
  | .loadingComplete x => Sys2Proof.Machine.execLoadingComplete x s
  | .groupPlacement cl plot n => Sys2Proof.Machine.execGroupPlacement cl plot n s
  | .releaseAsRecord x => Sys2Proof.Machine.execReleaseAsRecord x s
  | .drainingEnd x => Sys2Proof.Machine.execDrainingEnd x s
  | .dataErrorVerification x => Sys2Proof.Machine.execDataErrorVerification x s
  | .streamFetch x sr => Sys2Proof.Machine.execStreamFetch x sr s
  | .refreshWindowAdvance d => Sys2Proof.Machine.execRefreshWindowAdvance d s
  | .patrolScrub da => Sys2Proof.Machine.execPatrolScrub da s
  | .hbmCalibration stack => Sys2Proof.Machine.execHbmCalibration stack s
  | .linkCalibration port => Sys2Proof.Machine.execLinkCalibration port s
  | .translationWalk d plot page => Sys2Proof.Machine.execTranslationWalk d plot page s
  | .homeStackPerform d n => Sys2Proof.Machine.execHomeStackPerform d n s
  | .dieUpdateApply d n => Sys2Proof.Machine.execDieUpdateApply d n s
  | .copyEngineTransfer op => Sys2Proof.Machine.execCopyEngineTransfer op s
  | .planeBuildSlice op => Sys2Proof.Machine.execPlaneBuildSlice op s
  | .feedLoaderItem op => Sys2Proof.Machine.execFeedLoaderItem op s
  | .feedStorerItem op => Sys2Proof.Machine.execFeedStorerItem op s
  | .weightLoadOperation op => Sys2Proof.Machine.execWeightLoadOperation op s
  | .completionObjectLanding op => Sys2Proof.Machine.execCompletionObjectLanding op s
  | .queueAccept x => Sys2Proof.Machine.execQueueAccept x s
  | .queueHeadRemove x => Sys2Proof.Machine.execQueueHeadRemove x s
  | .heathRefill plot q => Sys2Proof.Machine.execHeathRefill plot q s
  | .queueMappingTick bd => Sys2Proof.Machine.execQueueMappingTick bd s
  | .gangEnd plot gang => Sys2Proof.Machine.execGangEnd plot gang s
  | .gangIdFree plot gang => Sys2Proof.Machine.execGangIdFree plot gang s
  | .launch plot word => Sys2Proof.Machine.execLaunch plot word s
  | .graphNodeStart launch node => Sys2Proof.Machine.execGraphNodeStart launch node s
  | .graphNodeComplete launch node => Sys2Proof.Machine.execGraphNodeComplete launch node s
  | .sliceDeadline group => Sys2Proof.Machine.execSliceDeadline group s
  | .ckwaitExpiry group => Sys2Proof.Machine.execCkwaitExpiry group s
  | .groupSave group => Sys2Proof.Machine.execGroupSave group s
  | .restorePlacement cl => Sys2Proof.Machine.execRestorePlacement cl s
  | .groupRestore cl n => Sys2Proof.Machine.execGroupRestore cl n s
  | .packetSend x k => Sys2Proof.Machine.execPacketSend x k s
  | .packetArrival p => Sys2Proof.Machine.execPacketArrival p s
  | .refusedResend x k => Sys2Proof.Machine.execRefusedResend x k s
  | .landingEntryMove x k => Sys2Proof.Machine.execLandingEntryMove x k s
  | .remoteOperationPerform d n => Sys2Proof.Machine.execRemoteOperationPerform d n s
  | .remoteAckArrival x n => Sys2Proof.Machine.execRemoteAckArrival x n s
  | .remoteFailure x arg offset => Sys2Proof.Machine.execRemoteFailure x arg offset s
  | .revokeArrival module plot gen => Sys2Proof.Machine.execRevokeArrival module plot gen s
  | .purseDecay => Sys2Proof.Machine.execPurseDecay s
  | .shareWindowStart c => Sys2Proof.Machine.execShareWindowStart c s
  | .shareExhausted c plot gang => Sys2Proof.Machine.execShareExhausted c plot gang s
  | .gleanBlockWrite => Sys2Proof.Machine.execGleanBlockWrite s
  | .estateCreate p => Sys2Proof.Machine.execEstateCreate p s
  | .estateDestroy p => Sys2Proof.Machine.execEstateDestroy p s
  | .plotCreate p => Sys2Proof.Machine.execPlotCreate p s
  | .plotDestroy p => Sys2Proof.Machine.execPlotDestroy p s
  | .policyWrite p => Sys2Proof.Machine.execPolicyWrite p s
  | .policyRead p => Sys2Proof.Machine.execPolicyRead p s
  | .grant p => Sys2Proof.Machine.execGrant p s
  | .ungrant p => Sys2Proof.Machine.execUngrant p s
  | .root p => Sys2Proof.Machine.execRoot p s
  | .inval p => Sys2Proof.Machine.execInval p s
  | .handle p => Sys2Proof.Machine.execHandle p s
  | .unhandle p => Sys2Proof.Machine.execUnhandle p s
  | .rights p => Sys2Proof.Machine.execRights p s
  | .preempt p => Sys2Proof.Machine.execPreempt p s
  | .pair p => Sys2Proof.Machine.execPair p s
  | .qcreate p => Sys2Proof.Machine.execQcreate p s
  | .attest p => Sys2Proof.Machine.execAttest p s
  | .timeset p => Sys2Proof.Machine.execTimeset p s
  | .kreg p => Sys2Proof.Machine.execKreg p s
  | .kunreg p => Sys2Proof.Machine.execKunreg p s
  | .greg p => Sys2Proof.Machine.execGreg p s
  | .gunreg p => Sys2Proof.Machine.execGunreg p s
  | .mcmdUnknownOp p => Sys2Proof.Machine.execMcmdUnknownOp p s
  | .frelResume estate => Sys2Proof.Machine.execFrelResume estate s
  | .frelRefuse estate => Sys2Proof.Machine.execFrelRefuse estate s
  | .flogConsWrite p value => Sys2Proof.Machine.execFlogConsWrite p value s
  | .floglostClear p value => Sys2Proof.Machine.execFloglostClear p value s
  | .patrolueClear value => Sys2Proof.Machine.execPatrolueClear value s
  | .registerWrite fn bar off width value => Sys2Proof.Machine.execRegisterWrite fn bar off width value s
  | .hostWindowAccess off width wr => Sys2Proof.Machine.execHostWindowAccess off width wr s
  | .vfEnableClear => Sys2Proof.Machine.execVfEnableClear s
  | .vfEnableSet => Sys2Proof.Machine.execVfEnableSet s
  | .functionLevelReset plot => Sys2Proof.Machine.execFunctionLevelReset plot s
  | .powerOn => Sys2Proof.Machine.execPowerOn s
  | .startWarmRequest => Sys2Proof.Machine.execStartWarmRequest s
  | .startColdRequest => Sys2Proof.Machine.execStartColdRequest s
  | .fundamentalReset => Sys2Proof.Machine.execFundamentalReset s
  | .clockLowering d => Sys2Proof.Machine.execClockLowering d s
  | .landingFullReplyArrival x k => Sys2Proof.Machine.execLandingFullReplyArrival x k s
  | .wearManagementMigration x => Sys2Proof.Machine.execWearManagementMigration x s
  | .msixVectorUnmask fn vec => Sys2Proof.Machine.execMsixVectorUnmask fn vec s
  | .clockRestore d => Sys2Proof.Machine.execClockRestore d s

end Sys2Proof.Machine
end

