-- ==== Sys2Proof/Machine/Progress.lean ====
section
/-!
DEFINITION. The interleaving that the machine takes where nothing else is asked of it: the cores' cycles, the background events that may
happen, the passing of time.
-/
namespace Sys2Proof.Machine

/-- The state that an outcome leads to. -/
def next (s : State) : St State → State
  | .next t => t
  | _ => s

/-- An event that may happen now: the machine after it. -/
abbrev Chance := Unit → Option State

/-- The first event of a list that may happen. -/
def firstChance : List Chance → Option State
  | [] => none
  | f :: l =>
    match f () with
    | some t => some t
    | none => firstChance l

/-- The first entry of a list at which an event may happen. -/
def chanceAt {α : Type} (l : List α) (may : α → Bool) (go : α → St State) (s : State) : Chance := fun _ => (l.find? may).map fun a => next s (go a)

/-- The first entry of a list at which an event changes something. -/
def chanceIf {α : Type} (l : List α) (go : α → St State) (changed : State → Bool) (s : State) : Chance := fun _ =>
  l.findSome? fun a => let t := next s (go a); if changed t then some t else none

def xId (x : Nat) : CtxId := Fin.ofNat 5120 x
def kId (k : Nat) : KReg := Fin.ofNat 8 k

/-- Contexts that the state lists, with the numbers below a bound. -/
def State.ctxBy (s : State) (n : Context → Nat) : List (Nat × Nat) := s.ctxs.flatMap fun (x, c) => (List.range (n c)).map fun i => (x, i)

/-! ### A core's turn (R33, R225, R424) -/

/-- A core whose cycle is due: the share window, the choice of an idle core, a verification, a park, a push's answer, or the issue. -/
def State.coreTurn (s : State) (core : Nat) : St State :=
  let c : CoreId := Fin.ofNat 640 core
  if (s.core core).share.pos = 0 then execShareWindowStart c s
  else match s.issuer core with
    | none =>
      match (s.core core).running with
      | none => execIdleCoreChoice c s
      | some _ => .next ((s.setCore core { s.core core with running := none }))
    | some x =>
      let k := s.ctx x
      match k.raised with
      | some t => if t.code = 0x16 ∨ t.code = 0x17 then execDataErrorVerification (xId x) s else execIssueBundle c s
      | none =>
        if s.spinlim ≤ k.frozenFor ∧ k.parkOn.isSome ∧ k.st ≠ .frozen .checkpoint ∧ k.st ≠ .running then execSpinlimPark c s
        else if k.pushing then execQueueAccept (xId x) s
        else execIssueBundle c s

/-! ### Memory (R263, R265, R271, R399 to R401) -/

/-- Whether a pending value can land, or be found to fail, now. -/
def State.canLand (s : State) (x : Nat) (c : Context) (l : Load) : Bool :=
  s.mayTake x c l && ((l.unwanted && l.covered && l.kind.global) || match s.arrived x c l with
    | .wait => false
    | _ => true)

/-- Pages that a context's accesses wait for: (context, page). -/
def State.wanted (s : State) : List (Nat × Nat) :=
  s.ctxs.flatMap fun (x, c) =>
    let d := dieOf (coreOfCtx x)
    let ranges := (c.loads.filterMap fun l => if l.kind.global && !l.covered then some (l.addr, l.size) else none) ++
      (c.buf.filterMap fun st => if st.space = .hbm then some (st.addr, st.bytes.length) else none) ++
      match c.parkOn with
      | some (.walk a n) => [(a, n)]
      | _ => []
    (ranges.flatMap fun (a, n) => (List.range ((a + n - 1) / 65536 - a / 65536 + 1)).map fun i => a / 65536 + i).filterMap fun p =>
      if p < 2 ^ 40 && (s.tlbFind d c.plot p).isNone then some (x, p) else none

def State.memoryChances (s : State) : List Chance :=
  [chanceAt (s.ctxBy fun c => c.loads.length)
      (fun e => match (s.ctx e.1).loads[e.2]? with
        | some l => s.canLand e.1 (s.ctx e.1) l
        | none => false)
      (fun e => execLoadValueLanding (xId e.1) (e.2, 0) s) s,
    chanceAt (List.finRange 4) (fun d => !(s.die d).out.isEmpty) (fun d => execHomeStackPerform d 0 s) s,
    chanceAt ((List.finRange 4).flatMap fun (d : DieId) => (List.range (s.die d).updates.length).map fun n => ((d, n) : DieId × Nat))
      (fun e => match (s.die e.1).updates[e.2]? with
        | some u => (s.die e.1).applies u
        | none => false)
      (fun e => execDieUpdateApply e.1 e.2 s) s,
    chanceAt (s.ctxBy fun c => c.cq.length)
      (fun e => match (s.ctx e.1).cq[e.2]? with
        | some st => s.mayPerform (coreOfCtx e.1) (s.ctx e.1) e.2 st
        | none => false)
      (fun e => execCommitQueuePerform (xId e.1) (e.2, 0) s) s,
    chanceAt s.wanted (fun _ => true) (fun e => execTranslationWalk (Fin.ofNat 4 (dieOf (coreOfCtx e.1))) (s.ctx e.1).plot e.2 s) s,
    chanceAt (s.ctxBy fun _ => 16)
      (fun e => match (s.ctx e.1).bind.getD e.2 none with
        | some b => (s.fetchable (coreOfCtx e.1) (s.ctx e.1) (Fin.ofNat 16 e.2) b).isSome
        | none => false)
      (fun e => execStreamFetch (xId e.1) (Fin.ofNat 16 e.2, 0) s) s]

/-! ### Engines (R304 to R312) -/

/-- Whether an operation's next unit may be done now. -/
def State.canWork (s : State) (e : EngineOp) : Bool :=
  !e.finished && s.forked e && (e.op != 0x23 || (s.hasController e && (if bits (e.w 0) 60 4 = 0 then !e.itemAddrs.any (fun a => s.allFull e.core a e.elemSize)
    else e.itemAddrs.all fun a => s.allFull e.core a e.elemSize)))

/-- One unit of an operation's work. -/
def State.workEngine (s : State) (e : EngineOp) : St State :=
  match e.op with
  | 0x22 => execPlaneBuildSlice e.id s
  | 0x23 => if bits (e.w 0) 60 4 = 0 then execFeedLoaderItem e.id s else execFeedStorerItem e.id s
  | 0x40 => execWeightLoadOperation e.id s
  | _ => execCopyEngineTransfer e.id s

def State.engineChances (s : State) : List Chance :=
  [chanceAt s.engines s.canWork s.workEngine s,
    chanceIf (s.engines.filter EngineOp.finished) (fun e => execCompletionObjectLanding e.id s) (fun t => decide (t.engines ≠ s.engines)) s]

/-! ### Queues and strands -/

/-- Whether a pop's answer is there. -/
def State.canPop (s : State) (c : Context) : Bool :=
  match c.popping with
  | none => false
  | some (_, v) =>
    match s.queueName c.plot v with
    | some (.task qn) =>
      match s.queue c.plot qn with
      | some q => !s.fnHeld c.plot && (!q.slot.isEmpty || q.heathLen == 0)
      | none => true
    | _ => true

/-- Run queues that hold records, with their items that break a rule: (key, place). -/
def State.badItems (s : State) : List (Nat × Nat) :=
  s.runq.flatMap fun (k, q) => (s.runItems (k % 256) (q.length + 1) 0 q).filterMap fun it => if it.bad then some (k, it.at_) else none

/-- Start what a cluster places next, or discard records. -/
def State.startAt (s : State) (k n : Nat) : St State :=
  let cl : ClusterId := Fin.ofNat 40 (k / 256)
  let p : PlotNo := Fin.ofNat 256 (k % 256)
  match (s.runQueue (k / 256) (k % 256))[n]? with
  | none => .next s
  | some r =>
    if r.gsize ≠ 0 then execGroupPlacement cl p n s
    else execTakeRecord cl p n (Fin.ofNat 640 (((s.coresFor (k / 256) (k % 256) r.kslot).headD (k / 256 * 16, 0)).1)) s

/-- Clusters with waiting work. -/
def State.busyClusters (s : State) : List Nat :=
  ((s.runq.filterMap fun (k, q) => if q.isEmpty then none else some (k / 256)) ++
    s.restore.filterMap fun (k, l) => if l.isEmpty then none else some k).eraseDups

/-- What a cluster places next. -/
def State.placeNext (s : State) (cl : Nat) : Option State :=
  match s.nextWork cl with
  | none => none
  | some w => some (next s (if w.saved then execRestorePlacement (Fin.ofNat 40 cl) s else s.startAt (runKey cl w.plot) w.n))

def State.strandChances (s : State) : List Chance :=
  [chanceAt (s.ctxs.map Prod.fst) (fun x => s.canPop (s.ctx x)) (fun x => execQueueHeadRemove (xId x) s) s,
    chanceAt (s.plots.flatMap fun (p, x) => x.queues.map fun e => (p, e))
      (fun e => !s.fnHeld e.1 && e.2.2.mapped && e.2.2.heathLen != 0 && decide (e.2.2.slot.length < 32) &&
        !(e.2.2.failing && decide (s.tick < e.2.2.retryAt)))
      (fun e => execHeathRefill (Fin.ofNat 256 e.1) e.2.1 s) s,
    chanceIf (s.ctxs.filter fun (_, c) => c.parkOn.isSome || c.st matches .parked _) (fun e => execParkEnd (xId e.1) s)
      (fun t => decide ((t.ctxs.filter fun (_, c) => c.st matches .parked _).length < (s.ctxs.filter fun (_, c) => c.st matches .parked _).length)) s,
    chanceIf (s.ctxs.filter fun (_, c) => c.st matches .parked _) (fun e => execQpushRetry (xId e.1) s)
      (fun t => decide ((t.ctxs.filter fun (_, c) => c.st matches .parked _).length < (s.ctxs.filter fun (_, c) => c.st matches .parked _).length)) s,
    chanceAt (s.groups.filterMap fun (_, g) => if !g.members.isEmpty && g.members.all fun y => (s.ctx y).st == .loading then g.members.head? else none)
      (fun _ => true) (fun x => execLoadingComplete (xId x) s) s,
    chanceIf (s.ctxs.filter fun (_, c) => c.st == .draining || c.releasing)
      (fun e => if e.2.st = .draining then execDrainingEnd (xId e.1) s else execReleaseAsRecord (xId e.1) s)
      (fun t => decide ((t.ctxs.filter fun (_, c) => c.st == .free).length > (s.ctxs.filter fun (_, c) => c.st == .free).length)) s,
    chanceAt (s.groups.filter fun (_, g) => g.stop.isSome)
      (fun (gid, g) => (s.liveMembers gid g).all fun m => s.memberSettled m.2) (fun e => execGroupSave e.1 s) s,
    chanceAt s.groups (fun (_, g) => match g.stop with
      | some st => st.atCheckpoint && decide (st.asked + 8000 ≤ s.tick)
      | none => false) (fun e => execCkwaitExpiry e.1 s) s,
    chanceAt s.groups (fun (gid, g) => !g.checked && g.stop.isNone && decide (g.deadline ≤ s.tick) && !(s.liveMembers gid g).isEmpty)
      (fun e => execSliceDeadline e.1 s) s,
    chanceAt s.badItems (fun _ => true) (fun e => s.startAt e.1 e.2) s,
    chanceIf (s.restore.flatMap fun (cl, l) => (List.range l.length).map fun n => (cl, n)) (fun e => execGroupRestore (Fin.ofNat 40 e.1) e.2 s)
      (fun t => decide (t.restore ≠ s.restore)) s,
    fun _ => s.busyClusters.findSome? s.placeNext]

/-! ### Gangs, launches, the fabric, the firmware -/

def State.gangChances (s : State) : List Chance :=
  [chanceAt s.gangs (fun (k, g) => g.ended.isNone && !s.gangLive (k / 65536) (k % 65536))
      (fun e => execGangEnd (Fin.ofNat 256 (e.1 / 65536)) (e.1 % 65536) s) s,
    chanceAt s.gangs (fun (_, g) => g.launch.isNone && (g.ended.map fun t => decide (t + 400000 ≤ s.tick)).getD false)
      (fun e => execGangIdFree (Fin.ofNat 256 (e.1 / 65536)) (e.1 % 65536) s) s,
    chanceIf (s.launches.flatMap fun (l, x) => (List.range x.nodes.length).map fun n => (l, n)) (fun e => execGraphNodeComplete e.1 e.2 s)
      (fun t => decide (t.launches ≠ s.launches)) s,
    chanceIf (s.launches.flatMap fun (l, x) => (List.range x.nodes.length).map fun n => (l, n)) (fun e => execGraphNodeStart e.1 e.2 s)
      (fun t => decide (t.launches ≠ s.launches)) s]

/-- A packet that ends at this module meets its target. -/
def State.meetOne (s : State) (p : Packet) : St State :=
  match p.kind with
  | .ack => execRemoteAckArrival p.src p.num s
  | .refused => execLandingFullReplyArrival p.src p.srcChan s
  | .failed arg off => execRemoteFailure p.src arg off s
  | _ => execPacketArrival p s

def State.fabricChances (s : State) : List Chance :=
  [chanceIf s.fabric s.meetOne (fun t => decide (t.fabric ≠ s.fabric)) s,
    chanceIf s.refusedReplies (fun e => execPacketArrival e.1 s) (fun t => decide (t.refusedReplies ≠ s.refusedReplies)) s,
    chanceAt (s.ctxBy fun _ => 8) (fun e => (s.sendReady e.1 (kId e.2) false).isSome) (fun e => execPacketSend (xId e.1) (kId e.2) s) s,
    chanceAt (s.ctxBy fun _ => 8) (fun e => (s.sendReady e.1 (kId e.2) true).isSome) (fun e => execRefusedResend (xId e.1) (kId e.2) s) s,
    chanceIf s.landed (fun l => execLandingEntryMove (xId l.ctx) l.chan s) (fun t => decide (t.landed.length < s.landed.length)) s,
    chanceAt (List.finRange 4) (fun d => !(s.die d).agent.isEmpty) (fun d => execRemoteOperationPerform d 0 s) s]

/-- The command of a page. -/
def State.runPage (s : State) (p : Page) : St State :=
  match (s.page p).op with
  | 0x01 => execEstateCreate p s
  | 0x02 => execEstateDestroy p s
  | 0x03 => execPlotCreate p s
  | 0x04 => execPlotDestroy p s
  | 0x05 => if bitAt ((s.page p).marg[1]).toNat 7 then execPolicyRead p s else execPolicyWrite p s
  | 0x06 => execGrant p s
  | 0x07 => execUngrant p s
  | 0x08 => execRoot p s
  | 0x09 => execInval p s
  | 0x0A => execHandle p s
  | 0x0B => execUnhandle p s
  | 0x0C => execRights p s
  | 0x0D => execPreempt p s
  | 0x0E => execPair p s
  | 0x0F => execQcreate p s
  | 0x10 => execAttest p s
  | 0x11 => execTimeset p s
  | 0x12 => execKreg p s
  | 0x13 => execKunreg p s
  | 0x14 => execGreg p s
  | 0x15 => execGunreg p s
  | _ => execMcmdUnknownOp p s

/-- FRELCMD writes that have not acted. -/
def State.frelsLeft (s : State) : Nat := (s.estates.map fun e => e.2.frelcmds.length).foldl (· + ·) 0

def State.firmwareChances (s : State) : List Chance :=
  [fun _ => s.cmds.head?.map fun p => next s (s.runPage p),
    chanceIf (s.estates.filter fun e => !e.2.frelcmds.isEmpty) (fun e => execFrelResume e.1 s) (fun t => decide (t.frelsLeft < s.frelsLeft)) s,
    chanceIf (s.estates.filter fun e => !e.2.frelcmds.isEmpty) (fun e => execFrelRefuse e.1 s) (fun t => decide (t.frelsLeft < s.frelsLeft)) s]

/-! ### Time (R258, R423, R449, R452, R471) -/

/-- A die's clock within a base tick: the new phase, and whether a cycle of its cores begins. -/
def Die.clockTick (d : Die) : Die × Bool :=
  if 4000 ≤ d.phase + d.mhz then ({ d with phase := d.phase + d.mhz - 4000 }, true) else ({ d with phase := d.phase + d.mhz }, false)

/-- A nanosecond of a refresh timer: at the end of a bank's microsecond the next bank's window opens (R258). -/
def State.refreshNano (s : State) (d : DieId) : State :=
  let die := s.die d.val
  if die.refreshNs % 1000 = 999 then
    next s (execRefreshWindowAdvance d (s.setDie d.val { die with refreshNs := 64000 + die.refreshNs / 1000 * 1000 }))
  else s.setDie d.val { die with refreshNs := die.refreshNs + 1 }

/-- A base tick of 250 ps passes. What it ends comes first: purses decay after the arrivals of their nanosecond (R423). Then clocks, refresh
timers, the gleaner's block time, the queues' mapping ticks. -/
def State.passTick (s : State) : State :=
  let s0 := next s (execPurseDecay s)
  let t := s0.tick + 1
  let ns := t % 4 == 0
  let ticks := s0.dies.map Die.clockTick
  let s1 := { s0 with
    tick := t
    devns := if ns then s0.devns + 1 else s0.devns
    dies := ticks.map Prod.fst
    due := (s0.cores.map Prod.fst).filter fun c => ((ticks[dieOf c]?).map Prod.snd).getD false }
  let s2 := if ns then (List.finRange 4).foldl State.refreshNano s1 else s1
  let s3 := if t % 512 = 0 then next s2 (execGleanBlockWrite s2) else s2
  if t % 4000 = 0 then (List.range 8).foldl (fun s bd => next s (execQueueMappingTick bd s)) s3 else s3

/-! ### The machine's own course -/

/-- A core whose cycle is due and waits for no lower member's; else an event of the background; else time. -/
def State.auto (s : State) : St State :=
  match (s.due.find? fun c => !s.issueWaits c).or s.due.head? with
  | some c => s.coreTurn c
  | none =>
    .next ((firstChance (s.memoryChances ++ s.engineChances ++ s.strandChances ++ s.gangChances ++ s.fabricChances ++ s.firmwareChances)).getD s.passTick)

end Sys2Proof.Machine
end

