-- ==== Sys2Proof/Machine/Step.lean ====
section
/-!
DEFINITION. One step of the machine: the rest of a core's cycle first, then what the schedule asks, then the machine's own course.
-/
namespace Sys2Proof.Machine

/-- The next part of a core's cycle (R21, R224, R342, R424). -/
def stepMicro (m : Micro) (rest : List Micro) (s : State) : St State :=
  match m with
  | .commit c _ => execCheckpointCommit (Fin.ofNat 640 c) s
  | .land c => execFixedLatencyLanding (Fin.ofNat 640 c) s
  | .yield c _ => execYield (Fin.ofNat 640 c) s
  | .share c p g => execShareExhausted (Fin.ofNat 640 c) p g { s with micro := rest }

/-- One step. -/
def step (s : State) : Host.Outcome State Fault Refusal :=
  match s.micro with
  | m :: rest => stepMicro m rest s
  | [] =>
    match s.sched with
    | i :: rest => exec i { s with sched := rest }
    | [] => s.auto

/-- A literal bundle with CKPT set that holds a word in one slot (R50, R57, R58). -/
def slotBundle (k w : Nat) : List W16 :=
  let raw := 2 ^ 383 + w * 2 ^ ((bundleFmt.drop (k + 2)).foldl (· + ·) 0)
  0xFFFF :: (List.range 24).map fun i => BitVec.ofNat 16 (raw / 2 ^ (16 * (23 - i)))

/-- The slot of a word of the opcode table. -/
def slotFor (nbits w : Nat) : Nat :=
  match nbits with
  | 32 => if (decodeBranch w).isOk then 0 else 6
  | 40 => if (decodeAddress w).isOk then 3 else 7
  | 48 => 1
  | _ => 4

/-- The machine with one strand, of the owner plot, at a bundle that holds an instruction: the kernel that a KREG would have registered,
the record that core 0 would have started, and core 0's cycle due. -/
def State.withFetchWord (s : State) (nbits w : Nat) : State :=
  let k : Kernel := { code := slotBundle (slotFor nbits w) w, dict := [], live := [⟨0, false, false, false, []⟩], maximg := 11840 }
  let pc := PcEntry.at 0
  let a := { Arch.start with pc := pc, npc := k.next pc, nnpc := k.next (k.next pc) }
  let g : Group :=
    { plot := 0, gang := 1, index := 0, members := [0], live := [true], arrived := [false], gen := 0, deadline := s.tick + 4000000, slice := 4000000
      checked := false, stop := none }
  let c : Context := { Context.empty with
    st := .running, w := a, sh := a, taskid := BitVec.ofNat 64 (2 ^ 48), fresh := true, group := s.nextGroup, since := s.tick }
  { s with
    plots := s.plots.set 0 { s.plot 0 with kernels := [(0, k)] }
    cores := s.cores.set 0 { Core.zero with running := some 0, share := { Share.zero with pos := 1 } }
    ctxs := s.ctxs.set 0 c, groups := s.groups.set s.nextGroup g, nextGroup := s.nextGroup + 1, micro := [], sched := [], due := [0] }

end Sys2Proof.Machine
end

