-- ==== Sys2Proof/Safety.lean ====
section
/-!
DEFINITION. What claims call a good state and a safe run: memory in its canonical form on the module and in every die's view, and a run
that no step stops.
-/
namespace Sys2Proof

/-- Memory of the module and the dies' views of it are in canonical form: equal memories are equal lists. -/
def Canonical (s : Machine.State) : Prop :=
  Machine.Memory.wf s.mem ∧ ∀ d ∈ s.dies.toList, Machine.Memory.wf d.view

/-- The step from a state answers a next state. -/
def Runs (s : Machine.State) : Prop := ∃ t, Machine.step s = .next t

/-- A run of k steps that no fault or refusal ends. -/
def SafeFor (k : Nat) (s : Machine.State) : Prop := ∃ t, core.run k s = .next t

/-- A property that every step carries from a state to the next. -/
def Invariant (p : Machine.State → Prop) : Prop := ∀ s t, p s → Machine.step s = .next t → p t

/-- The byte at a device address as the module holds it. -/
def byteAt (s : Machine.State) (a : Nat) : Byte := Machine.Memory.get s.mem a

/-- No register that the spec gives a strand differs between two states of a context: general, address and modifier registers, tiles, the
array, levels and strides, the queue, modes, the tile table, the work count, the shadow, latches, exception records, identity and counts.
What a bundle in progress adds (results in flight, withheld stores, pending loads, stream and channel ends) may differ. -/
structure SameRegs (c c' : Machine.Context) : Prop where
  w : { c'.w with spos := c.w.spos } = c.w
  sh : c'.sh = c.sh
  latch : c'.latch = c.latch
  vlatch : c'.vlatch = c.vlatch
  flags : c'.flags = c.flags
  fixcnt : c'.fixcnt = c.fixcnt
  cstat : c'.cstat = c.cstat
  st : c'.st = c.st
  ident : (c'.taskid, c'.kslot, c'.plot, c'.gen, c'.group) = (c.taskid, c.kslot, c.plot, c.gen, c.group)
  counts : (c'.cycle, c'.frzcyc, c'.live, c'.wseq) = (c.cycle, c.frzcyc, c.live, c.wseq)
  cq : c'.cq = c.cq
  raised : c'.raised = c.raised

end Sys2Proof
end

