-- ==== Sys2Proof/Certificates/Slice0/Obligations.lean ====
section
/-!
DEFINITION. The statements for the provers, from the spec's numbered rules.
-/
namespace Sys2Proof.Stated
open Sys2Proof.Machine

/-- The guard of a slot can be read and holds (R30). -/
def GuardOn (s : State) (g : Guard) : Prop := ∃ v, readG s s.cur g.reg = .ok v ∧ v.getLsbD g.bit.val = g.sense

/-- The guard of a slot can be read and fails (R30). -/
def GuardOff (s : State) (g : Guard) : Prop := ∃ v, readG s s.cur g.reg = .ok v ∧ v.getLsbD g.bit.val ≠ g.sense

/-- The signed 64-bit range. -/
def clamp63 (x : Int) : W64 := BitVec.ofInt 64 (max (-(2 ^ 63)) (min (2 ^ 63 - 1) x))

/-- The integer instructions with two sources and one result (R93, R94): guard, destination, sources, latency (R22), result. -/
def scalarTwo : Instr → Option (Guard × Dst × Src × Src × Nat × (W64 → W64 → W64))
  | .add g d a b => some (g, d, a, b, 1, fun x y => x + y)
  | .sub g d a b => some (g, d, a, b, 1, fun x y => x - y)
  | .adds g d a b => some (g, d, a, b, 1, fun x y => clamp63 (x.toInt + y.toInt))
  | .subs g d a b => some (g, d, a, b, 1, fun x y => clamp63 (x.toInt - y.toInt))
  | .addus g d a b => some (g, d, a, b, 1, fun x y => if 2 ^ 64 ≤ x.toNat + y.toNat then BitVec.allOnes 64 else x + y)
  | .subus g d a b => some (g, d, a, b, 1, fun x y => if x.toNat < y.toNat then 0 else x - y)
  | .mul g d a b => some (g, d, a, b, 3, fun x y => x * y)
  | .mulh g d a b => some (g, d, a, b, 3, fun x y => BitVec.ofInt 64 (Int.fdiv (x.toInt * y.toInt) (2 ^ 64)))
  | .mulhu g d a b => some (g, d, a, b, 3, fun x y => BitVec.ofNat 64 (x.toNat * y.toNat / 2 ^ 64))
  | .div g d a b => some (g, d, a, b, 24, fun x y => if y = 0 then BitVec.allOnes 64 else BitVec.ofInt 64 (Int.tdiv x.toInt y.toInt))
  | .divu g d a b => some (g, d, a, b, 24, fun x y => if y = 0 then BitVec.allOnes 64 else x / y)
  | .rem g d a b => some (g, d, a, b, 24, fun x y => if y = 0 then x else BitVec.ofInt 64 (x.toInt - y.toInt * Int.tdiv x.toInt y.toInt))
  | .remu g d a b => some (g, d, a, b, 24, fun x y => if y = 0 then x else x % y)
  | .and g d a b => some (g, d, a, b, 1, fun x y => x &&& y)
  | .or g d a b => some (g, d, a, b, 1, fun x y => x ||| y)
  | .xor g d a b => some (g, d, a, b, 1, fun x y => x ^^^ y)
  | .andn g d a b => some (g, d, a, b, 1, fun x y => x &&& ~~~y)
  | .orn g d a b => some (g, d, a, b, 1, fun x y => x ||| ~~~y)
  | .shl g d a b => some (g, d, a, b, 1, fun x y => x <<< (y.toNat % 64))
  | .shr g d a b => some (g, d, a, b, 1, fun x y => x >>> (y.toNat % 64))
  | .sra g d a b => some (g, d, a, b, 1, fun x y => x.sshiftRight (y.toNat % 64))
  | .rol g d a b => some (g, d, a, b, 1, fun x y => x.rotateLeft (y.toNat % 64))
  | .bext g d a b f => some (g, d, a, b, 1, fun x y =>
      (x >>> f.val) &&& BitVec.ofNat 64 (2 ^ min (y.toNat % 64 + 1) (64 - f.val) - 1))
  | .min g d a b => some (g, d, a, b, 1, fun x y => if x.toInt ≤ y.toInt then x else y)
  | .max g d a b => some (g, d, a, b, 1, fun x y => if x.toInt ≤ y.toInt then y else x)
  | .minu g d a b => some (g, d, a, b, 1, fun x y => if x ≤ y then x else y)
  | .maxu g d a b => some (g, d, a, b, 1, fun x y => if x ≤ y then y else x)
  | _ => none

/-- Zeros above the highest one of a word, counted from bit k − 1 down. -/
def zerosAbove (x : W64) : Nat → Nat
  | 0 => 0
  | k + 1 => if x.getLsbD k then 0 else 1 + zerosAbove x k

/-- Zeros below the lowest one of a word, counted from bit i up over k bits. -/
def zerosBelow (x : W64) (i : Nat) : Nat → Nat
  | 0 => 0
  | k + 1 => if x.getLsbD i then 0 else 1 + zerosBelow x (i + 1) k

/-- The integer instructions with one source and one result (R93), and FCLASS (R105): latency and result. -/
def scalarOne : Instr → Option (Guard × Dst × Src × Nat × (W64 → W64))
  | .clz g d a => some (g, d, a, 1, fun x => BitVec.ofNat 64 (zerosAbove x 64))
  | .ctz g d a => some (g, d, a, 1, fun x => BitVec.ofNat 64 (zerosBelow x 0 64))
  | .popc g d a => some (g, d, a, 1, fun x => BitVec.ofNat 64 ((List.range 64).filter fun i => x.getLsbD i).length)
  | .sext g d a f => some (g, d, a, 1, fun x => (x.setWidth (f.val + 1)).signExtend 64)
  | .zext g d a f => some (g, d, a, 1, fun x => (x.setWidth (f.val + 1)).setWidth 64)
  | .fclass g d a => some (g, d, a, 4, fun x => BitVec.ofNat 64 (fClass fp32 (x.toNat % 2 ^ 32)))
  | _ => none

/-- The compares of two sources into one bit of a general register (R93). -/
def scalarCompare : Instr → Option (Guard × GReg × BitNo × Src × Src × (W64 → W64 → Bool))
  | .cmpeq g d n a b => some (g, d, n, a, b, fun x y => decide (x = y))
  | .cmpne g d n a b => some (g, d, n, a, b, fun x y => decide (x ≠ y))
  | .cmplt g d n a b => some (g, d, n, a, b, fun x y => decide (x.toInt < y.toInt))
  | .cmple g d n a b => some (g, d, n, a, b, fun x y => decide (x.toInt ≤ y.toInt))
  | .cmpltu g d n a b => some (g, d, n, a, b, fun x y => decide (x < y))
  | .cmpleu g d n a b => some (g, d, n, a, b, fun x y => decide (x ≤ y))
  | _ => none

/-- A result that writes one bit of a general register: the bit, and the value 0 or 1 to the slot's latch (R62). -/
def bitResult (s : State) (c : Context) (d : GReg) (n : BitNo) (lat : Nat) (b : Bool) (fl : Flags) : Context :=
  c.flyAdd s lat ([.gbit d n b, .latch (latchOf s.iss.slot d.val) (if b then 1 else 0)] ++ if fl = 0 then [] else [.flags fl])

/-- A result that writes a general register and the slot's latch (R62). -/
def regResult (s : State) (c : Context) (d : GReg) (lat : Nat) (v : W64) : Context :=
  c.flyAdd s lat [.g d v, .latch (latchOf s.iss.slot d.val) v]

/-- The floating-point instructions with two sources and one result (R100 to R102): the operation on the low 32 bits. -/
def scalarFloat : Instr → Option (Guard × Dst × Src × Src × Rnd × (Rc → Nat → Nat → Nat × Flags))
  | .fadd g d a b r => some (g, d, a, b, r, fAdd fp32)
  | .fsub g d a b r => some (g, d, a, b, r, fSub fp32)
  | .fmul g d a b r => some (g, d, a, b, r, fMul fp32)
  | .fmin g d a b r => some (g, d, a, b, r, fun _ => fMinMax fp32 false false)
  | .fmax g d a b r => some (g, d, a, b, r, fun _ => fMinMax fp32 true false)
  | .fminnum g d a b r => some (g, d, a, b, r, fun _ => fMinMax fp32 false true)
  | .fmaxnum g d a b r => some (g, d, a, b, r, fun _ => fMinMax fp32 true true)
  | _ => none

/-- The conversions with one source (R104). -/
def scalarConvert : Instr → Option (Guard × Dst × Src × Rnd × (Rc → Nat → Nat × Flags))
  | .fcvtif g d a r => some (g, d, a, r, fun rc x => intToF fp32 rc (BitVec.ofNat 64 x).toInt)
  | .fcvtfi g d a r => some (g, d, a, r, fun rc x => fToInt fp32 rc 64 false (x % 2 ^ 32))
  | .fcvtf g d a k r => some (g, d, a, r, fun rc x =>
      match k.val with
      | 0 => fCvt fp32 bf16 rc (x % 2 ^ 32)
      | 1 => fCvt fp32 fp16 rc (x % 2 ^ 32)
      | 2 => fCvt bf16 fp32 rc (x % 2 ^ 16)
      | _ => fCvt fp16 fp32 rc (x % 2 ^ 16))
  | _ => none

/-- The floating-point compares (R103). -/
def scalarFloatCompare : Instr → Option (Guard × GReg × BitNo × Src × Src × FCmp)
  | .fcmpeq g d n a b => some (g, d, n, a, b, .eq)
  | .fcmplt g d n a b => some (g, d, n, a, b, .lt)
  | .fcmple g d n a b => some (g, d, n, a, b, .le)
  | .fcmpun g d n a b => some (g, d, n, a, b, .un)
  | _ => none

end Sys2Proof.Stated

open Sys2Proof Sys2Proof.Machine Sys2Proof.Stated

/-- R93, R94: with the guard on, the sources readable and the destination writable, each integer instruction of two sources completes, and
its result reaches the destination after its latency. R93, R105: the same for the instructions of one source; MOVI writes its immediate,
sign-extended (R98). -/
def Obligations.ScalarIntegerResults : Prop :=
  (∀ i g d a b lat f, scalarTwo i = some (g, d, a, b, lat, f) → ∀ (s : State) (c1 c2 c3 : Context) (x y : W64),
     GuardOn s g → readSrc s s.cur a = .ok (c1, x) → readSrc s c1 b = .ok (c2, y) → writeDst s c2 d lat (f x y) = .ok c3 →
     exec i s = .next (s.setCtx s.iss.ctx c3)) ∧
  ((∀ i g d a lat f, scalarOne i = some (g, d, a, lat, f) → ∀ (s : State) (c1 c2 : Context) (x : W64),
     GuardOn s g → readSrc s s.cur a = .ok (c1, x) → writeDst s c1 d lat (f x) = .ok c2 →
     exec i s = .next (s.setCtx s.iss.ctx c2)) ∧
   ∀ (s : State) g d (imm : Imm21) (c : Context), GuardOn s g → writeDst s s.cur d 1 (imm.signExtend 64) = .ok c →
     exec (.movi g d imm) s = .next (s.setCtx s.iss.ctx c))

/-- R62, R93: each compare writes one bit of gD after one issue, and 0 or 1 to the latch; MOVB copies or inverts a bit. R96, R97: ADC and
SBC write the sum or difference with the carry-in, then the carry-out; MADC writes the low word of x·y + old + carry, the high word of x·y
to the next register and the carry out of the low word, all after three issues. With Z = 1 the carry-in is 0. -/
def Obligations.ScalarBitAndCarryResults : Prop :=
  ((∀ i g d n a b f, scalarCompare i = some (g, d, n, a, b, f) → ∀ (s : State) (c1 c2 : Context) (x y : W64),
     GuardOn s g → readSrc s s.cur a = .ok (c1, x) → readSrc s c1 b = .ok (c2, y) →
     exec i s = .next (s.setCtx s.iss.ctx (bitResult s c2 d n 1 (f x y) 0))) ∧
   ∀ (s : State) g d n inv a (bit : BitNo) (c1 : Context) (x : W64), GuardOn s g → readSrc s s.cur a = .ok (c1, x) →
     exec (.movb g d n inv a bit) s = .next (s.setCtx s.iss.ctx (bitResult s c1 d n 1 (xor (x.getLsbD bit.val) inv) 0))) ∧
  (∀ (s : State) (g : Guard) (d a b : GReg) (cy : CarryReg) (p : BitNo) (z : Bool) (x y old cv : W64), GuardOn s g →
     readG s s.cur a = .ok x → readG s s.cur b = .ok y → readG s s.cur d = .ok old →
     (z = false → readG s s.cur (Fin.ofNat 64 (48 + cy.val)) = .ok cv) →
     let k : Nat := if z then 0 else (cv.getLsbD p.val).toNat
     let sum := x.toNat + y.toNat + k
     let low := x.toNat * y.toNat % 2 ^ 64 + old.toNat + k
     let cr : GReg := Fin.ofNat 64 (48 + cy.val)
     let la := latchOf s.iss.slot d.val
     exec (.adc g d a b cy p z) s = .next (s.setCtx s.iss.ctx (s.cur.flyAdd s 1
       [.g d (BitVec.ofNat 64 sum), .latch la (BitVec.ofNat 64 sum), .gbit cr p (decide (2 ^ 64 ≤ sum))])) ∧
     exec (.sbc g d a b cy p z) s = .next (s.setCtx s.iss.ctx (s.cur.flyAdd s 1
       [.g d (x - y - BitVec.ofNat 64 k), .latch la (x - y - BitVec.ofNat 64 k), .gbit cr p (decide (x.toNat < y.toNat + k))])) ∧
     exec (.madc g d a b cy p z) s = .next (s.setCtx s.iss.ctx (s.cur.flyAdd s 3
       [.g d (BitVec.ofNat 64 low), .latch la (BitVec.ofNat 64 low), .g (d + 1) (BitVec.ofNat 64 (x.toNat * y.toNat / 2 ^ 64)),
         .gbit cr p (decide (2 ^ 64 ≤ low))])))

/-- R93, R95, R98: BINS replaces a field of gD and keeps its other bits; MOVK replaces 16 bits of gD. -/
def Obligations.PartialRegisterResults : Prop :=
  (∀ (s : State) (g : Guard) (d : GReg) (a b : Src) (f : BitNo) (c1 c2 : Context) (x y old : W64), GuardOn s g →
    readSrc s s.cur a = .ok (c1, x) → readSrc s c1 b = .ok (c2, y) → readG s c2 d = .ok old →
    ∃ v : W64, exec (.bins g d a b f) s = .next (s.setCtx s.iss.ctx (regResult s c2 d 1 v)) ∧
      ∀ i : Fin 64, v.getLsbD i.val = if f.val ≤ i.val ∧ i.val < f.val + (y.toNat % 64 + 1) then x.getLsbD (i.val - f.val) else old.getLsbD i.val) ∧
  ∀ (s : State) (g : Guard) (d : GReg) (hw : Code4) (imm : Imm16) (old : W64), hw.val < 4 → GuardOn s g → readG s s.cur d = .ok old →
    ∃ v : W64, exec (.movk g d hw imm) s = .next (s.setCtx s.iss.ctx (regResult s s.cur d 1 v)) ∧
      ∀ i : Fin 64, v.getLsbD i.val = if 16 * hw.val ≤ i.val ∧ i.val < 16 * hw.val + 16 then imm.getLsbD (i.val - 16 * hw.val) else old.getLsbD i.val

/-- R100 to R105: each floating-point instruction completes after four issues with the rounded value and the flags of its operation, by
the rounding code's mode (R136); FMA adds the product of its sources to gD. The model's own choices it rests on: log entry 3. -/
def Obligations.ScalarFloatResults : Prop :=
  (∀ i g d a b r f, scalarFloat i = some (g, d, a, b, r, f) → ∀ (s : State) (c1 c2 c3 : Context) (x y : W64),
    GuardOn s g → readSrc s s.cur a = .ok (c1, x) → readSrc s c1 b = .ok (c2, y) →
    let v := f (rcOf s c2 r 0) (x.toNat % 2 ^ 32) (y.toNat % 2 ^ 32)
    writeDst s c2 d 4 (BitVec.ofNat 64 v.1) v.2 = .ok c3 → exec i s = .next (s.setCtx s.iss.ctx c3)) ∧
  (∀ i g d a r f, scalarConvert i = some (g, d, a, r, f) → ∀ (s : State) (c1 c2 : Context) (x : W64),
    GuardOn s g → readSrc s s.cur a = .ok (c1, x) →
    let v := f (rcOf s c1 r 0) x.toNat
    writeDst s c1 d 4 (BitVec.ofNat 64 v.1) v.2 = .ok c2 → exec i s = .next (s.setCtx s.iss.ctx c2)) ∧
  (∀ i g d n a b k, scalarFloatCompare i = some (g, d, n, a, b, k) → ∀ (s : State) (c1 c2 : Context) (x y : W64),
    GuardOn s g → readSrc s s.cur a = .ok (c1, x) → readSrc s c1 b = .ok (c2, y) →
    let v := fCmp fp32 k (x.toNat % 2 ^ 32) (y.toNat % 2 ^ 32)
    exec i s = .next (s.setCtx s.iss.ctx (bitResult s c2 d n 4 v.1 v.2))) ∧
  ∀ (s : State) (g : Guard) (d : GReg) (a b : Src) (r : Rnd) (c1 c2 c3 : Context) (x y old : W64),
    GuardOn s g → readSrc s s.cur a = .ok (c1, x) → readSrc s c1 b = .ok (c2, y) → readG s c2 d = .ok old →
    let v := fFma fp32 (rcOf s c2 r 0) false false (x.toNat % 2 ^ 32) (y.toNat % 2 ^ 32) (old.toNat % 2 ^ 32)
    writeDst s c2 (.g d) 4 (BitVec.ofNat 64 v.1) v.2 = .ok c3 → exec (.fma g d a b r) s = .next (s.setCtx s.iss.ctx c3)

/-- R16, R17, R99: MFS of a listed number delivers the register as it stood before the bundle; MTS of a listed number schedules the write,
which takes effect after one issue. -/
def Obligations.ControlRegisterMoves : Prop :=
  (∀ (s : State) (c : Context) (n : CsrNo), csrListed n = (csrRead s c n.toNat).isSome) ∧
  (∀ (s : State) (g : Guard) (r : GReg) (n : CsrNo) (v : W64), GuardOn s g → csrRead s s.cur n.toNat = some v →
    ∃ c, exec (.mfs g (.g r) n) s = .next (s.setCtx s.iss.ctx c) ∧ SameRegs s.cur c ∧
      c.fly = s.cur.fly ++ [⟨1, s.iss.slot, s.iss.caddr, false, false, [.g r v, .latch (latchOf s.iss.slot r.val) v]⟩]) ∧
  ∀ (s : State) (g : Guard) (a : Src) (n : CsrNo) (c1 : Context) (x : W64), csrListed n = true → GuardOn s g →
    readSrc s s.cur a = .ok (c1, x) →
    exec (.mts g a n) s = .next (s.setCtx s.iss.ctx (c1.flyAdd s 1 [.csr n x]))

namespace Sys2Proof.Stated

/-- The scratchpad loads of 8 bytes and fewer (R109): bytes, and the value in D. -/
def padLoad : Instr → Option (Guard × Dst × AReg × AMode × Nat × (Nat → W64))
  | .lds g d a m => some (g, d, a, m, 8, BitVec.ofNat 64)
  | .ldw g d a m => some (g, d, a, m, 4, fun v => (BitVec.ofNat 32 v).signExtend 64)
  | .ldwu g d a m => some (g, d, a, m, 4, BitVec.ofNat 64)
  | .ldh g d a m => some (g, d, a, m, 2, fun v => (BitVec.ofNat 16 v).signExtend 64)
  | .ldhu g d a m => some (g, d, a, m, 2, BitVec.ofNat 64)
  | .ldb g d a m => some (g, d, a, m, 1, fun v => (BitVec.ofNat 8 v).signExtend 64)
  | .ldbu g d a m => some (g, d, a, m, 1, BitVec.ofNat 64)
  | _ => none

/-- The scratchpad stores of 8 bytes and fewer (R109): bytes. -/
def padStore : Instr → Option (Guard × Src × AReg × AMode × Nat)
  | .sts g x a m => some (g, x, a, m, 8)
  | .stw g x a m => some (g, x, a, m, 4)
  | .sth g x a m => some (g, x, a, m, 2)
  | .stb g x a m => some (g, x, a, m, 1)
  | _ => none

/-- The bytes of a word, the lowest first (R3). -/
def lowBytes (v : W64) (n : Nat) : List Byte := (List.range n).map fun i => (v >>> (8 * i)).setWidth 8

/-- The space, alignment and size of every address-slot access (R109). -/
def padAccess : Instr → Option (Guard × AReg × AMode × Bool × Nat × Nat)
  | .lds g _ a m => some (g, a, m, false, 8, 8)
  | .ldw g _ a m => some (g, a, m, false, 4, 4)
  | .ldwu g _ a m => some (g, a, m, false, 4, 4)
  | .ldh g _ a m => some (g, a, m, false, 2, 2)
  | .ldhu g _ a m => some (g, a, m, false, 2, 2)
  | .ldb g _ a m => some (g, a, m, false, 1, 1)
  | .ldbu g _ a m => some (g, a, m, false, 1, 1)
  | .ldv g _ a m => some (g, a, m, false, 512, 16)
  | .clrv g a m => some (g, a, m, false, 512, 16)
  | .wlds g _ a m => some (g, a, m, true, 8, 8)
  | .wldv g _ a m => some (g, a, m, true, 512, 512)
  | _ => none

/-- The scratchpad holds an access: aligned, in range, and on resources that the plot holds (R110, R243). -/
def PadOk (s : State) (x : W32) (size align : Nat) : Prop := x.toNat % align = 0 ∧ s.spadOk s.cur.plot s.iss.core x.toNat size = true

/-- The die's weight store holds an access (R110, R257). -/
def StoreOk (s : State) (x : W32) (size align : Nat) : Prop := x.toNat % align = 0 ∧ s.wsOk s.cur.plot s.issDie x.toNat size = true

/-- Reverse the order of the low k bits (R108). -/
def mirrored (k n : Nat) : Nat := ((List.range k).map fun i => if n.testBit i then 2 ^ (k - 1 - i) else 0).sum

end Sys2Proof.Stated

/-- R91: the access address and the register's update of each operand form. R107, R108: the update of an address in each of the four
modes, and what MSET stores under each of them. -/
def Obligations.AddressFormsAndUpdates : Prop :=
  (∀ (s : State) (c : Context) (a : AReg) (x : W32), readA s c a = .ok x →
     (∀ n : BitVec 8, addrOf s c a (.off n) = .ok (x + n.signExtend 32, none) ∧
       addrOf s c a (.post n) = .ok (x, some (x + n.signExtend 32))) ∧
     ∀ (m : MReg) (v : W64), readM s c m = .ok v →
       addrOf s c a (.postM m) = .ok (x, some (updAddr x v)) ∧ addrOf s c a (.preM m) = .ok (updAddr x v, some (updAddr x v))) ∧
  (∀ (a : W32) (inc : BitVec 32) (k : BitVec 6) (cinc : BitVec 16) (cb : BitVec 28) (cl : BitVec 18),
     let w : Nat := 2 ^ min k.toNat 32
     let kk : Nat := min k.toNat 32
     let len : Int := 16 * (cl.toNat : Int)
     let base : Int := 16 * (cb.toNat : Int)
     (updAddr a (0#32 ++ inc) = a + inc) ∧
     ((updAddr a (1#2 ++ 0#24 ++ k ++ inc)).toNat = a.toNat - a.toNat % w + (((a.toNat : Int) + inc.toInt) % (w : Int)).toNat) ∧
     ((updAddr a (2#2 ++ 0#24 ++ k ++ inc)).toNat =
       a.toNat - a.toNat % w + mirrored kk ((mirrored kk (a.toNat % w) + mirrored kk ((inc.toInt % (w : Int)).toNat)) % w)) ∧
     (cl = 0 → updAddr a (3#2 ++ cinc ++ cb ++ cl) = a + cinc.signExtend 32) ∧
     (cl ≠ 0 → updAddr a (3#2 ++ cinc ++ cb ++ cl) = BitVec.ofInt 32 (base + ((a.toNat : Int) - base + cinc.toInt) % len)) ∧
     ∀ (hi : BitVec 30) (r : BitVec 24), modStore (0#2 ++ hi ++ inc) = 0#32 ++ inc ∧
       modStore (1#2 ++ r ++ k ++ inc) = 1#2 ++ 0#24 ++ k ++ inc ∧ modStore (2#2 ++ r ++ k ++ inc) = 2#2 ++ 0#24 ++ k ++ inc ∧
       modStore (3#2 ++ cinc ++ cb ++ cl) = 3#2 ++ cinc ++ cb ++ cl)

/-- R109, R110: a guarded-on access that is misaligned takes the misaligned-access fault; an aligned one that leaves its space takes the
scratchpad range fault or the weight-store range fault; each with the address as its argument, and no load or update happens. The model's
own choices it rests on: log entry 39. -/
def Obligations.AddressFaults : Prop :=
  ∀ i g a m ws size align, padAccess i = some (g, a, m, ws, size, align) → ∀ (s : State) (x : W32) (u : Option W32), GuardOn s g →
    addrOf s s.cur a m = .ok (x, u) →
    (x.toNat % align ≠ 0 → exec i s = .next (s.takeTrap s.iss.ctx ⟨0x07, 0, x.toNat, none⟩ s.iss.slot s.iss.caddr)) ∧
    (x.toNat % align = 0 → ws = false → s.spadOk s.cur.plot s.iss.core x.toNat size = false →
      exec i s = .next (s.takeTrap s.iss.ctx ⟨0x08, 0, x.toNat, none⟩ s.iss.slot s.iss.caddr)) ∧
    (x.toNat % align = 0 → ws = true → s.wsOk s.cur.plot s.issDie x.toNat size = false →
      exec i s = .next (s.takeTrap s.iss.ctx ⟨0x09, 0, x.toNat, none⟩ s.iss.slot s.iss.caddr))

/-- R109, R111: a scratchpad load delivers after five issues the bytes as the context's own earlier stores leave them, extended as the
mnemonic says, and its address register's update follows after one issue; LDV delivers 512 bytes to its row and writes no latch. -/
def Obligations.ScratchpadLoads : Prop :=
  (∀ i g d a m size f, padLoad i = some (g, d, a, m, size, f) → ∀ (s : State) (x : W32) (u : Option W32) (c1 : Context), GuardOn s g →
    addrOf s s.cur a m = .ok (x, u) → PadOk s x size size →
    let bs := s.spadBytes s.cur x.toNat size
    writeDst s (s.cur.postUpd s a u) d 5 (f (ofBytes bs)) = .ok c1 →
    exec i s = .next (s.setCtx s.iss.ctx ((c1.flyMore s 5 (memErrWr s s.cur 1 (spadBase s.iss.core) x.toNat size)).takeIn [BitVec.ofNat 64 (ofBytes bs)]))) ∧
  ∀ (s : State) (g : Guard) (v : VReg) (a : AReg) (m : AMode) (x : W32) (u : Option W32), GuardOn s g →
    addrOf s s.cur a m = .ok (x, u) → PadOk s x 512 16 →
    let row := rowOfBytes (s.spadBytes s.cur x.toNat 512)
    exec (.ldv g v a m) s = .next (s.setCtx s.iss.ctx (((s.cur.postUpd s a u).flyAdd s 5
      ([.v v (BitVec.allOnes 4096) row] ++ memErrWr s s.cur 1 (spadBase s.iss.core) x.toNat 512)).takeIn (wordsOfRow row)))

/-- R109, R340: a scratchpad store withholds the low bytes of its source, the lowest at the access address, and touches no memory before
its commit; STV withholds its row, CLRV zeros. R111, R3: bytes of the scratchpad that no withheld store of the context covers read as
memory holds them, and a withheld store of the context is seen by its own later loads. -/
def Obligations.StoresAreWithheldAndSeen : Prop :=
  ((∀ i g x0 a m size, padStore i = some (g, x0, a, m, size) → ∀ (s : State) (x : W32) (u : Option W32) (c1 : Context) (v : W64), GuardOn s g →
     addrOf s s.cur a m = .ok (x, u) → readSrc s s.cur x0 = .ok (c1, v) → PadOk s x size size →
     exec i s = .next (s.setCtx s.iss.ctx ((c1.withhold (mkStore s x.toNat (lowBytes v size))).postUpd s a u))) ∧
   (∀ (s : State) (g : Guard) (v : VReg) (a : AReg) (m : AMode) (x : W32) (u : Option W32) (row : Row), GuardOn s g →
     addrOf s s.cur a m = .ok (x, u) → readV s s.cur v = .ok row → PadOk s x 512 16 →
     exec (.stv g v a m) s = .next (s.setCtx s.iss.ctx ((s.cur.withhold (mkStore s x.toNat (bytesOfRow row))).postUpd s a u))) ∧
   ∀ (s : State) (g : Guard) (a : AReg) (m : AMode) (x : W32) (u : Option W32), GuardOn s g →
     addrOf s s.cur a m = .ok (x, u) → PadOk s x 512 16 →
     exec (.clrv g a m) s = .next (s.setCtx s.iss.ctx ((s.cur.withhold (mkStore s x.toNat (List.replicate 512 0))).postUpd s a u))) ∧
  ((∀ (s : State) (c : Context) (a n : Nat), (∀ st ∈ c.buf, st.space = .hbm) →
     s.spadBytes c a n = (List.range n).map fun i => byteAt s (spadBase s.iss.core + a + i)) ∧
   ∀ (s : State) (c : Context) (a : Nat) (bs : List Byte), Memory.wf s.mem →
     s.spadBytes (c.withhold { mkStore s a bs with ents := [] }) a bs.length = bs)

/-- R109, R113: a load from the die's weight store delivers its bytes after five issues; while the bank of its address refreshes, the
bundle freezes under reason 6. -/
def Obligations.WeightStoreLoads : Prop :=
  (∀ (s : State) (g : Guard) (d : Dst) (a : AReg) (m : AMode) (x : W32) (u : Option W32) (c1 : Context), GuardOn s g →
    addrOf s s.cur a m = .ok (x, u) → StoreOk s x 8 8 → s.refreshing s.issDie x.toNat = false →
    let w : W64 := BitVec.ofNat 64 (ofBytes ((List.range 8).map fun i => byteAt s (wsBase s.issDie + x.toNat + i)))
    writeDst s (s.cur.postUpd s a u) d 5 w = .ok c1 →
    exec (.wlds g d a m) s = .next (s.setCtx s.iss.ctx ((c1.flyMore s 5 (memErrWr s s.cur 2 (wsBase s.issDie) x.toNat 8)).takeIn [w]))) ∧
  (∀ (s : State) (g : Guard) (v : VReg) (a : AReg) (m : AMode) (x : W32) (u : Option W32), GuardOn s g →
    addrOf s s.cur a m = .ok (x, u) → StoreOk s x 512 512 → s.refreshing s.issDie x.toNat = false →
    let row := rowOfBytes ((List.range 512).map fun i => byteAt s (wsBase s.issDie + x.toNat + i))
    exec (.wldv g v a m) s = .next (s.setCtx s.iss.ctx (((s.cur.postUpd s a u).flyAdd s 5
      ([.v v (BitVec.allOnes 4096) row] ++ memErrWr s s.cur 2 (wsBase s.issDie) x.toNat 512)).takeIn (wordsOfRow row)))) ∧
  ∀ i (s : State) (g : Guard) (a : AReg) (m : AMode) (x : W32) (u : Option W32), GuardOn s g → addrOf s s.cur a m = .ok (x, u) →
    s.refreshing s.issDie x.toNat = true → ((∃ d, i = .wlds g d a m) ∧ StoreOk s x 8 8) ∨ ((∃ v, i = .wldv g v a m) ∧ StoreOk s x 512 512) →
    exec i s = .next (s.setCtx s.iss.ctx ((s.ctx s.iss.ctx).freezeAt .refresh none))

/-- R114, R115: the address and modifier register instructions act in one bundle; ACMPLT writes bit n of gD with aA < gD[31:0]. -/
def Obligations.AddressRegisterResults : Prop :=
  ∀ (s : State) (g : Guard), GuardOn s g →
    (∀ (a : AReg) (x : Src) (c1 : Context) (p : W32) (y : W64), readA s s.cur a = .ok p → readSrc s s.cur x = .ok (c1, y) →
      exec (.aadd g a x) s = .next (s.setCtx s.iss.ctx (c1.flyAdd s 1 [.a a (BitVec.ofNat 32 (p.toNat + y.toNat % 2 ^ 32))]))) ∧
    (∀ (a : AReg) (x : Src) (c1 : Context) (y : W64), readSrc s s.cur x = .ok (c1, y) →
      exec (.amov g a x) s = .next (s.setCtx s.iss.ctx (c1.flyAdd s 1 [.a a (BitVec.ofNat 32 y.toNat)]))) ∧
    (∀ (d : Dst) (a : AReg) (p : W32) (c1 : Context), readA s s.cur a = .ok p → writeDst s s.cur d 1 (BitVec.ofNat 64 p.toNat) = .ok c1 →
      exec (.aget g d a) s = .next (s.setCtx s.iss.ctx c1)) ∧
    (∀ (m : MReg) (x : Src) (c1 : Context) (y : W64), readSrc s s.cur x = .ok (c1, y) →
      exec (.mset g m x) s = .next (s.setCtx s.iss.ctx (c1.flyAdd s 1 [.m m (modStore y)]))) ∧
    (∀ (d : Dst) (m : MReg) (p : W64) (c1 : Context), readM s s.cur m = .ok p → writeDst s s.cur d 1 p = .ok c1 →
      exec (.mget g d m) s = .next (s.setCtx s.iss.ctx c1)) ∧
    (∀ (d : Dst) (a : AReg) (m : AMode) (x : W32) (u : Option W32) (c1 : Context), addrOf s s.cur a m = .ok (x, u) →
      writeDst s (s.cur.postUpd s a u) d 1 (BitVec.ofNat 64 x.toNat) = .ok c1 → exec (.lea g d a m) s = .next (s.setCtx s.iss.ctx c1)) ∧
    ∀ (d : GReg) (n : BitNo) (a : AReg) (p : W32) (y : W64), readA s s.cur a = .ok p → readG s s.cur d = .ok y →
      exec (.acmplt g d n a) s = .next (s.setCtx s.iss.ctx (bitResult s s.cur d n 1 (decide (p.toNat < y.toNat % 2 ^ 32)) 0))

namespace Sys2Proof.Stated

/-- The row whose lane k at width w is f k. -/
def rowOf (w : Nat) (f : Nat → Nat) : Row := ofLanes w ((List.range (4096 / w)).map f)

/-- The flags of n lanes together (R146). -/
def orFlags (n : Nat) (f : Nat → Flags) : Flags := (List.range n).foldl (fun a k => a ||| f k) 0

/-- How a lane's exact result is brought to w bits (R131, R166). -/
inductive Fit where
  | wraps | signed | unsigned

/-- The number a lane delivers before it is cut to w bits. -/
def Fit.value (k : Fit) (w : Nat) (e : Int) : Int :=
  match k with
  | .wraps => e
  | .signed => max (-(2 ^ (w - 1) : Nat)) (min ((2 ^ (w - 1) : Nat) - 1) e)
  | .unsigned => max 0 (min ((2 ^ w : Nat) - 1) e)

/-- The lane of w bits. -/
def Fit.lane (k : Fit) (w : Nat) (e : Int) : Nat := (k.value w e % (2 ^ w : Nat)).toNat

/-- SA is raised when any of the lanes clamps. -/
def Fit.flags (k : Fit) (w n : Nat) (e : Nat → Int) : Flags := if (List.range n).any (fun i => decide (k.value w (e i) ≠ e i)) then flSA else 0

def satFit (sat : Bool) : Fit := if sat then .signed else .wraps
def satFitU (sat u : Bool) : Fit := if sat then (if u then .unsigned else .signed) else .wraps

/-- A lane of all ones or of zero (R164). -/
def truth (w : Nat) (b : Prop) [Decidable b] : Int := if b then (2 ^ w : Nat) - 1 else 0

/-- n read as two's complement of w bits (R130). -/
def sg (w n : Nat) : Int := if n < 2 ^ (w - 1) then n else (n : Int) - (2 ^ w : Nat)

/-- The integer vector instructions of two sources (R171, R174): lane result from the lanes x, y at width w, exact. -/
def vecTwo : Instr → Option (Guard × VDst × VSrc × VSrc × Fit × (Nat → Nat → Nat → Int))
  | .vadd g d a b => some (g, d, a, b, .wraps, fun _ x y => (x : Int) + y)
  | .vsub g d a b => some (g, d, a, b, .wraps, fun _ x y => (x : Int) - y)
  | .vadds g d a b => some (g, d, a, b, .signed, fun w x y => sg w x + sg w y)
  | .vsubs g d a b => some (g, d, a, b, .signed, fun w x y => sg w x - sg w y)
  | .vaddus g d a b => some (g, d, a, b, .unsigned, fun _ x y => (x : Int) + y)
  | .vsubus g d a b => some (g, d, a, b, .unsigned, fun _ x y => (x : Int) - y)
  | .vmul g d a b sat => some (g, d, a, b, satFit sat, fun w x y => sg w x * sg w y)
  | .vmulh g d a b => some (g, d, a, b, .wraps, fun w x y => Int.fdiv (sg w x * sg w y) (2 ^ w : Nat))
  | .vmulhu g d a b => some (g, d, a, b, .wraps, fun w x y => ((x * y / 2 ^ w : Nat) : Int))
  | .vmini g d a b => some (g, d, a, b, .wraps, fun w x y => min (sg w x) (sg w y))
  | .vmaxi g d a b => some (g, d, a, b, .wraps, fun w x y => max (sg w x) (sg w y))
  | .vminu g d a b => some (g, d, a, b, .wraps, fun _ x y => min (x : Int) y)
  | .vmaxu g d a b => some (g, d, a, b, .wraps, fun _ x y => max (x : Int) y)
  | .vclamp g d a b => some (g, d, a, b, .wraps, fun w x y =>
      let m : Int := min |sg w y| ((2 ^ (w - 1) : Nat) - 1)
      max (-m) (min m (sg w x)))
  | .vavg g d a b => some (g, d, a, b, .wraps, fun w x y => Int.fdiv (sg w x + sg w y + 1) 2)
  | .vavgu g d a b => some (g, d, a, b, .wraps, fun _ x y => ((x + y + 1) / 2 : Nat))
  | .vabd g d a b => some (g, d, a, b, .wraps, fun w x y => |sg w x - sg w y|)
  | .vabdu g d a b => some (g, d, a, b, .wraps, fun _ x y => |(x : Int) - y|)
  | .vand g d a b => some (g, d, a, b, .wraps, fun _ x y => (x &&& y : Nat))
  | .vor g d a b => some (g, d, a, b, .wraps, fun _ x y => (x ||| y : Nat))
  | .vxor g d a b => some (g, d, a, b, .wraps, fun _ x y => (x ^^^ y : Nat))
  | .vandn g d a b => some (g, d, a, b, .wraps, fun w x y => (x &&& (2 ^ w - 1 - y) : Nat))
  | .vshl g d a b sat => some (g, d, a, b, satFit sat, fun w x y => sg w x * (2 ^ (y % w) : Nat))
  | .vshr g d a b => some (g, d, a, b, .wraps, fun w x y => (x / 2 ^ (y % w) : Nat))
  | .vsra g d a b => some (g, d, a, b, .wraps, fun w x y => Int.fdiv (sg w x) (2 ^ (y % w) : Nat))
  | .vrol g d a b => some (g, d, a, b, .wraps, fun w x y => (x * 2 ^ (y % w) + x / 2 ^ (w - y % w) : Nat))
  | .vbext g d a b f => some (g, d, a, b, .wraps, fun w x y =>
      if w ≤ f.val then 0 else (x / 2 ^ f.val % 2 ^ (min (f.val + y % w) (w - 1) - f.val + 1) : Nat))
  | .vcmpeq g d a b => some (g, d, a, b, .wraps, fun w x y => truth w (x = y))
  | .vcmpne g d a b => some (g, d, a, b, .wraps, fun w x y => truth w (x ≠ y))
  | .vcmplt g d a b => some (g, d, a, b, .wraps, fun w x y => truth w (sg w x < sg w y))
  | .vcmple g d a b => some (g, d, a, b, .wraps, fun w x y => truth w (sg w x ≤ sg w y))
  | .vcmpltu g d a b => some (g, d, a, b, .wraps, fun w x y => truth w (x < y))
  | .vcmpleu g d a b => some (g, d, a, b, .wraps, fun w x y => truth w (x ≤ y))
  | _ => none

/-- The integer vector instructions of one source (R171). -/
def vecOne : Instr → Option (Guard × VDst × VSrc × Fit × (Nat → Nat → Int))
  | .vmov g d a => some (g, d, a, .wraps, fun _ x => x)
  | .vabs g d a sat => some (g, d, a, satFit sat, fun w x => |sg w x|)
  | .vneg g d a sat => some (g, d, a, satFit sat, fun w x => -(sg w x))
  | .vclz g d a => some (g, d, a, .wraps, fun w x => ((List.range w).findIdx (fun k => x.testBit (w - 1 - k)) : Nat))
  | .vpopc g d a => some (g, d, a, .wraps, fun w x => ((List.range w).filter fun k => x.testBit k).length)
  | .vsext g d a f => some (g, d, a, .wraps, fun w x => if w ≤ f.val + 1 then (x : Int) else sg (f.val + 1) (x % 2 ^ (f.val + 1)))
  | .vzext g d a f => some (g, d, a, .wraps, fun w x => if w ≤ f.val + 1 then (x : Int) else (x % 2 ^ (f.val + 1) : Nat))
  | .vrev g d a => some (g, d, a, .wraps, fun w x => (mirrored w x : Nat))
  | .vbswap g d a => some (g, d, a, .wraps, fun w x => (((List.range (w / 8)).map fun k => x / 256 ^ k % 256 * 256 ^ (w / 8 - 1 - k)).sum : Nat))
  | _ => none

/-- The integer vector instructions that read the old lane z of their destination (R171, R175, R183). -/
def vecThree : Instr → Option (Guard × VReg × VSrc × VSrc × (Nat → Nat → Nat → Nat → Nat))
  | .vbitsel g d a b => some (g, d, a, b, fun w x y z => (x &&& z) ||| (y &&& (2 ^ w - 1 - z)))
  | .vbins g d a b f => some (g, d, a, b, fun w x y z =>
      let k := min (f.val + y % w) (w - 1) - f.val + 1
      if w ≤ f.val then z else z / 2 ^ (f.val + k) * 2 ^ (f.val + k) + x % 2 ^ k * 2 ^ f.val + z % 2 ^ f.val)
  | .vsel g d a b => some (g, d, a, b, fun _ x y z => if z ≠ 0 then x else y)
  | _ => none

/-- Lane movement over whole rows (R183): lane i of the result, from the lanes X, Y of the sources and the number n of lanes. -/
def vecMove : Instr → Option (Guard × VDst × VSrc × VSrc × (Nat → Nat → (Nat → Nat) → (Nat → Nat) → Nat → Nat))
  | .vbcast g d a b => some (g, d, a, b, fun _ n X Y _ => X (Y 0 % n))
  | .vperm g d a b => some (g, d, a, b, fun _ n X Y i => X (Y i % n))
  | .vrotl g d a b => some (g, d, a, b, fun _ n X Y i => X ((i + Y 0) % n))
  | .vslide g d a b => some (g, d, a, b, fun w n X Y i =>
      let j := (i : Int) + sg w (Y 0)
      if 0 ≤ j ∧ j < n then X j.toNat else 0)
  | .vzip g d a b h => some (g, d, a, b, fun _ n X Y i => (if i % 2 = 0 then X else Y) (i / 2 + h.toNat * (n / 2)))
  | .vunzip g d a b h => some (g, d, a, b, fun _ n X Y i => if 2 * i + h.toNat < n then X (2 * i + h.toNat) else Y (2 * i + h.toNat - n))
  | _ => none

/-- The number of the first i lanes that are true (R164). -/
def trueBelow (X : Nat → Nat) (i : Nat) : Nat := ((List.range i).filter fun k => X k ≠ 0).length

end Sys2Proof.Stated

/-- R156 to R158: lane i of a row is bits [w·i + w − 1 : w·i]; a row built from lanes has those lanes; the operation width is that of the
destination's tile, else of the first source's, else of a row in the second source, else 32 (an instruction without a second source names
v0 there), by the tile's element type. -/
def Obligations.LanesAndOperationWidth : Prop :=
  (∀ (w : Nat) (r : Row) (i : Nat), w ∈ [4, 8, 16, 32, 64] → i < 4096 / w → lane w r i = r.toNat / 2 ^ (w * i) % 2 ^ w) ∧
  (∀ (w : Nat) (f : Nat → Nat) (i : Nat), w ∈ [4, 8, 16, 32, 64] → i < 4096 / w → lane w (rowOf w f) i = f i % 2 ^ w) ∧
  (∀ (c : Context) (r : VReg), c.w.vval r = if r.val < 64 then c.w.t0.rows.getD r.val 0 else c.w.t1.rows.getD (r.val - 64) 0) ∧
  (∀ (c : Context) (d : VDst) (a b : VSrc) (r : VReg), d = .v r → (opWidth c (dTile d) (sTile a) (rowTile b)).ty = some (if r.val < 64 then c.w.t0 else c.w.t1).ty) ∧
  (∀ (c : Context) (d : VDst) (a b : VSrc) (r : VReg), d.isV = false → a = .v r →
    (opWidth c (dTile d) (sTile a) (rowTile b)).ty = some (if r.val < 64 then c.w.t0 else c.w.t1).ty) ∧
  (∀ (c : Context) (d : VDst) (t : TileNo) (b : VSrc), d.isV = false →
    (opWidth c (dTile d) (sTile (.vck t)) (rowTile b)).ty = some (if t = 0 then c.w.t0 else c.w.t1).ty) ∧
  (∀ (c : Context) (d : VDst) (a b : VSrc) (r : VReg), d.isV = false → sTile a = none → b = .v r →
    (opWidth c (dTile d) (sTile a) (rowTile b)).ty = some (if r.val < 64 then c.w.t0 else c.w.t1).ty) ∧
  (∀ (c : Context) (d : VDst) (a b : VSrc), d.isV = false → sTile a = none → (∀ r, b ≠ .v r) →
    (opWidth c (dTile d) (sTile a) (rowTile b)).w = 32 ∧ (opWidth c (dTile d) (sTile a) (rowTile b)).fmt = some fp32) ∧
  ∀ (c : Context) (d a b : Option TileNo) (ty : TileType), (opWidth c d a b).ty = some ty →
    ((opWidth c d a b).w, (opWidth c d a b).fmt) = match ty with
      | .i32 => (32, some fp32)
      | .f32 => (32, some fp32)
      | .f32a => (32, some fp32)
      | .i16 => (16, some bf16)
      | .bf16 => (16, some bf16)
      | .fp16 => (16, some fp16)
      | .i64 => (64, none)

/-- R171, R174: each integer instruction of two sources, lane by lane at the operation width, after two issues; SA when a lane clamps. -/
def Obligations.VectorTwoSourceResults : Prop :=
  ∀ i g d a b k e, vecTwo i = some (g, d, a, b, k, e) → ∀ (s : State) (c1 c2 c3 : Context) (x y : Row), GuardOn s g →
    let w := (opWidth s.cur (dTile d) (sTile a) (rowTile b)).w
    let v := fun n => e w (lane w x n) (lane w y n)
    readVSrc s s.cur w false a = .ok (c1, x) → readVSrc s c1 w false b = .ok (c2, y) →
    writeVDst s c2 d 2 (rowOf w fun n => k.lane w (v n)) (k.flags w (4096 / w) v) = .ok c3 →
    exec i s = .next (s.setCtx s.iss.ctx c3)

/-- R171, R175, R183: the integer instructions of one source, those that read the old lanes of vD, VSHUF, and VIOTA. -/
def Obligations.VectorOneAndThreeSourceResults : Prop :=
  (∀ i g d a k e, vecOne i = some (g, d, a, k, e) → ∀ (s : State) (c1 c2 : Context) (x : Row), GuardOn s g →
    let w := (opWidth s.cur (dTile d) (sTile a) noS2).w
    let v := fun n => e w (lane w x n)
    readVSrc s s.cur w false a = .ok (c1, x) →
    writeVDst s c1 d 2 (rowOf w fun n => k.lane w (v n)) (k.flags w (4096 / w) v) = .ok c2 →
    exec i s = .next (s.setCtx s.iss.ctx c2)) ∧
  (∀ i g d a b f, vecThree i = some (g, d, a, b, f) → ∀ (s : State) (c1 c2 c3 : Context) (x y z : Row), GuardOn s g →
    let w := (opWidth s.cur (some (vTile d)) (sTile a) (rowTile b)).w
    readVSrc s s.cur w false a = .ok (c1, x) → readVSrc s c1 w false b = .ok (c2, y) → readV s c2 d = .ok z →
    writeVDst s c2 (.v d) 2 (rowOf w fun n => f w (lane w x n) (lane w y n) (lane w z n)) = .ok c3 →
    exec i s = .next (s.setCtx s.iss.ctx c3)) ∧
  (∀ (s : State) (g : Guard) (d : VReg) (a b : VSrc) (c1 c2 c3 : Context) (x y z : Row), GuardOn s g →
    let w := (opWidth s.cur (some (vTile d)) (sTile a) (rowTile b)).w
    let n := 4096 / w
    readVSrc s s.cur w false a = .ok (c1, x) → readVSrc s c1 w false b = .ok (c2, y) → readV s c2 d = .ok z →
    writeVDst s c2 (.v d) 2 (rowOf w fun i => let j := lane w z i % (2 * n); if j < n then lane w x j else lane w y (j - n)) = .ok c3 →
    exec (.vshuf g d a b) s = .next (s.setCtx s.iss.ctx c3)) ∧
  (∀ (s : State) (g : Guard) (d : VDst) (a : VSrc) (c1 : Context), GuardOn s g →
    let w := (opWidth s.cur (dTile d) none noS2).w
    writeVDst s s.cur d 2 (rowOf w fun i => i) = .ok c1 → exec (.viota g d a false) s = .next (s.setCtx s.iss.ctx c1)) ∧
  ∀ (s : State) (g : Guard) (d : VDst) (a : VSrc) (c1 c2 : Context) (x : Row), GuardOn s g →
    let w := (opWidth s.cur (dTile d) (sTile a) noS2).w
    readVSrc s s.cur w false a = .ok (c1, x) →
    (writeVDst s c1 d 2 (rowOf w fun i => trueBelow (lane w x) i) = .ok c2 → exec (.viota g d a true) s = .next (s.setCtx s.iss.ctx c2)) ∧
    (writeVDst s c1 d 2 (rowOf w fun i => lane w x (4096 / w - 1 - i)) = .ok c2 → exec (.vrevl g d a) s = .next (s.setCtx s.iss.ctx c2))

/-- R173: the widening products, and the element-type fault where the operation width is not one they take. R182: the integer reductions
write their result to lane 0 and zero to every other lane. The model's own choices it rests on: log entry 46. -/
def Obligations.WideningAndReductionResults : Prop :=
  (∀ (s : State) (g : Guard) (a b : VSrc) (h u : Bool), GuardOn s g →
     (∀ (d : VDst) (c1 c2 c3 : Context) (x y : Row),
       let w := (opWidth s.cur (dTile d) (sTile a) (rowTile b)).w
       let n := 4096 / w
       let rd : Nat → Int := fun v => if u then (v : Int) else sg (w / 2) v
       (w = 16 → exec (.vmulw g d a b h u) s = .next (s.takeTrap s.iss.ctx ⟨0x0A, 0, 0, none⟩ s.iss.slot s.iss.caddr)) ∧
       (w ≠ 16 → readVSrc s s.cur (w / 2) false a = .ok (c1, x) → readVSrc s c1 (w / 2) false b = .ok (c2, y) →
         writeVDst s c2 d 2 (rowOf w fun i => Fit.wraps.lane w (rd (lane (w / 2) x (h.toNat * n + i)) * rd (lane (w / 2) y (h.toNat * n + i)))) = .ok c3 →
         exec (.vmulw g d a b h u) s = .next (s.setCtx s.iss.ctx c3))) ∧
     ∀ (d : VReg) (sat : Bool) (c1 c2 c3 : Context) (x y z : Row),
       let w := (opWidth s.cur (some (vTile d)) none none).w
       let n := 4096 / w
       (w = 16 → exec (.vmacw g d a b h u sat) s = .next (s.takeTrap s.iss.ctx ⟨0x0A, 0, 0, none⟩ s.iss.slot s.iss.caddr)) ∧
       (let rd : Nat → Nat → Int := fun w v => if u then (v : Int) else sg w v
        let e : Nat → Int := fun i => rd w (lane w z i) + rd (w / 2) (lane (w / 2) x (h.toNat * n + i)) * rd (w / 2) (lane (w / 2) y (h.toNat * n + i))
        w ≠ 16 → readVSrc s s.cur (w / 2) false a = .ok (c1, x) → readVSrc s c1 (w / 2) false b = .ok (c2, y) → readV s c2 d = .ok z →
         writeVDst s c2 (.v d) 2 (rowOf w fun i => (satFitU sat u).lane w (e i)) ((satFitU sat u).flags w n e) = .ok c3 →
         exec (.vmacw g d a b h u sat) s = .next (s.setCtx s.iss.ctx c3)) ∧
       (w ≠ 32 → exec (.vdot4 g d a b h u sat) s = .next (s.takeTrap s.iss.ctx ⟨0x0A, 0, 0, none⟩ s.iss.slot s.iss.caddr)) ∧
       (let byte : Bool → Nat → Nat → Int := fun sgn v k => if sgn then sg 8 (v / 256 ^ k % 256) else (v / 256 ^ k % 256 : Nat)
        let e : Nat → Int := fun i => sg 32 (lane 32 z i) + ((List.range 4).map fun k => byte h (lane 32 x i) k * byte u (lane 32 y i) k).sum
        w = 32 → readVSrc s s.cur 32 false a = .ok (c1, x) → readVSrc s c1 32 false b = .ok (c2, y) → readV s c2 d = .ok z →
         writeVDst s c2 (.v d) 2 (rowOf 32 fun i => (satFit sat).lane 32 (e i)) ((satFit sat).flags 32 128 e) = .ok c3 →
         exec (.vdot4 g d a b h u sat) s = .next (s.setCtx s.iss.ctx c3))) ∧
  (∀ (s : State) (g : Guard) (d : VDst) (a : VSrc) (c1 c2 : Context) (x : Row), GuardOn s g →
     let w := (opWidth s.cur (dTile d) (sTile a) noS2).w
     let l := (List.range (4096 / w)).map (lane w x)
     let out := fun v : Nat => writeVDst s c1 d 2 (BitVec.ofNat 4096 v) = .ok c2
     readVSrc s s.cur w false a = .ok (c1, x) →
     (out (l.sum % 2 ^ w) → exec (.vredadd g d a) s = .next (s.setCtx s.iss.ctx c2)) ∧
     (out (l.sum % 2 ^ 64) → exec (.vredaddw g d a true) s = .next (s.setCtx s.iss.ctx c2)) ∧
     (out (((l.map (sg w)).sum % 2 ^ 64).toNat) → exec (.vredaddw g d a false) s = .next (s.setCtx s.iss.ctx c2)) ∧
     (∀ v, v ∈ l → (∀ z ∈ l, v ≤ z) → out v → exec (.vredmin g d a true) s = .next (s.setCtx s.iss.ctx c2)) ∧
     (∀ v, v ∈ l → (∀ z ∈ l, sg w v ≤ sg w z) → out v → exec (.vredmin g d a false) s = .next (s.setCtx s.iss.ctx c2)) ∧
     (∀ v, v ∈ l → (∀ z ∈ l, z ≤ v) → out v → exec (.vredmax g d a true) s = .next (s.setCtx s.iss.ctx c2)) ∧
     (∀ v, v ∈ l → (∀ z ∈ l, sg w z ≤ sg w v) → out v → exec (.vredmax g d a false) s = .next (s.setCtx s.iss.ctx c2)) ∧
     (∀ v, v < 2 ^ w → (∀ k, k < w → (v.testBit k = true ↔ ∀ z ∈ l, z.testBit k = true)) → out v →
       exec (.vredand g d a) s = .next (s.setCtx s.iss.ctx c2)) ∧
     ∀ v, v < 2 ^ w → (∀ k, k < w → (v.testBit k = true ↔ ∃ z ∈ l, z.testBit k = true)) → out v →
       exec (.vredor g d a) s = .next (s.setCtx s.iss.ctx c2))

/-- R183, R184: the lane movements; VCOMPRESS and VEXPAND under the mask of their second source, with the count to gN where it is named.
R172: the vector carry instructions write their result row, VMADC the high halves to vD + 1, then the carry row as 1 or 0. R185, R186:
masks to and from general registers, and single lanes: VANY, VALL, VMCOUNT, VMSKG, VEXT; VGMSK and VINS write only the lanes they name and
leave the others of vD as they were. The model's own choices it rests on: log entries 4, 47. -/
def Obligations.VectorMoveCarryAndMaskResults : Prop :=
  ((∀ i g d a b f, vecMove i = some (g, d, a, b, f) → ∀ (s : State) (c1 c2 c3 : Context) (x y : Row), GuardOn s g →
     let w := (opWidth s.cur (dTile d) (sTile a) (rowTile b)).w
     readVSrc s s.cur w false a = .ok (c1, x) → readVSrc s c1 w false b = .ok (c2, y) →
     writeVDst s c2 d 2 (rowOf w fun i => f w (4096 / w) (lane w x) (lane w y) i) = .ok c3 →
     exec i s = .next (s.setCtx s.iss.ctx c3)) ∧
   ∀ (s : State) (g : Guard) (d : VDst) (a b : VSrc) (n : OptG) (c1 c2 c3 : Context) (x m : Row), GuardOn s g →
     let w := (opWidth s.cur (dTile d) (sTile a) (rowTile b)).w
     let lanesOn := (List.range (4096 / w)).filter fun k => lane w m k ≠ 0
     let count : List Wr := match n with
       | some r => [.g r (BitVec.ofNat 64 lanesOn.length)]
       | none => []
     readVSrc s s.cur w false a = .ok (c1, x) → readVSrc s c1 w false b = .ok (c2, m) →
     (writeVDst s c2 d 2 (rowOf w fun i => match lanesOn[i]? with
       | some k => lane w x k
       | none => 0) 0 count = .ok c3 → exec (.vcompress g d a b n) s = .next (s.setCtx s.iss.ctx c3)) ∧
     (writeVDst s c2 d 2 (rowOf w fun i => if lane w m i ≠ 0 then lane w x (trueBelow (lane w m) i) else 0) 0 count = .ok c3 →
       exec (.vexpand g d a b n) s = .next (s.setCtx s.iss.ctx c3))) ∧
  (∀ (s : State) (g : Guard) (a b : VSrc) (cy : VReg) (z : Bool) (c1 c2 : Context) (x y kr : Row), GuardOn s g →
     (z = false → readV s c2 cy = .ok kr) →
     (∀ (d : VDst) (c3 : Context),
       let w := (opWidth s.cur (dTile d) (sTile a) (rowTile b)).w
       let cin : Nat → Nat := fun n => if z then 0 else if lane w kr n = 0 then 0 else 1
       readVSrc s s.cur w false a = .ok (c1, x) → readVSrc s c1 w false b = .ok (c2, y) →
       (writeVDst s c2 d 2 (rowOf w fun n => (lane w x n + lane w y n + cin n) % 2 ^ w) 0
           [.v cy (BitVec.allOnes 4096) (rowOf w fun n => if 2 ^ w ≤ lane w x n + lane w y n + cin n then 1 else 0)] = .ok c3 →
         exec (.vadc g d a b cy z) s = .next (s.setCtx s.iss.ctx c3)) ∧
       (writeVDst s c2 d 2 (rowOf w fun n => (lane w x n + 2 ^ w + 2 ^ w - lane w y n - cin n) % 2 ^ w) 0
           [.v cy (BitVec.allOnes 4096) (rowOf w fun n => if lane w x n < lane w y n + cin n then 1 else 0)] = .ok c3 →
         exec (.vsbc g d a b cy z) s = .next (s.setCtx s.iss.ctx c3))) ∧
     ∀ (d : VReg) (old : Row) (c3 : Context),
       let w := (opWidth s.cur (some (vTile d)) (sTile a) (rowTile b)).w
       let cin : Nat → Nat := fun n => if z then 0 else if lane w kr n = 0 then 0 else 1
       let low : Nat → Nat := fun n => lane w x n * lane w y n % 2 ^ w + lane w old n + cin n
       readVSrc s s.cur w false a = .ok (c1, x) → readVSrc s c1 w false b = .ok (c2, y) → readV s c2 d = .ok old →
       writeVDst s c2 (.v d) 2 (rowOf w fun n => low n % 2 ^ w) 0
         [.v (d + 1) (BitVec.allOnes 4096) (rowOf w fun n => lane w x n * lane w y n / 2 ^ w),
          .v cy (BitVec.allOnes 4096) (rowOf w fun n => if 2 ^ w ≤ low n then 1 else 0)] = .ok c3 →
       exec (.vmadc g d a b cy z) s = .next (s.setCtx s.iss.ctx c3)) ∧
  ((∀ (s : State) (g : Guard) (gn : GReg) (a : VSrc) (b : BitNo) (q : Code4) (c1 : Context) (x : Row), GuardOn s g → q.val < 4 →
     let w := (opWidth s.cur none (sTile a) none).w
     let n := 4096 / w
     readVSrc s s.cur w false a = .ok (c1, x) →
     exec (.vany g gn b a) s = .next (s.setCtx s.iss.ctx (c1.flyAdd s 2 [.gbit gn b ((List.range n).any fun k => lane w x k ≠ 0)])) ∧
     exec (.vall g gn b a) s = .next (s.setCtx s.iss.ctx (c1.flyAdd s 2 [.gbit gn b ((List.range n).all fun k => lane w x k ≠ 0)])) ∧
     exec (.vmcount g gn a) s = .next (s.setCtx s.iss.ctx (c1.flyAdd s 2 [.g gn (BitVec.ofNat 64 (trueBelow (lane w x) n))])) ∧
     ∃ v : W64, exec (.vmskg g gn a q) s = .next (s.setCtx s.iss.ctx (c1.flyAdd s 2 [.g gn v])) ∧
       ∀ j, j < 64 → v.getLsbD j = decide (64 * q.val + j < n ∧ lane w x (64 * q.val + j) ≠ 0)) ∧
   (∀ (s : State) (g : Guard) (gn : GReg) (a t : VSrc) (c1 c2 : Context) (x y : Row), GuardOn s g →
     let w := (opWidth s.cur none (sTile a) (rowTile t)).w
     readVSrc s s.cur w false a = .ok (c1, x) → readVSrc s c1 w false t = .ok (c2, y) →
     exec (.vext g gn a t) s = .next (s.setCtx s.iss.ctx (c2.flyAdd s 2 [.g gn (BitVec.ofInt 64 (sg w (lane w x (lane w y 0 % (4096 / w)))))]))) ∧
   ∀ (s : State) (g : Guard) (d : VReg) (gs : GReg) (t : VSrc) (q : Code4) (v : W64), GuardOn s g → q.val < 4 → readG s s.cur gs = .ok v →
     let w := (opWidth s.cur (some (vTile d)) none none).w
     let n := 4096 / w
     (∀ old, readV s s.cur d = .ok old → ∃ mask new : Row,
       writeMerge s s.cur d 2 mask new = .ok (s.cur.flyAdd s 2 [.v d mask new, .vlatch (vlatchOf s.iss.slot d.val) ((old &&& ~~~mask) ||| (new &&& mask))]) ∧
       exec (.vgmsk g d gs q) s = .next (s.setCtx s.iss.ctx (s.cur.flyAdd s 2 [.v d mask new, .vlatch (vlatchOf s.iss.slot d.val) ((old &&& ~~~mask) ||| (new &&& mask))])) ∧
       ∀ k, k < n → lane w ((old &&& ~~~mask) ||| (new &&& mask)) k =
         if 64 * q.val ≤ k ∧ k < 64 * q.val + 64 then (if v.getLsbD (k - 64 * q.val) then 2 ^ w - 1 else 0) else lane w old k) ∧
     ∀ (c1 : Context) (y old : Row), readVSrc s s.cur w false t = .ok (c1, y) → readV s c1 d = .ok old → ∃ mask new : Row,
       exec (.vins g d gs t) s = .next (s.setCtx s.iss.ctx (c1.flyAdd s 2 [.v d mask new, .vlatch (vlatchOf s.iss.slot d.val) ((old &&& ~~~mask) ||| (new &&& mask))])) ∧
       ∀ k, k < n → lane w ((old &&& ~~~mask) ||| (new &&& mask)) k = if k = lane w y 0 % n then v.toNat % 2 ^ w else lane w old k)

namespace Sys2Proof.Stated

/-- The float instructions of one vector source (R176, R181): rounding code, latency, and the lane's operation. -/
def floatOne : Instr → Option (Guard × VDst × VSrc × Rnd × Nat × (Fmt → Rc → Nat → Nat × Flags))
  | .vfabs g d a => some (g, d, a, .rne, 4, fun f _ x => fSetSign f false x)
  | .vfneg g d a => some (g, d, a, .rne, 4, fun f _ x => fSetSign f (!x.testBit (f.width - 1)) x)
  | .vfrnd g d a r => some (g, d, a, r, 4, fRnd)
  | .vfclass g d a => some (g, d, a, .rne, 4, fun f _ x => (fClass f x, 0))
  | .vrcp g d a r => some (g, d, a, r, 8, fRcp)
  | .vrsqrt g d a r => some (g, d, a, r, 8, fRsqrt)
  | .vexp2 g d a r => some (g, d, a, r, 8, fExp2)
  | .vlog2 g d a r => some (g, d, a, r, 8, fLog2)
  | _ => none

/-- The float instructions of two vector sources (R174, R176, R177); the flag says whether the second source is read as floating point (R65). -/
def floatTwo : Instr → Option (Guard × VDst × VSrc × VSrc × Rnd × Bool × (Fmt → Rc → Nat → Nat → Nat × Flags))
  | .vfadd g d a b r => some (g, d, a, b, r, true, fAdd)
  | .vfsub g d a b r => some (g, d, a, b, r, true, fSub)
  | .vfmul g d a b r => some (g, d, a, b, r, true, fMul)
  | .vmin g d a b => some (g, d, a, b, .rne, true, fun f _ => fMinMax f false false)
  | .vmax g d a b => some (g, d, a, b, .rne, true, fun f _ => fMinMax f true false)
  | .vminnum g d a b => some (g, d, a, b, .rne, true, fun f _ => fMinMax f false true)
  | .vmaxnum g d a b => some (g, d, a, b, .rne, true, fun f _ => fMinMax f true true)
  | .vfclamp g d a b => some (g, d, a, b, .rne, true, fun f _ => fClamp f)
  | .vfcopys g d a b => some (g, d, a, b, .rne, true, fun f _ => fCopySign f)
  | .vfscale g d a b r => some (g, d, a, b, r, false, fun f rc x y => fScale f rc (sg f.width y) x)
  | .vfcmpeq g d a b => some (g, d, a, b, .rne, true, fun f _ x y => (if (fCmp f .eq x y).1 then 2 ^ f.width - 1 else 0, (fCmp f .eq x y).2))
  | .vfcmplt g d a b => some (g, d, a, b, .rne, true, fun f _ x y => (if (fCmp f .lt x y).1 then 2 ^ f.width - 1 else 0, (fCmp f .lt x y).2))
  | .vfcmple g d a b => some (g, d, a, b, .rne, true, fun f _ x y => (if (fCmp f .le x y).1 then 2 ^ f.width - 1 else 0, (fCmp f .le x y).2))
  | .vfcmpun g d a b => some (g, d, a, b, .rne, true, fun f _ x y => (if (fCmp f .un x y).1 then 2 ^ f.width - 1 else 0, (fCmp f .un x y).2))
  | _ => none

/-- The fused instructions (R176): whether the product and the addend change sign. -/
def fused : Instr → Option (Guard × VReg × VSrc × VSrc × Rnd × Bool × Bool)
  | .vfma g d a b r => some (g, d, a, b, r, false, false)
  | .vfms g d a b r => some (g, d, a, b, r, false, true)
  | .vfnma g d a b r => some (g, d, a, b, r, true, false)
  | _ => none

/-- A merge: only these lanes of vD are written, and the latch receives the row as it then stands (R162, R178). -/
def MergedLanes (s : State) (c : Context) (d : VReg) (lat w first n : Nat) (f : Nat → Nat) (fl : Flags) (c' : Context) : Prop :=
  ∃ mask new : Row, c' = c.flyAdd s lat ([.v d mask new, .vlatch (vlatchOf s.iss.slot d.val) ((c.w.vval d &&& ~~~mask) ||| (new &&& mask))] ++
      (if fl = 0 then [] else [.flags fl])) ∧
    ∀ k, k < 4096 / w → lane w ((c.w.vval d &&& ~~~mask) ||| (new &&& mask)) k =
      if first ≤ k ∧ k < first + n then f (k - first) % 2 ^ w else lane w (c.w.vval d) k

end Sys2Proof.Stated

/-- R158, R165, R174, R176, R177, R181: the float instructions, lane by lane in the format of the operation tile and by the rounding code,
with the flags of all lanes; at width 64 they raise the element-type fault (R159). The model's own choices it rests on: log entries 2, 3,
46. -/
def Obligations.VectorFloatResults : Prop :=
  (∀ i g d a r lat f, floatOne i = some (g, d, a, r, lat, f) → ∀ (s : State) (c1 c2 : Context) (x : Row) (fmt : Fmt), GuardOn s g →
    let o := opWidth s.cur (dTile d) (sTile a) noS2
    (o.fmt = none → exec i s = .next (s.takeTrap s.iss.ctx ⟨0x0A, 0, 0, none⟩ s.iss.slot s.iss.caddr)) ∧
    (o.fmt = some fmt → readVSrc s s.cur o.w true a = .ok (c1, x) →
      let v := fun n => f fmt (rcOf s c1 r n) (lane o.w x n)
      writeVDst s c1 d lat (rowOf o.w fun n => (v n).1) (orFlags (4096 / o.w) fun n => (v n).2) = .ok c2 →
      exec i s = .next (s.setCtx s.iss.ctx c2))) ∧
  (∀ i g d a b r fl2 f, floatTwo i = some (g, d, a, b, r, fl2, f) → ∀ (s : State) (c1 c2 c3 : Context) (x y : Row) (fmt : Fmt), GuardOn s g →
    let o := opWidth s.cur (dTile d) (sTile a) (rowTile b)
    (o.fmt = none → exec i s = .next (s.takeTrap s.iss.ctx ⟨0x0A, 0, 0, none⟩ s.iss.slot s.iss.caddr)) ∧
    (o.fmt = some fmt → readVSrc s s.cur o.w true a = .ok (c1, x) → readVSrc s c1 o.w fl2 b = .ok (c2, y) →
      let v := fun n => f fmt (rcOf s c2 r n) (lane o.w x n) (lane o.w y n)
      writeVDst s c2 d 4 (rowOf o.w fun n => (v n).1) (orFlags (4096 / o.w) fun n => (v n).2) = .ok c3 →
      exec i s = .next (s.setCtx s.iss.ctx c3))) ∧
  (∀ i g d a b r np nd, fused i = some (g, d, a, b, r, np, nd) → ∀ (s : State) (c1 c2 c3 : Context) (x y z : Row) (fmt : Fmt), GuardOn s g →
    let o := opWidth s.cur (some (vTile d)) (sTile a) (rowTile b)
    (o.fmt = none → exec i s = .next (s.takeTrap s.iss.ctx ⟨0x0A, 0, 0, none⟩ s.iss.slot s.iss.caddr)) ∧
    (o.fmt = some fmt → readVSrc s s.cur o.w true a = .ok (c1, x) → readVSrc s c1 o.w true b = .ok (c2, y) → readV s c2 d = .ok z →
      let v := fun n => fFma fmt (rcOf s c2 r n) np nd (lane o.w x n) (lane o.w y n) (lane o.w z n)
      writeVDst s c2 (.v d) 4 (rowOf o.w fun n => (v n).1) (orFlags (4096 / o.w) fun n => (v n).2) = .ok c3 →
      exec i s = .next (s.setCtx s.iss.ctx c3))) ∧
  ∀ (s : State) (g : Guard) (d : VReg) (a b : VSrc) (h f : Bool) (r : Rnd) (c1 c2 c3 : Context) (x y z : Row), GuardOn s g →
    let o := opWidth s.cur (some (vTile d)) none none
    (o.w ≠ 32 → exec (.vfmaw g d a b h f r) s = .next (s.takeTrap s.iss.ctx ⟨0x0A, 0, 0, none⟩ s.iss.slot s.iss.caddr)) ∧
    (o.w = 32 → readVSrc s s.cur 16 true a = .ok (c1, x) → readVSrc s c1 16 true b = .ok (c2, y) → readV s c2 d = .ok z →
      let src := if f then fp16 else bf16
      let v := fun n => fvFma fp32 (rcOf s c2 r n) false false (src.read (lane 16 x (h.toNat * 128 + n))) (src.read (lane 16 y (h.toNat * 128 + n)))
        (fp32.read (lane 32 z n))
      writeVDst s c2 (.v d) 4 (rowOf 32 fun n => (v n).1) (orFlags 128 fun n => (v n).2) = .ok c3 →
      exec (.vfmaw g d a b h f r) s = .next (s.setCtx s.iss.ctx c3))

/-- R177, R182, R183: the float reductions and VTOPK. R178: the conversions between widths; those marked Merge write only the lanes they
name and leave the others of vD. The model's own choices it rests on: log entries 4, 47, 170. -/
def Obligations.FloatReductionAndConversionResults : Prop :=
  ((∀ (s : State) (g : Guard) (d : VDst) (a : VSrc) (r : Rnd) (c1 c2 : Context) (x : Row) (fmt : Fmt), GuardOn s g →
     let o := opWidth s.cur (dTile d) (sTile a) noS2
     let l := (List.range (4096 / o.w)).map fun n => fmt.read (lane o.w x n)
     o.fmt = some fmt → readVSrc s s.cur o.w true a = .ok (c1, x) →
     (l.any FV.isNan = true → writeVDst s c1 d 4 (BitVec.ofNat 4096 fmt.nan) (if l.any FV.isSnan then flNV else 0) = .ok c2 →
       exec (.vredfadd g d a r) s = .next (s.setCtx s.iss.ctx c2)) ∧
     (l.any FV.isNan = false → .inf false ∈ l → .inf true ∈ l → writeVDst s c1 d 4 (BitVec.ofNat 4096 fmt.nan) flNV = .ok c2 →
       exec (.vredfadd g d a r) s = .next (s.setCtx s.iss.ctx c2)) ∧
     (∀ neg, l.any FV.isNan = false → .inf neg ∈ l → .inf (!neg) ∉ l → writeVDst s c1 d 4 (BitVec.ofNat 4096 (fmt.sign neg fmt.infBits)) = .ok c2 →
       exec (.vredfadd g d a r) s = .next (s.setCtx s.iss.ctx c2)) ∧
     (l.all (fun v => v == .zero true) = true → writeVDst s c1 d 4 (BitVec.ofNat 4096 (2 ^ (fmt.width - 1))) = .ok c2 →
       exec (.vredfadd g d a r) s = .next (s.setCtx s.iss.ctx c2)) ∧
     (let e : Int := l.foldl (fun k v => match v with
         | .num _ q => min k q
         | _ => k) 0
       let m : Int := (l.map fun v => match v with
         | .num p q => p * 2 ^ (q - e).toNat
         | _ => 0).sum
       (∀ v ∈ l, ∃ neg p q, v = .zero neg ∨ v = .num p q) → l.all (fun v => v == .zero true) = false →
       let out := roundNum fmt (rcOf s c1 r 0) (decide ((rcOf s c1 r 0).mode = .rdn) && !(l.all fun v => v == .zero false)) m e
       writeVDst s c1 d 4 (BitVec.ofNat 4096 out.1) out.2 = .ok c2 →
       exec (.vredfadd g d a r) s = .next (s.setCtx s.iss.ctx c2))) ∧
   (∀ (s : State) (g : Guard) (d : VDst) (a : VSrc) (c1 c2 : Context) (x : Row) (fmt : Fmt) (v : Nat) (mx : Bool), GuardOn s g →
     let o := opWidth s.cur (dTile d) (sTile a) noS2
     let l := (List.range (4096 / o.w)).map (lane o.w x)
     o.fmt = some fmt → readVSrc s s.cur o.w true a = .ok (c1, x) →
     let red : Instr := if mx then .vredfmax g d a else .vredfmin g d a
     (l.any (fun z => (fmt.read z).isNan) = true →
       writeVDst s c1 d 4 (BitVec.ofNat 4096 fmt.nan) (if l.any (fun z => (fmt.read z).isSnan) then flNV else 0) = .ok c2 → exec red s = .next (s.setCtx s.iss.ctx c2)) ∧
     (l.any (fun z => (fmt.read z).isNan) = false → v ∈ l →
       (∀ z ∈ l, (fCmp fmt .lt (if mx then v else z) (if mx then z else v)).1 = false) →
       (fmt.read v = .zero (!mx) ∨ ∀ neg, fmt.read v ≠ .zero neg ∨ .zero (!mx) ∉ l.map fmt.read) →
       writeVDst s c1 d 4 (BitVec.ofNat 4096 v) = .ok c2 → exec red s = .next (s.setCtx s.iss.ctx c2))) ∧
   ∀ (s : State) (g : Guard) (d : VDst) (a b : VSrc) (h : Bool) (c1 c2 c3 : Context) (x y : Row) (fmt : Fmt), GuardOn s g →
     let o := opWidth s.cur (dTile d) (sTile a) (rowTile b)
     let key : Nat → Nat := fun n => if h then (if (fmt.read (lane o.w x n)).isNan then 2 ^ o.w else lane o.w x n % 2 ^ (o.w - 1)) else (sg o.w (lane o.w x n)).natAbs
     (h = true → o.fmt = some fmt) → readVSrc s s.cur o.w h a = .ok (c1, x) → readVSrc s c1 o.w false b = .ok (c2, y) →
     writeVDst s c2 d 4 (rowOf o.w fun n =>
       if ((List.range (4096 / o.w)).filter fun k => key n < key k ∨ (key k = key n ∧ k < n)).length < lane o.w y 0 then 2 ^ o.w - 1 else 0) = .ok c3 →
     exec (.vtopk g d a b h) s = .next (s.setCtx s.iss.ctx c3)) ∧
  ((∀ (s : State) (g : Guard) (d : VDst) (a : VSrc) (f u : Bool) (r : Rnd) (c1 c2 : Context) (x : Row), GuardOn s g →
     let w := (opWidth s.cur (dTile d) (sTile a) noS2).w
     let fmt := if w = 32 then fp32 else if f then fp16 else bf16
     (w = 64 → exec (.vcvtfi g d a f u r) s = .next (s.takeTrap s.iss.ctx ⟨0x0A, 0, 0, none⟩ s.iss.slot s.iss.caddr) ∧
       exec (.vcvtif g d a f u r) s = .next (s.takeTrap s.iss.ctx ⟨0x0A, 0, 0, none⟩ s.iss.slot s.iss.caddr)) ∧
     (w ≠ 64 → readVSrc s s.cur w true a = .ok (c1, x) →
       let v := fun n => fToInt fmt (rcOf s c1 r n) w u (lane w x n)
       writeVDst s c1 d 4 (rowOf w fun n => (v n).1) (orFlags (4096 / w) fun n => (v n).2) = .ok c2 → exec (.vcvtfi g d a f u r) s = .next (s.setCtx s.iss.ctx c2)) ∧
     (w ≠ 64 → readVSrc s s.cur w false a = .ok (c1, x) →
       let v := fun n => intToF fmt (rcOf s c1 r n) (if u then (lane w x n : Int) else sg w (lane w x n))
       writeVDst s c1 d 4 (rowOf w fun n => (v n).1) (orFlags (4096 / w) fun n => (v n).2) = .ok c2 → exec (.vcvtif g d a f u r) s = .next (s.setCtx s.iss.ctx c2))) ∧
   (∀ (s : State) (g : Guard) (d : VReg) (a : VSrc) (k : Code4) (h u sat : Bool) (r : Rnd) (c1 : Context) (x old : Row), GuardOn s g → k.val < 4 → readV s c1 d = .ok old →
     (k.val < 2 → readVSrc s s.cur 32 true a = .ok (c1, x) →
       let v := fun n => fCvt fp32 (if k.val = 0 then bf16 else fp16) (rcOf s c1 r (h.toNat * 128 + n)) (lane 32 x n)
       ∃ c2, exec (.vcvtff g (.v d) a k h r) s = .next (s.setCtx s.iss.ctx c2) ∧ MergedLanes s c1 d 4 16 (h.toNat * 128) 128 (fun n => (v n).1) (orFlags 128 fun n => (v n).2) c2) ∧
     (k.val % 2 = 0 →
       let wide := if k.val < 2 then 32 else 64
       let e : Nat → Int := fun n => if u then (lane wide x n : Int) else sg wide (lane wide x n)
       readVSrc s s.cur wide false a = .ok (c1, x) →
       ∃ c2, exec (.vcvtii g (.v d) a k h u sat) s = .next (s.setCtx s.iss.ctx c2) ∧
         MergedLanes s c1 d 2 (wide / 2) (h.toNat * (4096 / wide)) (4096 / wide) (fun n => (satFitU sat u).lane (wide / 2) (e n)) ((satFitU sat u).flags (wide / 2) (4096 / wide) e) c2) ∧
     (readVSrc s s.cur 32 false a = .ok (c1, x) →
       let e : Nat → Int := fun n => sg 32 (lane 32 x n)
       ∃ c2, exec (.vpack g d a k u sat) s = .next (s.setCtx s.iss.ctx c2) ∧
         MergedLanes s c1 d 2 8 (128 * k.val) 128 (fun n => (satFitU sat u).lane 8 (e n)) ((satFitU sat u).flags 8 128 e) c2) ∧
     (readVSrc s s.cur 32 true a = .ok (c1, x) →
       let v := fun n => fCvt fp32 (if u then e5m2 else e4m3) (rcOf s c1 r (128 * k.val + n)) (lane 32 x n)
       ∃ c2, exec (.vcvt8 g d a k u r) s = .next (s.setCtx s.iss.ctx c2) ∧ MergedLanes s c1 d 4 8 (128 * k.val) 128 (fun n => (v n).1) (orFlags 128 fun n => (v n).2) c2)) ∧
   ∀ (s : State) (g : Guard) (d : VDst) (a : VSrc) (k : Code4) (h u : Bool) (r : Rnd) (c1 c2 : Context) (x : Row), GuardOn s g → k.val < 4 →
     (2 ≤ k.val → readVSrc s s.cur 16 true a = .ok (c1, x) →
       let v := fun n => fCvt (if k.val = 2 then bf16 else fp16) fp32 .rne (lane 16 x (h.toNat * 128 + n))
       writeVDst s c1 d 4 (rowOf 32 fun n => (v n).1) (orFlags 128 fun n => (v n).2) = .ok c2 → exec (.vcvtff g d a k h r) s = .next (s.setCtx s.iss.ctx c2)) ∧
     (∀ sat, k.val % 2 = 1 →
       let wide := if k.val < 2 then 32 else 64
       let e : Nat → Int := fun n => if u then (lane (wide / 2) x (h.toNat * (4096 / wide) + n) : Int) else sg (wide / 2) (lane (wide / 2) x (h.toNat * (4096 / wide) + n))
       readVSrc s s.cur (wide / 2) false a = .ok (c1, x) → writeVDst s c1 d 2 (rowOf wide fun n => Fit.wraps.lane wide (e n)) = .ok c2 →
       exec (.vcvtii g d a k h u sat) s = .next (s.setCtx s.iss.ctx c2)) ∧
     (readVSrc s s.cur 8 false a = .ok (c1, x) →
       writeVDst s c1 d 2 (rowOf 32 fun n => if u then lane 8 x (128 * k.val + n) else Fit.wraps.lane 32 (sg 8 (lane 8 x (128 * k.val + n)))) = .ok c2 →
       exec (.vunpack g d a k u) s = .next (s.setCtx s.iss.ctx c2)) ∧
     (readVSrc s s.cur 8 true a = .ok (c1, x) →
       let v := fun n => fCvt (if u then e5m2 else e4m3) fp32 .rne (lane 8 x (128 * k.val + n))
       writeVDst s c1 d 4 (rowOf 32 fun n => (v n).1) (orFlags 128 fun n => (v n).2) = .ok c2 → exec (.vcvt8w g d a k u) s = .next (s.setCtx s.iss.ctx c2)))

namespace Sys2Proof.Stated

/-- The value of a dyadic number. -/
def dyVal (m e : Int) : ℚ := (m : ℚ) * (2 : ℚ) ^ e

/-- One operand of a slice of n elements (R192, R196): sign plane first, then four magnitude planes, then the check word. -/
def sliceOp (n : Nat) (e : List Byte) (i : Nat) : Int :=
  if i < n then
    let m : Nat := ((List.range 4).map fun p => if (ofBytes e).testBit (n * (p + 1) + i) then 2 ^ p else 0).sum
    if (ofBytes e).testBit i then -(m : Int) else m
  else (BitVec.ofNat 64 (ofBytes e / 2 ^ (5 * n))).toInt

/-- Cell (i, j) of a set. -/
def ArrayCell (t : ArraySet) (i j : Nat) : Int := (((t.acc.getD i (.replicate 129 0)).getD j 0).toNat : Int)

/-- The parity bits of row i agree with its accumulators (R194). -/
def RowParity (t : ArraySet) (i : Nat) : Prop :=
  ∀ j, j < 129 → (t.parity.getD i 0).getLsbD j = decide (((List.range 32).filter fun k => ((t.acc.getD i (.replicate 129 0)).getD j 0).getLsbD k).length % 2 = 1)

/-- The beats (R197): streams, whether old accumulators are read, and the new accumulator before its reduction. -/
def beat : Instr → Option (SReg × SReg × Bool × (Int → Int → Int))
  | .mpush w sa sb => some (sa, sb, false, fun _ p => p * 2 ^ (4 * w.val))
  | .macc w sa sb => some (sa, sb, true, fun a p => a + p * 2 ^ (4 * w.val))
  | .mshift sa sb => some (sa, sb, true, fun a p => a * 16 + p)
  | _ => none

/-- The sum of words modulo 2^32. -/
def wordSum (n : Nat) (f : Nat → Nat) : Nat := ((List.range n).map f).sum % 2 ^ 32

/-- The row check of the draining set (R203). -/
def RowCheck (t : ArraySet) (i : Nat) : Prop :=
  RowParity t i ∧ (wordSum 128 fun j => (ArrayCell t i j).toNat) = (ArrayCell t i 128).toNat

/-- c(x) of a 32-bit column for the exact types (R207). -/
def colValue (ty : TileType) (x : Nat) : Int :=
  match ty with
  | .i16 => sg 16 (x % 65536) + sg 16 (x / 65536)
  | .bf16 => ((x % 65536 + x / 65536 : Nat) : Int)
  | .fp16 => ((x % 65536 + x / 65536 : Nat) : Int)
  | _ => x

/-- Element (i, j) of a tile viewed as 32-bit columns. -/
def element (t : Tile) (i j : Nat) : Nat := lane 32 (t.rows.getD i 0) j

/-- The sums of a tile of an exact type recomputed from its data (R207). -/
def ExactSums (ty : TileType) (t : Tile) (col row : Nat → Int) (corner : Int) : Prop :=
  (∀ j, j < 128 → col j = ((List.range 64).map fun i => colValue ty (element t i j)).sum % 2 ^ 32) ∧
  (∀ i, i < 64 → row i = ((List.range 128).map fun j => colValue ty (element t i j)).sum % 2 ^ 32) ∧
  corner = ((List.range 64).map fun i => ((List.range 128).map fun j => colValue ty (element t i j)).sum).sum % 2 ^ 32

/-- The stored sums are those of the data. -/
def SumsAgree (t : Tile) : Prop :=
  ExactSums t.ty t (fun j => lane 32 t.colsum j) (fun i => ((t.rowsum.getD i 0).toNat : Int)) t.corner.toNat

end Sys2Proof.Stated

/-- R196, R197: a beat takes one slice of each plane stream and acts on every cell of the working set modulo 2^32, with fresh parity, and
MPUSH replaces the special-value records where MACC and MSHIFT add to them; nothing else of the set changes. R198, R199, R197: a beat on a
stream that is not bound as the planes it needs takes the stream-kind fault; more planes than declared take the precision fault; a parity
error under MACC and MSHIFT is a detected data error with check point 3, which comes before those faults (R346). The model's own choices
it rests on: log entry 55. -/
def Obligations.ArrayBeatsAndFaults : Prop :=
  (∀ i sa sb acc f, beat i = some (sa, sb, acc, f) → ∀ (s : State) (ba bb : Binding) (c1 c2 : Context) (ea eb : List Byte),
     s.cur.bind[sa] = some ba → ba.kind = 2 → s.cur.bind[sb] = some bb → bb.kind = 3 →
     popElement s.cur sa ba = .ok (c1, ea) → popElement c1 sb bb = .ok (c2, eb) →
     ba.planes ≤ 4 * (s.cur.w.pa.val + 1) → bb.planes ≤ 4 * (s.cur.w.pb.val + 1) → (acc = true → ∀ k, k < 65 → RowParity s.cur.w.work k) →
     ∃ t : ArraySet, exec i s = .next (s.setCtx s.iss.ctx { c2 with w := { c2.w with work := t } }) ∧
       (∀ k j, k < 65 → j < 129 → ArrayCell t k j = f (ArrayCell s.cur.w.work k j) (sliceOp 64 ea k * sliceOp 128 eb j) % 2 ^ 32) ∧
       (∀ k, k < 65 → RowParity t k) ∧ (t.dmask, t.dcol) = (s.cur.w.work.dmask, s.cur.w.work.dcol) ∧
       t.rowsp = (if acc then s.cur.w.work.rowsp else 0) ||| BitVec.ofNat 64 ba.special ∧
       t.colsp = (if acc then s.cur.w.work.colsp else 0) ||| BitVec.ofNat 128 bb.special) ∧
  (∀ i sa sb acc f, beat i = some (sa, sb, acc, f) → ∀ (s : State),
     let bad : Prop := acc = true ∧ ∃ k, k < 65 ∧ ¬ RowParity s.cur.w.work k
     let ends : Cause → Prop := fun t =>
       (¬ bad → exec i s = .next (s.takeTrap s.iss.ctx t s.iss.slot s.iss.caddr)) ∧
       (bad → exec i s = .next (s.setCtx s.iss.ctx { s.ctx s.iss.ctx with raised := some ⟨0x16, 3, 0, some (s.iss.caddr, s.iss.slot)⟩ }))
     (∀ b, s.cur.bind[sa] = none ∨ (s.cur.bind[sa] = some b ∧ b.kind ≠ 2) → ends ⟨0x0B, sa.val, 0, none⟩) ∧
     (∀ ba b, s.cur.bind[sa] = some ba → ba.kind = 2 → s.cur.bind[sb] = none ∨ (s.cur.bind[sb] = some b ∧ b.kind ≠ 3) →
       ends ⟨0x0B, sb.val, 0, none⟩) ∧
     ∀ (ba bb : Binding) (c1 c2 : Context) (ea eb : List Byte), s.cur.bind[sa] = some ba → ba.kind = 2 → s.cur.bind[sb] = some bb → bb.kind = 3 →
       popElement s.cur sa ba = .ok (c1, ea) → popElement c1 sb bb = .ok (c2, eb) →
       (4 * (s.cur.w.pa.val + 1) < ba.planes ∨ 4 * (s.cur.w.pb.val + 1) < bb.planes → ends ⟨0x0E, 0, 0, none⟩) ∧
       (bad → exec i s = .next (s.setCtx s.iss.ctx { s.ctx s.iss.ctx with raised := some ⟨0x16, 3, 0, some (s.iss.caddr, s.iss.slot)⟩ })))

/-- R202, R60: MCLR zeroes the set it names with all its records; MSWAP exchanges the sets and clears DMASK and DCOL of the new draining
set; MCFG declares the planes; the no-operations of all six slots change nothing. -/
def Obligations.ArraySetOperations : Prop :=
  ∀ s : State,
    (exec (.mclr false) s = .next (s.setCtx s.iss.ctx { s.cur with w := { s.cur.w with work := .zero } }) ∧
      exec (.mclr true) s = .next (s.setCtx s.iss.ctx { s.cur with w := { s.cur.w with drain := .zero } }) ∧
      (∀ i j, ArrayCell .zero i j = 0) ∧ (ArraySet.zero.rowsp, ArraySet.zero.colsp, ArraySet.zero.dmask) = (0, 0, 0) ∧ (∀ j : Fin 129, ArraySet.zero.dcol[j] = 0)) ∧
    (∃ c : Context, exec .mswap s = .next (s.setCtx s.iss.ctx c) ∧ c = { s.cur with w := { s.cur.w with work := c.w.work, drain := c.w.drain } } ∧
      c.w.work = s.cur.w.drain ∧ (c.w.drain.acc, c.w.drain.parity, c.w.drain.rowsp, c.w.drain.colsp) =
        (s.cur.w.work.acc, s.cur.w.work.parity, s.cur.w.work.rowsp, s.cur.w.work.colsp) ∧
      c.w.drain.dmask = 0 ∧ ∀ j : Fin 129, c.w.drain.dcol[j] = 0) ∧
    (∀ pa pb : Fin 4, exec (.mcfg (Fin.castLE (by decide) pa) (Fin.castLE (by decide) pb)) s =
      .next (s.setCtx s.iss.ctx { s.cur with w := { s.cur.w with pa := pa, pb := pb } })) ∧
    ∀ i ∈ [Instr.bnop, .snop, .anop, .vnop, .mnop, .xnop], exec i s = .next (s.setCtx s.iss.ctx s.cur)

/-- R203, R204: MDRAIN of a row that passes its checks, into a T0 of type I32: the lanes with a special mark become the canonical NaN, the
others the accumulators, landing after two issues; the row is added once to the drained sums; NV when any lane is marked. The model's own
choices it rests on: log entry 55. -/
def Obligations.ArrayDrain : Prop :=
  ∀ (s : State) (arow t : Row64),
    let d := s.cur.w.drain
    let last := (∀ k : Fin 64, k ≠ arow → d.dmask.getLsbD k.val = true) ∧ d.dmask.getLsbD arow.val = false
    let sum : Nat → Nat := fun j => (((d.dcol.getD j 0).toNat : Int) + ArrayCell d arow.val j).toNat % 2 ^ 32
    let marked : Nat → Bool := fun j => d.rowsp.getLsbD arow.val || d.colsp.getLsbD j
    (RowCheck d arow.val → (last → ∀ j, j < 129 → (sum j : Int) = ArrayCell d 64 j) → s.cur.w.t0.ty = .i32 →
      ∃ (d1 : ArraySet) (row : Row) (marks : BitVec 128),
        exec (.mdrain arow t) s = .next (s.setCtx s.iss.ctx (({ s.cur with w := { s.cur.w with drain := d1 } } : Context).flyAdd s 2
          ([.drained t row marks] ++ if (List.range 128).any marked then [.flags flNV] else []))) ∧
        (∀ j, j < 128 → lane 32 row j = (if marked j then 0x7FC00000 else (ArrayCell d arow.val j).toNat) ∧ marks.getLsbD j = marked j) ∧
        { d1 with dmask := d.dmask, dcol := d.dcol } = d ∧
        (∀ k : Fin 64, d1.dmask.getLsbD k.val = (d.dmask.getLsbD k.val || decide (k = arow))) ∧
        ∀ j : Fin 129, (d1.dcol[j]).toNat = if d.dmask.getLsbD arow.val then (d.dcol[j]).toNat else sum j.val) ∧
    (¬ RowCheck d arow.val ∨ (last ∧ ∃ j, j < 129 ∧ (sum j : Int) ≠ ArrayCell d 64 j) →
      exec (.mdrain arow t) s = .next (s.setCtx s.iss.ctx { s.ctx s.iss.ctx with raised := some ⟨0x16, 0, 0, some (s.iss.caddr, s.iss.slot)⟩ })) ∧
    (RowCheck d arow.val → (last → ∀ j, j < 129 → (sum j : Int) = ArrayCell d 64 j) → s.cur.w.t0.ty ≠ .i32 →
      exec (.mdrain arow t) s = .next (s.takeTrap s.iss.ctx ⟨0x0A, 0, 0, none⟩ s.iss.slot s.iss.caddr))

/-- R167, R207: a write into a row of a tile of an exact type keeps every stored sum in agreement with the data, whatever lanes it writes.
R188 to R190: VCSUM replaces the stored sums by the recomputed ones at its issue, or writes sums to a row; VCCHK and TCFG are compared
when their latency of two issues has passed. The model's own choices it rests on: log entries 4, 51, 169. -/
def Obligations.TileSumsFollowTheData : Prop :=
  (∀ (t : Tile) (r : Fin 64) (mask x : Row), t.ty ≠ .f32a → SumsAgree t → SumsAgree (t.write r.val mask x) ∧
     (t.write r.val mask x).rows.getD r.val 0 = (t.rows.getD r.val 0 &&& ~~~mask) ||| (x &&& mask) ∧
     ∀ k : Fin 64, k ≠ r → (t.write r.val mask x).rows.getD k.val 0 = t.rows.getD k.val 0) ∧
  (∀ (s : State) (g : Guard) (t : TileNo), GuardOn s g →
     let tile := if t = 0 then s.cur.w.t0 else s.cur.w.t1
     (∃ tile' : Tile, exec (.vcsum g t) s = .next (s.setCtx s.iss.ctx { s.cur with w :=
         if t = 0 then { s.cur.w with t0 := tile' } else { s.cur.w with t1 := tile' } }) ∧
       (tile'.ty, tile'.rows, tile'.mark) = (tile.ty, tile.rows, tile.mark) ∧ (tile.ty ≠ .f32a → SumsAgree tile')) ∧
     (∀ (d : VDst) (sel : Code4) (c1 : Context) (row : Row) (col rs : Nat → Int) (co : Int), sel.val < 3 → tile.ty ≠ .f32a →
       ExactSums tile.ty tile col rs co →
       (∀ j, j < 128 → (lane 32 row j : Int) = match sel.val with
         | 0 => col j
         | 1 => if j < 64 then rs j else if j = 64 then co else 0
         | _ => if j < 64 then ((tile.rowsum.getD j 0).toNat : Int) else if j = 64 then (tile.corner.toNat : Int) else 0) →
       writeVDst s s.cur d 2 row = .ok c1 → exec (.vcsumRow g d t sel) s = .next (s.setCtx s.iss.ctx c1)) ∧
     exec (.vcchk g t) s = .next (s.setCtx s.iss.ctx (s.cur.flyAdd s 2 [.check t s.cur.w.tole none])) ∧
     ∀ ty, exec (.tcfg g t ty) s = .next (s.setCtx s.iss.ctx (s.cur.flyAdd s 2 [.check t s.cur.w.tole (some ty)])))

/-- R208: the outcomes of a tile check on an exact type: agreement; one stored sum wrong alone; a single wrong element of an I32 or F32
tile; the same pattern in another type, or any other, is a detected data error. -/
def Obligations.TileCheckOutcomes : Prop :=
  ∀ (t : Tile) (tole : BitVec 8) (col row : Nat → Int) (corner : Int), t.ty ≠ .f32a → ExactSums t.ty t col row corner →
    let dc : Nat → Int := fun j => (col j - lane 32 t.colsum j) % 2 ^ 32
    let dr : Nat → Int := fun i => (row i - (t.rowsum.getD i 0).toNat) % 2 ^ 32
    let dz : Int := (corner - t.corner.toNat) % 2 ^ 32
    let noCol := ∀ j, j < 128 → dc j = 0
    let noRow := ∀ i, i < 64 → dr i = 0
    (noCol → noRow → dz = 0 → t.check tole = .ok) ∧
    (∀ j, j < 128 → dc j ≠ 0 → (∀ k, k < 128 → k ≠ j → dc k = 0) → noRow → dz = 0 → t.check tole = .sums [(j, (col j).toNat)] [] none) ∧
    (∀ i, i < 64 → dr i ≠ 0 → (∀ k, k < 64 → k ≠ i → dr k = 0) → noCol → dz = 0 → t.check tole = .sums [] [(i, (row i).toNat)] none) ∧
    (noCol → noRow → dz ≠ 0 → t.check tole = .sums [] [] (some corner.toNat)) ∧
    (∀ i j, i < 64 → j < 128 → dz ≠ 0 → dc j = dz → dr i = dz → (∀ k, k < 128 → k ≠ j → dc k = 0) → (∀ k, k < 64 → k ≠ i → dr k = 0) →
      t.check tole = if t.ty = .i32 ∨ t.ty = .f32 then .element i j (((element t i j : Int) - dz) % 2 ^ 32).toNat else .dataErr) ∧
    (∀ j k, j < 128 → k < 128 → j ≠ k → dc j ≠ 0 → dc k ≠ 0 → t.check tole = .dataErr) ∧
    ∀ i k, i < 64 → k < 64 → i ≠ k → dr i ≠ 0 → dr k ≠ 0 → t.check tole = .dataErr

/-- R179, R180: VQNQ4 and VDQNQ4 read and write the layout of two NQ4 blocks; the exponent that VQNQ4 chooses for a block is the least
that holds its largest magnitude. R187: VSCACC adds p·2^e to each lane of a T1 row with one rounding, a marked or NaN lane gives the
canonical NaN, an infinity stays; on another type it takes the element-type fault. The model's own choices it rests on: log entries 35,
171. -/
def Obligations.BlockFloatResults : Prop :=
  ((∀ (s : State) (g : Guard) (d : VDst) (a : VSrc) (ty : Code4) (r : Rnd) (c1 c2 : Context) (x out : Row), ty.val < 4 → GuardOn s g →
     let q := fun b => nq4Quant ty.val (fun i => rcOf s c1 r (64 * b + i)) ((List.range 64).map fun k => lane 32 x (64 * b + k))
     readVSrc s s.cur 32 true a = .ok (c1, x) →
     (∀ j, j < 128 → lane 4 out j = ((q (j / 64)).1.getD (j % 64) 0) % 16) →
     (∀ b, b < 512 - 64 → lane 8 out (64 + b) = if b < 2 then ty.val * 64 + (q b).2.1 else 0) →
     writeVDst s c1 d 4 out ((q 0).2.2 ||| (q 1).2.2) = .ok c2 → exec (.vqnq4 g d a ty r) s = .next (s.setCtx s.iss.ctx c2)) ∧
   (∀ (ty : Nat) (fin : List (Nat × Int)), ty < 4 → (∀ v ∈ fin, 0 < v.1) →
     let fits : Nat → Prop := fun X => ∀ v ∈ fin, dyVal v.1 v.2 ≤ dyVal (nq4Max ty) ((X : Int) - 32 + nq4Off ty)
     nq4X ty fin ≤ 63 ∧ (fin = [] → (nq4X ty fin : Int) = 32 - nq4Off ty) ∧
     (fin ≠ [] → (∃ X ≤ 63, fits X) → fits (nq4X ty fin)) ∧ (fin ≠ [] → ∀ X, X < nq4X ty fin → ¬ fits X)) ∧
   ∀ (s : State) (g : Guard) (d : VDst) (a : VSrc) (c1 c2 : Context) (x : Row), GuardOn s g →
     readVSrc s s.cur 32 true a = .ok (c1, x) →
     writeVDst s c1 d 4 (rowOf 32 fun j =>
       let sb := lane 8 x (64 + j / 64)
       (roundNum fp32 .rne false (nq4Q (sb / 64) (lane 4 x j)) ((sb % 64 : Nat) - 32 + nq4Off (sb / 64))).1) = .ok c2 →
     exec (.vdqnq4 g d a) s = .next (s.setCtx s.iss.ctx c2)) ∧
  ((∀ (s : State) (g : Guard) (d a : VReg) (b : VSrc) (ga : GReg) (c1 : Context) (x y old : Row) (ea : W64), GuardOn s g → a.val < 64 →
     let ty := s.cur.w.t1.ty
     (ty ≠ .f32 → ty ≠ .f32a → exec (.vscacc g d a b ga) s = .next (s.takeTrap s.iss.ctx ⟨0x0A, 0, 0, none⟩ s.iss.slot s.iss.caddr)) ∧
     (ty = .f32 ∨ ty = .f32a → readV s s.cur a = .ok x → readVSrc s s.cur 32 false b = .ok (c1, y) → readG s c1 ga = .ok ea → readV s c1 d = .ok old →
       let mark := s.cur.w.t0.mark.getD a.val 0
       let e : Nat → Int := fun j => sg 16 (ea.toNat % 65536) + sg 32 (lane 32 y j)
       let v := fun j => scaccLane (mark.getLsbD j) (sg 32 (lane 32 x j)) (e j) (lane 32 old j)
       let row := rowOf 32 fun j => (v j).1
       let fl := orFlags 128 fun j => (v j).2.1
       exec (.vscacc g d a b ga) s = .next (s.setCtx s.iss.ctx (c1.flyAdd s 4
         ([.vscacc d row ((List.range 128).map fun j => (v j).2.2),
           .vlatch (vlatchOf s.iss.slot d.val) row] ++ if fl = 0 then [] else [.flags fl]))))) ∧
   ∀ (mark : Bool) (p e : Int) (acc : Nat),
     (mark = true ∨ (fp32.read acc).isNan = true → (scaccLane mark p e acc).1 = 0x7FC00000 ∧
       (scaccLane mark p e acc).2.1 = if (fp32.read acc).isSnan then flNV else 0) ∧
     (∀ neg, mark = false → fp32.read acc = .inf neg → (scaccLane mark p e acc).1 = acc ∧ (scaccLane mark p e acc).2.1 = 0) ∧
     (mark = false → (fp32.read acc).isNan = false → (∀ neg, fp32.read acc ≠ .inf neg) → -600 ≤ e → e ≤ 600 →
       ((scaccLane mark p e acc).1, (scaccLane mark p e acc).2.1) =
         fp32.write .rne (fvAdd .rne (fp32.read acc) (if p = 0 then .zero false else .num p e))))

namespace Sys2Proof.Stated

/-- The branches on a condition bit (R117): condition register, bit, sense, whether they annul, and the target. -/
def condBranches : Instr → Option (GReg × BitNo × Bool × Bool × (Off15 ⊕ GReg))
  | .b cr n cs off => some (cr, n, cs, false, .inl off)
  | .bA cr n cs off => some (cr, n, cs, true, .inl off)
  | .br cr n cs tr => some (cr, n, cs, false, .inr tr)
  | .brA cr n cs tr => some (cr, n, cs, true, .inr tr)
  | _ => none

/-- The branches on the lanes of a row (R119). -/
def rowBranches : Instr → Option (VReg × Bool × Bool × Off15)
  | .bvu vr cs off => some (vr, cs, false, off)
  | .bvuA vr cs off => some (vr, cs, true, off)
  | _ => none

/-- The instructions that open a level (R120, R121): trip count from a register or an immediate, end of the body, modulo fields. -/
def loops : Instr → Option ((GReg ⊕ Trip) × Option Off15 × Option (Ii × Sc))
  | .loop tg off => some (.inl tg, some off, none)
  | .loopi n off => some (.inr n, some off, none)
  | .loopm tg ii sc => some (.inl tg, none, some (ii, sc))
  | .loopmi n ii sc => some (.inr n, none, some (ii, sc))
  | _ => none

/-- The address of a code word plus an offset, modulo 2^32. -/
def offTarget (s : State) (off : Off15) : W32 := BitVec.ofInt 32 (s.iss.caddr.toNat + off.toInt)

/-- The bundle with its slots replaced by the trap that its branch slot raises. -/
def trapNow (s : State) (code arg : Nat) : State := s.takeTrap s.iss.ctx ⟨code, arg, 0, none⟩ s.iss.slot s.iss.caddr

/-- The iterations of a level in all: T for an ordinary one, T + SC − 1 for a modulo one (R39, R42). -/
def iterations (l : Level) : Nat :=
  match l.modulo with
  | none => l.trip.toNat
  | some (_, sc) => l.trip.toNat + (sc.val + 1) - 1

/-- A queue entry is the plain bundle at an address. -/
def Plain (e : PcEntry) (x : W32) : Prop := e.addr = x ∧ e.idle = 0

/-- The step that the branch slot's action makes of a context and its kernel. -/
def queueStep (k : Kernel) (c : Context) (a : BrAct) : Arch := (({ c with br := a } : Context).queueAfter k).w

/-- The stride of level number l for an address register. -/
def strideAt (c : Context) (l : Nat) (n : Fin 16) : W32 := c.w.lstride.getD (16 * l + n.val) 0

end Sys2Proof.Stated

/-- R116, R117, R119: the conditional branches read their condition and target at issue; those on a row are taken when every lane agrees
with the sense, and lanes that disagree raise the non-uniform-condition trap (code 0x05). R118, R120 to R125: a call links to the entry
that would follow nnpc and is taken, CALLR to the old value of its register; a loop instruction opens a level unless six are active (trap
0x04); LEXIT acts when its condition holds; EXIT ends the strand; TRAP raises the program trap (code 0x06) with its code. The model's own
choices it rests on: log entries 40, 193. -/
def Obligations.BranchSlotDecisions : Prop :=
  ((∀ i cr n cs annul tgt, condBranches i = some (cr, n, cs, annul, tgt) → ∀ (s : State) (v : W64) (t : W32), readG s s.cur cr = .ok v →
     (match tgt with
       | .inl off => t = offTarget s off
       | .inr tr => ∃ w, readG s s.cur tr = .ok w ∧ t = w.setWidth 32) →
     exec i s = .next (s.setCtx s.iss.ctx { s.cur with br := if v.getLsbD n.val = cs then .taken t tgt.isRight else .notTaken annul })) ∧
   ∀ i vr cs annul off, rowBranches i = some (vr, cs, annul, off) → ∀ (s : State) (x : Row), readV s s.cur vr = .ok x →
     let w : Nat := ttWidth (s.cur.w.tile (if vr.val < 64 then 0 else 1)).ty
     ((∀ j, j < 4096 / w → lane w x j ≠ 0) ∨ (∀ j, j < 4096 / w → lane w x j = 0) →
       exec i s = .next (s.setCtx s.iss.ctx { s.cur with br := if (lane w x 0 != 0) = cs then .taken (offTarget s off) false else .notTaken annul })) ∧
     ((∃ j k, j < 4096 / w ∧ k < 4096 / w ∧ lane w x j ≠ 0 ∧ lane w x k = 0) → exec i s = .next (trapNow s 0x05 0))) ∧
  (∀ s : State,
     let link : W32 := (queueStep (s.kernel s.cur) s.cur .none).nnpc.addr
     (∀ lr off, exec (.call lr off) s = .next (s.setCtx s.iss.ctx
       { s.cur.flyAdd s 1 [.g lr (link.setWidth 64)] with br := .taken (offTarget s off) false })) ∧
     (∀ lr tr w, readG s s.cur tr = .ok w → exec (.callr lr tr) s = .next (s.setCtx s.iss.ctx
       { s.cur.flyAdd s 1 [.g lr (link.setWidth 64)] with br := .taken (w.setWidth 32) true })) ∧
     (∀ i n off m, loops i = some (n, off, m) → ∀ t : W32,
       (match n with
         | .inl tg => ∃ w, readG s s.cur tg = .ok w ∧ t = w.setWidth 32
         | .inr k => t.toNat = k.toNat) →
       (s.cur.w.levels.length < 6 → exec i s = .next (s.setCtx s.iss.ctx
         { s.cur with br := .loop t (match off with | some o => offTarget s o | none => 0) m })) ∧
       (6 ≤ s.cur.w.levels.length → exec i s = .next (trapNow s 0x04 0))) ∧
     (∀ cr n cs v, readG s s.cur cr = .ok v →
       (v.getLsbD n.val = cs → exec (.lexit cr n cs) s = .next (s.setCtx s.iss.ctx { s.cur with br := .lexit })) ∧
       (v.getLsbD n.val ≠ cs → exec (.lexit cr n cs) s = .next (s.setCtx s.iss.ctx s.cur))) ∧
     exec .exit s = .next (s.setCtx s.iss.ctx { s.cur with br := .exit }) ∧
     ∀ code, exec (.trap code) s = .next (trapNow s 0x06 code.toNat))

/-- R33, R34, R35: with no active level, an issue moves npc and nnpc up and puts the branch target, or the code stream's next entry, at
nnpc; an annulling branch that is not taken marks both delay slots. The next entry follows from the code word alone. -/
def Obligations.QueueMoves : Prop :=
  ∀ (k : Kernel) (c : Context), c.w.levels = [] →
    let npc := c.w.npc
    let nnpc := c.w.nnpc
    (queueStep k c .none = { c.w with pc := npc, npc := nnpc, nnpc := k.next nnpc }) ∧
    (∀ t v, queueStep k c (.taken t v) = { c.w with pc := npc, npc := nnpc, nnpc := ⟨t, 0, false, v⟩ }) ∧
    (∀ an, queueStep k c (.notTaken an) =
      { c.w with pc := { npc with annul := npc.annul || an }, npc := { nnpc with annul := nnpc.annul || an }, nnpc := k.next nnpc }) ∧
    ∀ (e : PcEntry) (d : W32), d = (match k.code[e.addr.toNat]? with
        | some w => if w = 0xFFFF then 25 else if w = 0xFFFE then (if e.idle.toNat < ((k.code[e.addr.toNat + 1]?).getD 0).toNat then 0 else 2) else 1
        | none => 1) →
      k.next e = ⟨e.addr + d, if d = 0 then e.idle + 1 else 0, false, false⟩

/-- R38, R120, R121: a level opens innermost, at iteration 0, with the first body bundle after the second delay slot and the last where
the instruction says, or II − 1 further on; the first body bundle enters nnpc. A trip count of 0 opens none and goes on after the body.
R40: a taken branch closes every level whose body its target leaves, with every level inside it, and applies no stride. R122: LEXIT lowers
the trip count of the innermost level to one iteration more than those gone, or to two when the loop-back of this iteration is already
fixed because its last bundle stands in the queue; with no level it has no effect. The model's own choices it rests on: log entries 42,
43, 161. -/
def Obligations.LevelsOpenAndClose : Prop :=
  (∀ (k : Kernel) (c : Context) (t stop : W32) (m : Option (Ii × Sc)),
     (∀ l ∈ c.w.levels, c.w.pc.addr ≠ l.stop) →
     let first := (k.next c.w.nnpc).addr
     let last : W32 := match m with
       | some (ii, _) => BitVec.ofNat 32 (first.toNat + (ii.toNat + 1) - 1)
       | none => stop
     let w := queueStep k c (.loop t stop m)
     w.pc = c.w.npc ∧ w.npc = c.w.nnpc ∧
     (t ≠ 0 → w.levels = c.w.levels ++ [⟨t, 0, first, last, m⟩] ∧ w.nnpc = .at first) ∧
     (t = 0 → w.levels = c.w.levels ∧ (c.w.levels = [] → w.nnpc = k.next (.at last)))) ∧
  (∀ (k : Kernel) (c : Context) (t : W32) (v : Bool), (∀ l ∈ c.w.levels, c.w.pc.addr ≠ l.stop) →
     let body : Level → Prop := fun l => l.start.toNat ≤ t.toNat ∧ t.toNat ≤ l.stop.toNat
     let c1 := ({ c with br := .taken t v } : Context).queueAfter k
     c1.strides = (if c.w.pc.idle = 0 then none else c.strides) ∧ c1.w.nnpc = ⟨t, 0, false, v⟩ ∧
     ∃ rest, c.w.levels = c1.w.levels ++ rest ∧ (∀ l ∈ c1.w.levels, body l) ∧ ∀ l, rest.head? = some l → ¬ body l) ∧
  (∀ (c : Context) (outer : List Level) (l : Level),
     (c.w.levels = [] → c.lexitAct = c) ∧
     (c.w.levels = outer ++ [l] →
       let fixed := c.w.pc.addr = l.stop ∨ c.w.npc.addr = l.stop ∨ c.w.nnpc.addr = l.stop
       ∃ t : W32, c.lexitAct = { c with w := { c.w with levels := outer ++ [{ l with trip := t }] } } ∧
         (fixed → t.toNat = min l.trip.toNat (l.iter + 2)) ∧ (¬ fixed → t.toNat = min l.trip.toNat (l.iter + 1))))

/-- R39: at the issue of the last body bundle of the innermost level the iteration goes up, and the level's strides go to all sixteen
address registers, while iterations remain; otherwise its strides are applied once more, the level closes and the next enclosing level, if
it ends there too, is handled in the same issue; a bundle that ends no level changes nothing. R34, R39: the loop-back: when the last body
bundle of the innermost level enters nnpc with iterations left, the next entry is the first body bundle; with none left, it is the code
stream's next. R42: the stage predicates when a modulo level opens and at each loop-back. The model's own choices it rests on: log entry
41. -/
def Obligations.LoopSequencer : Prop :=
  (∀ (c : Context) (outer : List Level) (l : Level), c.w.levels = outer ++ [l] → c.w.pc.idle = 0 →
     let go := c.seqIssue
     let n := outer.length
     (l.stop ≠ c.w.pc.addr → go = { c with strides := none }) ∧
     (l.stop = c.w.pc.addr → l.iter + 1 < iterations l →
       go.w.levels = outer ++ [{ l with iter := l.iter + 1 }] ∧ ∃ st, go.strides = some (st, false) ∧ ∀ j : Fin 16, st[j] = strideAt c n j) ∧
     (l.stop = c.w.pc.addr → iterations l ≤ l.iter + 1 →
       ((outer = [] ∨ ∃ o m, outer = o ++ [m] ∧ m.stop ≠ c.w.pc.addr) →
         go.w.levels = outer ∧ ∃ st, go.strides = some (st, false) ∧ ∀ j : Fin 16, st[j] = strideAt c n j) ∧
       (∀ o m, outer = o ++ [m] → m.stop = c.w.pc.addr →
         let inner := ({ c with w := { c.w with levels := outer } } : Context).seqIssue
         go.w.levels = inner.w.levels ∧ ∃ st st1, go.strides = some (st, false) ∧ inner.strides = some (st1, false) ∧ ∀ j : Fin 16, st[j] = st1[j] + strideAt c n j)) ∧
     { go with w := { go.w with levels := c.w.levels, sp := c.w.sp }, strides := c.strides } = c) ∧
  (∀ (k : Kernel) (c : Context) (outer : List Level) (l : Level), c.w.levels = outer ++ [l] →
     c.w.pc.addr ≠ l.stop → c.w.npc.addr ≠ l.stop → Plain c.w.nnpc l.stop → k.code[l.stop.toNat]? ≠ some 0xFFFE →
     (l.iter + 1 < iterations l → queueStep k c .none = { c.w with pc := c.w.npc, npc := c.w.nnpc, nnpc := .at l.start }) ∧
     (iterations l ≤ l.iter + 1 → (∀ m ∈ outer, m.stop ≠ l.stop) →
       queueStep k c .none = { c.w with pc := c.w.npc, npc := c.w.nnpc, nnpc := k.next c.w.nnpc })) ∧
  (∀ (c : Context) (outer : List Level) (l : Level) (ii : Ii) (sc : Sc), l.modulo = some (ii, sc) →
     (∀ old s, s < 8 → ((l.sp old).getLsbD s = true ↔ 1 ≤ s ∧ s < sc.val + 1 ∧ 0 ≤ (l.iter : Int) - s ∧ (l.iter : Int) - s < l.trip.toNat)) ∧
     (c.w.levels = outer ++ [l] → Plain c.w.pc l.stop → l.iter + 1 < l.trip.toNat + (sc.val + 1) - 1 →
       c.seqIssue.w.sp = Level.sp { l with iter := l.iter + 1 } c.w.sp) ∧
     ∀ (k : Kernel) (t stop : W32), t ≠ 0 → (∀ m ∈ c.w.levels, c.w.pc.addr ≠ m.stop) →
       (queueStep k c (.loop t stop (some (ii, sc)))).sp = Level.sp ⟨t, 0, 0, 0, some (ii, sc)⟩ c.w.sp)

/-- R30, R31, R35, R41, R43: what suppresses every slot of a bundle: annulment, FIRST outside the first iteration, LAST outside the last,
either of them for a level that is not active, a stage whose predicate is 0, and stage 0 of a modulo body after its T iterations; a
suppressed bundle runs no slot. A slot whose guard fails has no effect; one whose guard is pending freezes its bundle. The model's own
choices it rests on: log entry 162. -/
def Obligations.SuppressedSlotsDoNothing : Prop :=
  (∀ (c : Context) (h : Header),
    (c.w.pc.annul = true → suppressed c h = true) ∧
    (c.w.pc.annul = false → h.stage ≠ 0 ∨ (∀ l, c.w.levels.getLast? = some l → l.modulo = none) →
      let stage := h.stage = 0 ∨ c.w.sp.getLsbD h.stage.val = true
      (h.first = false → h.last = false → (suppressed c h = false ↔ stage)) ∧
      (h.first = true ∨ h.last = true → c.w.levels[h.level.val]? = none → suppressed c h = true) ∧
      ∀ l, c.w.levels[h.level.val]? = some l →
        (suppressed c h = false ↔ stage ∧ (h.first = true → l.iter = 0) ∧ (h.last = true → l.iter + 1 = iterations l))) ∧
    ∀ l ii sc, c.w.levels.getLast? = some l → l.modulo = some (ii, sc) → l.start.toNat ≤ c.w.pc.addr.toNat → c.w.pc.addr.toNat ≤ l.stop.toNat →
      h.stage = 0 → l.trip.toNat ≤ l.iter → suppressed c h = true) ∧
  (∀ (s : State) (core : Nat) (c : Context) (raw : Nat) (unit : Bool), suppressed c (Fetched.bundle raw unit).hdr = true →
    (Fetched.bundle raw unit).ckpt = false →
    s.issueBundle core c (.bundle raw unit) none = .ok (({ c with br := .none } : Context).issued (s.kernel c) false c.nextLoad)) ∧
  ∀ (i : Instr) (k : Nat) (g : Guard), (useOf k i).guard = some g → ∀ s : State,
    (GuardOff s g → exec i s = .next (s.setCtx s.iss.ctx s.cur)) ∧
    ∀ h, readG s s.cur g.reg = .error h → exec i s = .next (s.halt s.iss.ctx h s.iss.slot s.iss.caddr)

namespace Sys2Proof.Stated

/-- The global loads (R269): guard, destination, address register, bytes, alignment, acquire, scope, sign extension, allocation. -/
def globalLoads : Instr → Option (Guard × (GReg ⊕ VReg) × GReg × Nat × Nat × Bool × Scope × Bool × Bool)
  | .ldg g d a z acq sc => some (g, .inl d, a, 2 ^ z.val, 2 ^ z.val, acq, sc, true, true)
  | .ldgu g d a z acq sc => some (g, .inl d, a, 2 ^ z.val, 2 ^ z.val, acq, sc, false, true)
  | .ldgnc g d a z acq sc => some (g, .inl d, a, 2 ^ z.val, 2 ^ z.val, acq, sc, false, false)
  | .ldgv g v a acq sc => some (g, .inr v, a, 512, 16, acq, sc, false, true)
  | _ => none

/-- The global stores (R269). -/
def globalStores : Instr → Option (Guard × (GReg ⊕ VReg) × GReg × Nat × Nat × Bool × Scope)
  | .stg g d a z rel sc => some (g, .inl d, a, 2 ^ z.val, 2 ^ z.val, rel, sc)
  | .stgv g v a rel sc => some (g, .inr v, a, 512, 16, rel, sc)
  | _ => none

/-- The atomics (R274): kind, guard, D, S1, whether 64 bits wide, order, scope. -/
def atomics : Instr → Option (AtKind × Guard × GReg × GReg × Bool × Ord4 × Scope)
  | .atadd g d a w o sc => some (.add, g, d, a, w, o, sc)
  | .atmin g d a w o sc => some (.min, g, d, a, w, o, sc)
  | .atmax g d a w o sc => some (.max, g, d, a, w, o, sc)
  | .atminu g d a w o sc => some (.minu, g, d, a, w, o, sc)
  | .atmaxu g d a w o sc => some (.maxu, g, d, a, w, o, sc)
  | .atand g d a w o sc => some (.and, g, d, a, w, o, sc)
  | .ator g d a w o sc => some (.or, g, d, a, w, o, sc)
  | .atxor g d a w o sc => some (.xor, g, d, a, w, o, sc)
  | .atxchg g d a w o sc => some (.xchg, g, d, a, w, o, sc)
  | .atcas g d a w o sc => some (.cas, g, d, a, w, o, sc)
  | .atfadd g d a o sc => some (.fadd, g, d, a, false, o, sc)
  | .atfmax g d a o sc => some (.fmax, g, d, a, false, o, sc)
  | _ => none

/-- The new element value (R274). -/
def atomicNew (k : AtKind) (n m a b : Nat) : Nat :=
  match k with
  | .add => (m + a) % 2 ^ n
  | .min => if sg n m ≤ sg n a then m else a
  | .max => if sg n m ≤ sg n a then a else m
  | .minu => min m a
  | .maxu => max m a
  | .and => m &&& a
  | .or => m ||| a
  | .xor => m ^^^ a
  | .xchg => a
  | .cas => if m = a then b else m
  | .fadd => (fAdd fp32 .rne m a).1
  | .fmax => (fMinMax fp32 true true m a).1

/-- The scope at which a plot's access is performed (R294). -/
def heldScope (s : State) (sc : Scope) : Scope :=
  if sc = .system ∧ s.cur.plot ≠ 0 ∧ (s.plot s.cur.plot).policy.scopelim = true then .tenant else sc

/-- A release at a narrowed scope leaves its mark (R294). -/
def scopeMark (s : State) (rel : Bool) (sc : Scope) : Context :=
  { s.cur with cstat := if rel = true ∧ heldScope s sc ≠ sc then s.cur.cstat ||| 2 else s.cur.cstat }

/-- A load's earlier pending operation after a later one on the same destination (R271). -/
def voided (d : GReg ⊕ VReg) (o : Load) : Load :=
  match d with
  | .inl r => { o with gd := o.gd.filter fun e => decide (e.2 ≠ r ∨ r = 0) }
  | .inr v => { o with vd := if o.vd = some v then none else o.vd }

/-- The byte of the context's latest store to a global address, committed or withheld; an atomic's is known only to memory (R271, R293). -/
def ownStored (c : Context) (a : Nat) : Option Byte :=
  match (c.cq ++ c.buf).reverse.find? fun st => decide (st.space = .hbm ∧ st.addr ≤ a ∧ a < st.addr + st.bytes.length) with
  | some st => if st.at? = none then st.bytes[a - st.addr]? else none
  | none => none

/-- The bundle freezes under a reason of R44. -/
def freezing (s : State) (why : Reason) (on : Option ParkOn) : State :=
  s.setCtx s.iss.ctx ((s.ctx s.iss.ctx).freezeAt why on)

/-- The bundle's slot raises a cause in place of its issue. -/
def trapAt (s : State) (code arg addr : Nat) : State := s.takeTrap s.iss.ctx ⟨code, arg, addr, none⟩ s.iss.slot s.iss.caddr

/-- Every global load and atomic has landed and every access of the interval is translated (R278). -/
def LoadsSettled (s : State) : Prop := (∀ l ∈ s.cur.loads, l.isGlobal = false) ∧ s.translated s.iss.core s.cur = true

/-- Every store of the context, those of its interval once they have been handed over, is performed at a scope (R278, R291, R402, R407). -/
def StoresPerformed (s : State) (sc : Scope) : Prop :=
  (s.cur.handed = false → ∀ st ∈ s.cur.buf, st.space = .spad) ∧ s.cur.cq = [] ∧
  (sc = .module ∨ sc = .tenant ∨ sc = .system → s.seenByAll s.issDie (if s.cur.handed then s.cur.wseq else s.dieSeq s.issDie) = true) ∧
  (sc = .tenant ∨ sc = .system → s.cur.unacked = [])

/-- The updates that a FENCE found when it first reached pc, or all of them where it has not, have been applied in its die (R403). -/
def UpdatesMet (s : State) : Prop :=
  ∀ u ∈ (s.die s.issDie).updates, ∃ l, s.cur.fenceWaits = some l ∧ (u.addr / 128, u.number) ∉ l

/-- A load as it issues (R271). -/
def newLoad (s : State) (k : LoadKind) (gd : List (Nat × GReg)) (vd : Option VReg) (addr size : Nat) (own : List (Option Byte)) (acq : Bool) (sc : Scope)
    (due : Nat) (got : Option (List W64)) : Load :=
  { id := s.cur.nextLoad, kind := k, gd := gd, vd := vd, shGd := [], shVd := none, addr := addr, size := size, dev := [], own := own, acq := acq
    scope := sc, caddr := s.iss.caddr, slot := s.iss.slot, covered := false, due := due, got := got, fail := none }

/-- A global access as it enters the withheld-store buffer, with its number and the remote operations sent before it (R272, R340, R407). -/
def newGlobal (s : State) (addr : Nat) (bytes : List Byte) (at? : Option AtReq) (rel acq : Bool) (sc : Scope) : Store :=
  { space := .hbm, addr := addr, bytes := bytes, dev := [], ents := [], fe := none, stream := none, at? := at?, rel := rel, acq := acq
    scope := sc, caddr := s.iss.caddr, slot := s.iss.slot, after := s.cur.nextLoad, acqAfter := 0, num := s.cur.nextStore, lanes := []
    sent := s.cur.sent }

/-- A scratchpad access as it enters the buffer (R340). -/
def newPad (s : State) (addr : Nat) (bytes : List Byte) (fe : Option (Nat × Nat × Bool)) : Store :=
  { mkStore s addr bytes with fe := fe, num := s.cur.nextStore, sent := s.cur.sent }

/-- The destinations of eight consecutive registers; g0 is never pending. -/
def eightDests (p : Oct) : List (Nat × GReg) := (List.range 8).flatMap fun i => if 8 * p.val + i = 0 then [] else [(i, Fin.ofNat 64 (8 * p.val + i))]

/-- Eight registers from g(8q) on read as a list. -/
def OctIs (s : State) (q : Oct) (d : List W64) : Prop :=
  d.length = 8 ∧ ∀ i, i < 8 → ∃ v, readG s s.cur (Fin.ofNat 64 (8 * q.val + i)) = .ok v ∧ d[i]? = some v

/-- The context with a deferred effect of its bundle's commit. -/
def postponed (s : State) (p : Post) : State := s.setCtx s.iss.ctx { s.cur with post := s.cur.post ++ [p] }

end Sys2Proof.Stated

/-- R269 to R273, R294: a global load marks its destination pending, voids an earlier value for it, and takes each byte of its context's
latest own store; a store is withheld with its data; a misaligned address takes the misaligned-access fault (code 0x07) with its address;
PREFG changes nothing. A read of a pending destination freezes its bundle, or raises the load's own cause. The model's own choices it
rests on: log entries 39, 48, 56. -/
def Obligations.GlobalLoadsAndStores : Prop :=
  (∀ i g d a size al acq sc sgn alloc, globalLoads i = some (g, d, a, size, al, acq, sc, sgn, alloc) → ∀ (s : State) (v : W64), GuardOn s g →
    readG s s.cur a = .ok v →
    (v.toNat % al ≠ 0 → exec i s = .next (trapAt s 0x07 0 v.toNat)) ∧
    (v.toNat % al = 0 → ∃ c1 : Context, exec i s = .next (s.setCtx s.iss.ctx c1) ∧
      c1 = { s.cur with
        nextLoad := s.cur.nextLoad + 1
        loads := s.cur.loads.map (voided d) ++
          [newLoad s (.mem sgn alloc) (match d with | .inl r => if r = 0 then [] else [(0, r)] | .inr _ => [])
            (match d with | .inl _ => none | .inr r => some r) v.toNat size
            ((List.range size).map fun k => ownStored s.cur (v.toNat + k)) acq (heldScope s sc) 0 none] } ∧
      match d with
      | .inl r => r ≠ 0 → ∃ h, readG s c1 r = .error h ∧ (h = .freeze .pending none .nothing ∨ ∃ t, h = .trap t)
      | .inr r => ∃ h, readV s c1 r = .error h ∧ (h = .freeze .pending none .nothing ∨ ∃ t, h = .trap t))) ∧
  (∀ i g d a size al rel sc, globalStores i = some (g, d, a, size, al, rel, sc) → ∀ (s : State) (v : W64) (bs : List Byte), GuardOn s g →
    readG s s.cur a = .ok v →
    (match d with
      | .inl r => ∃ x, readG s s.cur r = .ok x ∧ bs = (List.range size).map fun k => BitVec.ofNat 8 (x.toNat / 2 ^ (8 * k))
      | .inr r => ∃ x, readV s s.cur r = .ok x ∧ bs = bytesOfRow x) →
    (v.toNat % al ≠ 0 → exec i s = .next (trapAt s 0x07 0 v.toNat)) ∧
    (v.toNat % al = 0 → exec i s = .next (s.setCtx s.iss.ctx ((scopeMark s rel sc).withhold
      (newGlobal s v.toNat bs none rel false (heldScope s sc)))))) ∧
  ∀ (s : State) (g : Guard) (a : GReg) (v : W64), GuardOn s g → readG s s.cur a = .ok v → exec (.prefg g a) s = .next (s.setCtx s.iss.ctx s.cur)

/-- R274 to R278, R294: an atomic whose address is aligned and translated with both rights issues, with its request behind the interval's
stores and its old value pending; a misaligned address, a translation fault (ARG 2), a translation still under way and an uncorrectable
error have their own ends; the new element is as the table gives. A FENCE completes exactly when the accesses that its order names have
landed and are performed at its scope; until then its bundle freezes under reason 7. A rerun of R355, whose commit is held back, waits for
no store. The model's own choices it rests on: log entries 37, 64, 73, 177. -/
def Obligations.AtomicsAndFences : Prop :=
  (∀ i k g d a wide ord sc, atomics i = some (k, g, d, a, wide, ord, sc) → ∀ (s : State) (x y z : W64), GuardOn s g →
    readG s s.cur d = .ok x → (k = .cas → readG s s.cur (d + 1) = .ok y) → (k ≠ .cas → y = 0) → readG s s.cur a = .ok z →
    let n : Nat := if wide then 8 else 4
    let acq := ord == .acq || ord == .ar
    let rel := ord == .rel || ord == .ar
    (z.toNat % n ≠ 0 → exec i s = .next (trapAt s 0x07 0 z.toNat)) ∧
    (z.toNat % n = 0 → ∀ code fa, s.trRange s.issDie s.cur.plot true true z.toNat n = .fault code fa → exec i s = .next (trapAt s code 2 fa)) ∧
    (z.toNat % n = 0 → s.trRange s.issDie s.cur.plot true true z.toNat n = .wait →
      exec i s = .next (freezing s .checkpoint (some (.walk z.toNat n)))) ∧
    ∀ ps, z.toNat % n = 0 → s.trRange s.issDie s.cur.plot true true z.toNat n = .ok ps →
      let own := fun b : Nat => ownStored s.cur (z.toNat / 8 * 8 + b)
      ((∃ p ∈ ps, s.ueHit p.1 p.2 = true) → (∃ b, b < 8 ∧ own b = none) → exec i s = .next (trapAt s 0x15 0 z.toNat)) ∧
      ((∀ p ∈ ps, s.ueHit p.1 p.2 = false) ∨ (∀ b, b < 8 → own b ≠ none) → exec i s = .next (s.setCtx s.iss.ctx { scopeMark s rel sc with
        nextLoad := s.cur.nextLoad + 1
        nextStore := s.cur.nextStore + 1
        loads := s.cur.loads.map (voided (.inl d)) ++
          [newLoad s .atomic (if d = 0 then [] else [(0, d)]) none z.toNat n [] acq (heldScope s sc) 0 none]
        buf := s.cur.buf ++ [newGlobal s z.toNat (List.replicate n 0) (some ⟨k, wide, x, y, s.cur.nextLoad⟩) rel acq (heldScope s sc)] }))) ∧
  (∀ (k : AtKind) (n m a b : Nat), n = 32 ∨ n = 64 → m < 2 ^ n → a < 2 ^ n → b < 2 ^ n → k.new n m a b = atomicNew k n m a b) ∧
  ∀ (s : State) (g : Guard) (ord : Ord4) (sc : Scope), GuardOn s g →
    let h := heldScope s sc
    let acq := ord = .acq ∨ ord = .ar
    let rel := ord = .rel ∨ ord = .ar
    let met := LoadsSettled s ∧
      (s.trial = false → (rel → StoresPerformed s h) ∧ (acq → h = .module ∨ h = .tenant ∨ h = .system → UpdatesMet s))
    (met → exec (.fence g ord sc) s = .next (s.setCtx s.iss.ctx (scopeMark s (ord == .rel || ord == .ar) sc))) ∧
    (¬ met → ∃ hand, exec (.fence g ord sc) s = .next (s.halt s.iss.ctx (.freeze .checkpoint none hand) s.iss.slot s.iss.caddr))

/-- R245, R279 to R283, R302, R303: the full-empty instructions on an aligned address in the plot's segments. LDFE and EWAIT wait for a
full granule, STFE for an empty one; LDFE delivers the bytes five issues on or later and may empty the granule at the commit; FESET sets n
granules at the commit, and none with n = 0; FETEST and ETEST read the bit. The model's own choices it rests on: log entries 31, 32. -/
def Obligations.FullEmptyInstructions : Prop :=
  ∀ (s : State) (g : Guard) (q : GReg) (v : W64), GuardOn s g → readG s s.cur q = .ok v →
    let x : W32 := v.setWidth 32
    let full := s.ownFull s.cur x.toNat
    (∀ (p : GReg) (z : Code4) (clear : Bool), PadOk s x (2 ^ z.val) (2 ^ z.val) →
      let w : W64 := BitVec.ofNat 64 (ofBytes (s.spadBytes s.cur x.toNat (2 ^ z.val)))
      (full = false → exec (.ldfe g p q z clear) s = .next (freezing s .fullEmpty (some (.granule x.toNat true)))) ∧
      (full = true → ∃ c1 : Context, exec (.ldfe g p q z clear) s = .next (s.setCtx s.iss.ctx c1) ∧
        { c1 with loads := s.cur.loads, nextLoad := s.cur.nextLoad, buf := s.cur.buf, nextStore := s.cur.nextStore, fly := s.cur.fly
                  ver := s.cur.ver } = s.cur ∧
        c1.loads = s.cur.loads.map (voided (.inl p)) ++
          [newLoad s .ldfe (if p = 0 then [] else [(0, p)]) none x.toNat (2 ^ z.val) [] false .strand 5 (some [w])] ∧
        c1.nextLoad = s.cur.nextLoad + 1 ∧ (s.ue = [] → c1.fly = s.cur.fly) ∧
        (c1.buf, c1.nextStore) = if clear then (s.cur.buf ++ [newPad s x.toNat [] (some (x.toNat - x.toNat % 16, 1, false))], s.cur.nextStore + 1)
          else (s.cur.buf, s.cur.nextStore))) ∧
    (∀ (p : GReg) (z : Code4) (u : W64), PadOk s x (2 ^ z.val) (2 ^ z.val) → readG s s.cur p = .ok u → z.val < 4 →
      (full = true → exec (.stfe g p q z) s = .next (freezing s .fullEmpty (some (.granule x.toNat false)))) ∧
      (full = false → ∃ c1 : Context, exec (.stfe g p q z) s = .next (s.setCtx s.iss.ctx c1) ∧
        c1 = { s.cur with
          buf := s.cur.buf ++ [newPad s x.toNat (lowBytes u (2 ^ z.val)) (some (x.toNat - x.toNat % 16, 1, true))]
          nextStore := s.cur.nextStore + 1, ver := c1.ver })) ∧
    (∀ (p : GReg) (b : Bool) (u : W64), readG s s.cur p = .ok u →
      let n := u.toNat % 65536
      (n = 0 → exec (.feset g p q b) s = .next (s.setCtx s.iss.ctx s.cur)) ∧
      (n ≠ 0 → x.toNat % 16 ≠ 0 → exec (.feset g p q b) s = .next (trapAt s 0x07 0 x.toNat)) ∧
      (n ≠ 0 → x.toNat % 16 = 0 → s.spadOk s.cur.plot s.iss.core x.toNat (16 * n) = false → exec (.feset g p q b) s = .next (trapAt s 0x08 0 x.toNat)) ∧
      (n ≠ 0 → PadOk s x (16 * n) 16 → ∃ c1 : Context, exec (.feset g p q b) s = .next (s.setCtx s.iss.ctx c1) ∧
        c1 = { s.cur with buf := s.cur.buf ++ [newPad s x.toNat [] (some (x.toNat, n, b))], nextStore := s.cur.nextStore + 1, ver := c1.ver })) ∧
    (∀ (p : GReg) (n : BitNo) (i : Instr) (al : Nat), (i = .fetest g p n q ∧ al = 1) ∨ (i = .etest g p n q ∧ al = 16) →
      (PadOk s x 1 al → ∃ c1 : Context, exec i s = .next (s.setCtx s.iss.ctx c1) ∧
        c1 = { s.cur with fly := s.cur.fly ++ [⟨1, s.iss.slot, s.iss.caddr, false, false,
          [.gbit p n full, .latch (latchOf s.iss.slot p.val) (if full then 1 else 0)]⟩], ver := c1.ver }) ∧
      (x.toNat % al ≠ 0 → exec i s = .next (trapAt s 0x07 0 x.toNat))) ∧
    (PadOk s x 16 16 →
      (full = false → exec (.ewait g q) s = .next (freezing s .fullEmpty (some (.granule x.toNat true)))) ∧
      (full = true → ∃ c1 : Context, exec (.ewait g q) s = .next (s.setCtx s.iss.ctx c1) ∧ c1 = { s.cur with ver := c1.ver })) ∧
    ((∀ st ∈ s.cur.buf, st.fe = none) → (∀ b, some b ∈ s.cur.bind.toList → b.kind ≠ 4) → full = s.isFull s.iss.core x.toNat) ∧
    ∀ early st late a n b, s.cur.buf = early ++ [st] ++ late → st.fe = some (a, n, b) → (∀ o ∈ late, o.fe = none) →
      a / 16 ≤ x.toNat / 16 → x.toNat / 16 < a / 16 + n → full = b

/-- R248 to R250, R256: SBIND of a valid descriptor and SUNBIND put the change of binding into the bundle's commit, which sets the
position to its start; a malformed descriptor takes the stream-descriptor fault (code 0x0D) before a misaligned one the misaligned-access
fault and one that leaves the plot's segments the scratchpad range fault. The model's own choices it rests on: log entries 39, 57, 58. -/
def Obligations.StreamBinding : Prop :=
  (∀ (s : State) (g : Guard) (n : SReg) (q : Oct) (d : List W64), GuardOn s g → OctIs s q d →
    let w : Nat → Nat := fun i => (d.getD i 0).toNat
    let kind := w 0 / 2 ^ 60
    let elem := w 0 / 2 ^ 56 % 16
    let nlev := w 0 / 2 ^ 48 % 8
    let base := w 0 % 2 ^ 32
    let plane := kind = 2 ∨ kind = 3
    let b : Binding := ⟨d, 0, none, [], []⟩
    let malformed :=
      w 0 / 2 ^ 51 % 16 ≠ 0 ∨ w 0 / 2 ^ 32 % 2 ^ 14 ≠ 0 ∨ nlev = 0 ∨ nlev = 7 ∨
      (plane ∧ (elem ≠ 0 ∨ (w 0).testBit 55)) ∨ (¬ plane ∧ 4 ≤ elem ∧ elem ≠ 9) ∨
      ((w 0).testBit 55 ∧ (elem = 3 ∨ elem = 9 ∨ kind = 1)) ∨ (kind = 1 ∧ (w 0).testBit 46) ∨
      (∃ l, l < nlev ∧ (w (l + 1) % 2 ^ 32 = 0 ∨ (plane ∧ w (l + 1) / 2 ^ 32 % 16 ≠ 0))) ∨ ∃ l, nlev ≤ l ∧ l < 7 ∧ w (l + 1) ≠ 0
    let misaligned :=
      (plane ∧ base % 64 ≠ 0) ∨ (¬ plane ∧ (base % min (2 ^ elem) 16 ≠ 0 ∨ ∃ l, l < nlev ∧ w (l + 1) / 2 ^ 32 % min (2 ^ elem) 16 ≠ 0))
    (6 ≤ kind → exec (.sbind g n q) s = .next (trapAt s 0x0D n.val 0)) ∧
    (kind < 4 → malformed → exec (.sbind g n q) s = .next (trapAt s 0x0D n.val 0)) ∧
    (kind < 4 → ¬ malformed → misaligned → exec (.sbind g n q) s = .next (trapAt s 0x07 0 base)) ∧
    (kind < 4 → ¬ malformed → ¬ misaligned →
      (s.patternOk s.cur.plot s.iss.core (b.addr 0) b.size b.levels = true → exec (.sbind g n q) s = .next (postponed s (.bind n (some b)))) ∧
      (s.patternOk s.cur.plot s.iss.core (b.addr 0) b.size b.levels = false → exec (.sbind g n q) s = .next (trapAt s 0x08 0 base)) ∧
      (s.spadOk s.cur.plot s.iss.core (b.addr 0) b.size = false → exec (.sbind g n q) s = .next (trapAt s 0x08 0 base))) ∧
    (kind = 4 ∨ kind = 5 → s.spadOk s.cur.plot s.iss.core base 8 = true → base % 8 = 0 → w 0 / 2 ^ 32 % 2 ^ 28 = 0 → w 1 < 2 ^ 16 →
      (∀ i, i < 6 → w (i + 2) = 0) →
      let qcw : Nat := ofBytes (s.mem.read (spadBase s.iss.core + base) 8)
      let depth := qcw / 2 ^ 32 % 65536
      let esz := qcw / 2 ^ 48 % 8
      (qcw / 2 ^ 51 = 0 → esz ≤ 5 → 1 ≤ depth → depth ≤ 49152 → qcw % 2 ^ 32 % 16 = 0 → w 1 < depth →
        (s.spadOk s.cur.plot s.iss.core (qcw % 2 ^ 32) (depth * (16 * 2 ^ esz)) = true →
          exec (.sbind g n q) s = .next (postponed s (.bind n (some { b with qcw := BitVec.ofNat 64 qcw })))) ∧
        (s.spadOk s.cur.plot s.iss.core (qcw % 2 ^ 32) (depth * (16 * 2 ^ esz)) = false →
          exec (.sbind g n q) s = .next (trapAt s 0x08 0 (qcw % 2 ^ 32)))) ∧
      (qcw / 2 ^ 51 ≠ 0 ∨ 5 < esz ∨ depth = 0 ∨ 49152 < depth ∨ qcw % 2 ^ 32 % 16 ≠ 0 ∨ depth ≤ w 1 →
        exec (.sbind g n q) s = .next (trapAt s 0x0D n.val 0)))) ∧
  (∀ (s : State) (g : Guard) (n : SReg), GuardOn s g → exec (.sunbind g n) s = .next (postponed s (.bind n none))) ∧
  ∀ (s : State) (x : Nat) (n : SReg) (b : Option Binding),
    ((s.doPost x (.bind n b)).ctx x).bind = (s.ctx x).bind.set n b ∧ ((s.doPost x (.bind n b)).ctx x).w.spos = (s.ctx x).w.spos.set n 0 ∧
    ((s.doPost x (.bind n b)).ctx x).sh.spos = (s.ctx x).sh.spos.set n 0

/-- R214 to R216: TREG of a region that its checks pass adopts the entry at once, for this context only; its faults come in the order of
the table. TUNREG of an own entry waits for the commit, of a foreign one takes the tile-table fault (code 0x0F), of an invalid one has no
effect; the commit then drops the entry. The model's own choices it rests on: log entry 12. -/
def Obligations.TileRegistration : Prop :=
  (∀ (s : State) (g : Guard) (e : TEntry) (q : Oct) (d : List W64), GuardOn s g → OctIs s q d →
    let w : Nat → Nat := fun i => (d.getD i 0).toNat
    let base := w 0 % 2 ^ 32
    let rows := w 1 % 128
    let cols := w 2 % 256
    let pitch := w 3 % 2 ^ 32
    let area := w 5 % 2 ^ 32
    let misaligned := base % 16 ≠ 0 ∨ pitch % 16 ≠ 0 ∨ area % 16 ≠ 0
    let outside := (rows ≠ 0 ∧ cols ≠ 0 ∧ 786432 < base + (rows - 1) * pitch + 4 * cols) ∨ 786432 < area + 1024
    let limits := 1 ≤ rows ∧ rows ≤ 64 ∧ 1 ≤ cols ∧ cols ≤ 128 ∧ 4 * cols ≤ pitch ∧ w 4 < 7 ∧ (w 4 = 6 → cols % 2 = 0) ∧
      w 0 < 2 ^ 32 ∧ w 1 < 128 ∧ w 2 < 256 ∧ w 3 < 2 ^ 32 ∧ w 5 < 2 ^ 32 ∧ w 6 = 0 ∧ w 7 = 0
    let region : Nat → Prop := fun x => ∃ i k, i < rows ∧ k < 4 * cols ∧ x = base + i * pitch + k
    let areaB : Nat → Prop := fun x => area ≤ x ∧ x < area + 1024
    let covers : TileEntry → Nat → Prop := fun o x => (∃ i k, i < o.rows ∧ k < 4 * o.cols ∧ x = o.base + i * o.pitch + k) ∨ (o.area ≤ x ∧ x < o.area + 1024)
    let others := s.othersTab s.iss.core s.iss.ctx
    let clash := (∃ o ∈ others, o.1 = e.val) ∨ (∃ x, region x ∧ areaB x) ∨
      (∃ o, (o ∈ others ∨ (o ∈ s.cur.w.tt ∧ o.1 ≠ e.val)) ∧ ∃ x, (region x ∨ areaB x) ∧ covers o.2 x)
    (misaligned → ∃ fa, exec (.treg g e q) s = .next (trapAt s 0x07 0 fa)) ∧
    (¬ misaligned → outside → ∃ fa, exec (.treg g e q) s = .next (trapAt s 0x08 0 fa)) ∧
    (¬ misaligned → ¬ outside → ¬ limits ∨ clash → exec (.treg g e q) s = .next (trapAt s 0x0F e.val 0)) ∧
    (¬ misaligned → ¬ outside → limits → ¬ clash → ∃ ty, typeOfCode (w 4) = some ty ∧
      exec (.treg g e q) s = .next (s.setCtx s.iss.ctx { s.cur with w := { s.cur.w with
        tt := s.cur.w.tt.set e.val ⟨base, rows, cols, pitch, ty, area⟩, tun := s.cur.w.tun.filter (· != e.val) } }))) ∧
  (∀ (s : State) (g : Guard) (e : TEntry), GuardOn s g →
    let others := s.othersTab s.iss.core s.iss.ctx
    ((∃ o ∈ others, o.1 = e.val) → exec (.tunreg g e) s = .next (trapAt s 0x0F e.val 0)) ∧
    ((∀ o ∈ others, o.1 ≠ e.val) → (s.cur.w.tt.find e.val).isSome = true →
      exec (.tunreg g e) s = .next (s.setCtx s.iss.ctx { s.cur with w := { s.cur.w with tun := setInsert s.cur.w.tun e.val } })) ∧
    ((∀ o ∈ others, o.1 ≠ e.val) → s.cur.w.tt.find e.val = none → exec (.tunreg g e) s = .next (s.setCtx s.iss.ctx s.cur))) ∧
  ∀ (f : Load → Load) (l : Fin 64) (c : Context) (n : Nat) (t : TileEntry),
    ((n, t) ∈ (c.commitShadow f l).w.tt ↔ (n, t) ∈ c.w.tt ∧ n ∉ c.w.tun) ∧ (c.commitShadow f l).sh = (c.commitShadow f l).w

namespace Sys2Proof.Stated

/-- The engine commands (R297): opcode, guard, descriptor registers, completion register, and what the descriptor asks. -/
def engineCommands : Instr → Option (Nat × Guard × Oct × GReg × (State → List Nat → EngAsk))
  | .ecopy g p q => some (0x1E, g, p, q, fun _ d => copyAsk false d)
  | .emcast g p q => some (0x1F, g, p, q, fun _ d => copyAsk true d)
  | .egather g p q => some (0x20, g, p, q, fun _ d => gatherAsk d)
  | .escatter g p q => some (0x21, g, p, q, fun _ d => gatherAsk d)
  | .eplane g p q => some (0x22, g, p, q, fun _ d => planeAsk d)
  | .efeed g p q => some (0x23, g, p, q, fun s d => ⟨s.feedBad s.cur.plot s.iss.core d, [], []⟩)
  | _ => none

/-- An endpoint of a copy (R298, R304): its SPACE, and its handle and offset where they must be 0 or aligned. -/
def EndpointOk (w : Nat) : Prop :=
  w / 2 ^ 62 < 2 ∧ (w / 2 ^ 62 = 0 → w / 2 ^ 40 % 2 ^ 22 = 0 ∧ w / 2 ^ 32 % 256 = 0) ∧ (w / 2 ^ 62 = 1 → w % 2 ^ 40 % 16 = 0)

/-- A NOTE word (R299). -/
def NoteOk (w : Nat) : Prop := w.testBit 62 = false ∧ (w.testBit 63 = false → w = 0)

/-- A release at a scope may complete: what R278 and R407 make it wait for is done; a bundle whose commit is held back waits for no store
(R355). -/
def ReleaseMet (s : State) (sc : Scope) : Prop := LoadsSettled s ∧ (s.trial = false → StoresPerformed s sc)

/-- The instructions on an object whose range is swapped (R388 to R390): guard, object register, right bit. -/
def objectOps : Instr → Option (Guard × GReg × Nat)
  | .cres g q => some (g, q, 0)
  | .cdrop g q => some (g, q, 2)
  | _ => none

/-- The validity tests of R386 in order, with their status numbers; placement apart. -/
def objectStatus (s : State) (h : ObjHeader) (base right : Nat) : Nat :=
  if h.w0 / 65536 ≠ 0xC0471B0D0001 then 3
  else if h.w3 % 2 ^ 24 ≠ plotId (s.plot s.cur.plot).gen s.cur.plot then 4
  else if h.sealv ≠ s.sealAt s.cur.plot h.objid h.w3 base then 5
  else if ¬ (h.w3.testBit (36 + right) = true ∧ (s.plot s.cur.plot).policy.crights.getLsbD right = true) then 6
  else if h.w2 / 2 ^ 32 % 4 = 1 then 0 else if h.w2 / 2 ^ 32 % 4 = 2 then 1 else if h.w2 / 2 ^ 32 % 4 = 3 then 2 else 3

/-- The trap of a failed status (R386): the double-resume fault for CRES alone, seal, rights and object-state faults. -/
def statusTrap (s : State) (resume : Bool) (right st : Nat) : State :=
  if st = 1 ∧ resume = true then trapAt s 0x18 0 0 else if st = 5 then trapAt s 0x1B 0 0 else if st = 6 then trapAt s 0x1A right 0 else trapAt s 0x19 0 0

/-- BUSY in a block with the right MAGIC (R386). -/
def ObjectBusy (h : ObjHeader) : Prop := h.w0 / 65536 = 0xC0471B0D0001 ∧ h.w2.testBit 34 = true

/-- What an operation on an object meets before its tests (R385, R387 to R390): an aligned address, translated with both rights, the release
met. -/
def ObjectReached (s : State) (a : W64) (ps : List (Nat × Nat)) : Prop :=
  a.toNat % 256 = 0 ∧ s.trRange s.issDie s.cur.plot true true a.toNat 256 = .ok ps ∧ ReleaseMet s .tenant

/-- The same, and no BUSY. -/
def ObjectMet (s : State) (a : W64) (ps : List (Nat × Nat)) : Prop := ObjectReached s a ps ∧ ¬ ObjectBusy (s.headerAt ps)

/-- The destination of a copy of an object with header h at src lies apart from it (R389). -/
def CopyApart (h : ObjHeader) (src dst : Nat) : Prop :=
  (dst + max h.bodylen 256 ≤ src ∨ src + max h.bodylen 256 ≤ dst) ∧
  ∀ k, k ≤ h.gsize → dst + max h.bodylen 256 ≤ ((src : Int) + (h.imageAt k).1).toNat ∨ ((src : Int) + (h.imageAt k).1).toNat + (h.imageAt k).2 ≤ dst

/-- The bundle freezes under reason 7 and begins something. -/
def beginning (s : State) (b : Begins) : State := s.halt s.iss.ctx (.freeze .checkpoint none b) s.iss.slot s.iss.caddr

end Sys2Proof.Stated

/-- R297, R304: an engine command makes its checks in the order of the table and raises the first that fails; when none fails the bundle's
commit empties the completion granule and hands the operation over. What ECOPY's descriptor must hold is stated field by field. The
model's own choices it rests on: log entries 39, 61, 62. -/
def Obligations.EngineCommands : Prop :=
  (∀ (i : Instr) (op : Nat) (g : Guard) (p : Oct) (q : GReg) (ask : State → List Nat → EngAsk), engineCommands i = some (op, g, p, q, ask) → ∀ (s : State) (d : List W64) (v : W64), GuardOn s g → OctIs s p d →
    readG s s.cur q = .ok v →
    let x : W32 := v.setWidth 32
    let e : EngAsk := ask s (d.map BitVec.toNat)
    let qcw : W64 := if op = 0x23 then BitVec.ofNat 64 (ofBytes (s.mem.read (spadBase s.iss.core + (d.getD 0 0).toNat % 2 ^ 32) 8)) else 0
    (x.toNat % 16 ≠ 0 → exec i s = .next (trapAt s 0x07 0 x.toNat)) ∧
    (x.toNat % 16 = 0 → s.spadOk s.cur.plot s.iss.core x.toNat 16 = false → exec i s = .next (trapAt s 0x08 0 x.toNat)) ∧
    (PadOk s x 16 16 →
      (e.bad = true → exec i s = .next (trapAt s 0x10 op 0)) ∧
      (e.bad = false → ∀ (pre : List (Nat × Nat)) (a n : Nat) (post : List (Nat × Nat)), e.aligned = pre ++ [(a, n)] ++ post → (∀ y ∈ pre, y.1 % y.2 = 0) → a % n ≠ 0 →
        exec i s = .next (trapAt s 0x07 0 a)) ∧
      (e.bad = false → (∀ y ∈ e.aligned, y.1 % y.2 = 0) →
        (∀ (pre : List SpadRange) (r : SpadRange) (post : List SpadRange), e.ranges = pre ++ [r] ++ post → (∀ y ∈ pre, s.rangeOk s.cur.plot s.iss.core y = true) →
          s.rangeOk s.cur.plot s.iss.core r = false → exec i s = .next (trapAt s 0x08 0 r.off)) ∧
        ((∀ y ∈ e.ranges, s.rangeOk s.cur.plot s.iss.core y = true) →
          (32 ≤ (s.engines.filter fun o : EngineOp => decide (o.owner = .context s.iss.ctx)).length → exec i s = .next (trapAt s 0x11 0 0)) ∧
          ((s.engines.filter fun o : EngineOp => decide (o.owner = .context s.iss.ctx)).length < 32 →
            exec i s = .next (postponed s (.engine op d x.toNat qcw s.cur.w.tole))))))) ∧
  (∀ d : List Nat, d.length = 8 → (∀ w ∈ d, w < 2 ^ 64) →
    let w : Nat → Nat := fun i => d.getD i 0
    let len := w 2 % 2 ^ 32
    let rows := w 2 / 2 ^ 48 + 1
    ((copyAsk false d).bad = false ↔ EndpointOk (w 0) ∧ EndpointOk (w 1) ∧ w 2 / 2 ^ 32 % 65536 = 0 ∧ len % 16 = 0 ∧ 1 ≤ len ∧ len ≤ 2 ^ 24 ∧
      rows * len ≤ 2 ^ 32 - 16 ∧ w 3 % 2 ^ 32 % 16 = 0 ∧ w 3 / 2 ^ 32 % 16 = 0 ∧ w 4 = 0 ∧ w 5 = 0 ∧ w 6 = 0 ∧ NoteOk (w 7))) ∧
  ∀ (s : State) (x op cpl : Nat) (d : List W64) (qcw : W64) (tole : BitVec 8),
    let t := s.doPost x (.engine op d cpl qcw tole)
    t.isFull (coreOfCtx x) cpl = false ∧ t.nextEngine = s.nextEngine + 1 ∧ ∃ e : EngineOp, t.engines = s.engines ++ [e] ∧
      (e.id, e.op, e.owner, e.plot, e.core, e.desc, e.cpl, e.tole, e.pos) =
        (s.nextEngine, op, .context x, (s.ctx x).plot, coreOfCtx x, d, cpl, tole, 0)

/-- R317, R319 to R322, R233, R455: the queue instructions on a queue that its register names, the work count, the barrier and the message
to the host. A name that is no queue takes the queue fault (code 0x12). QPUSH needs a record whose word 1 is not 0, waits for its release
at module scope and for its base die's answer, and parks when it is refused; in a rerun whose commit is held back it asks nothing (R355).
The model's own choices it rests on: log entries 37, 65, 75, 177. -/
def Obligations.QueueInstructions : Prop :=
  ∀ (s : State) (g : Guard) (q : GReg) (v : W64), GuardOn s g → readG s s.cur q = .ok v →
    let name := s.queueName s.cur.plot v
    (∀ (p : Oct) (d : List W64), OctIs s p d →
      (name = none ∨ d.getD 1 0 = 0 → exec (.qpush g p q) s = .next (trapAt s 0x12 0 0)) ∧
      ∀ n, name = some n → d.getD 1 0 ≠ 0 →
        (¬ ReleaseMet s .module → ∃ b, exec (.qpush g p q) s = .next (beginning s b)) ∧
        (ReleaseMet s .module → s.trial = true → exec (.qpush g p q) s = .next (s.setCtx s.iss.ctx s.cur)) ∧
        (ReleaseMet s .module → s.trial = false → s.iss.answer = false → exec (.qpush g p q) s = .next (freezing s .checkpoint (some (.queue v)))) ∧
        (ReleaseMet s .module → s.trial = false → s.iss.answer = true →
          (s.wouldAccept s.cur.plot n = true → exec (.qpush g p q) s = .next (postponed s (.qpush v d))) ∧
          (s.wouldAccept s.cur.plot n = false → exec (.qpush g p q) s = .next (s.park s.iss.ctx (.queue v))))) ∧
    (∀ p : Oct, let lost : Load → Load := fun o => { o with gd := o.gd.filter fun e => decide (∀ f ∈ eightDests p, f.2 ≠ e.2) }
      (∀ n, name = some (.task n) → exec (.qpop g p q) s = .next (s.setCtx s.iss.ctx { s.cur with
        nextLoad := s.cur.nextLoad + 1
        loads := s.cur.loads.map lost ++
          [newLoad s (.qpop v) (eightDests p) none 0 0 [] true .module 0 none] })) ∧
      ((∀ n, name ≠ some (.task n)) → exec (.qpop g p q) s = .next (trapAt s 0x12 0 0))) ∧
    (∀ p : GReg,
      (∀ n, name = some n → exec (.qlen g p q) s = .next (s.setCtx s.iss.ctx { s.cur with
        nextLoad := s.cur.nextLoad + 1
        loads := s.cur.loads.map (voided (.inl p)) ++
          [newLoad s (.qlen v) (if p = 0 then [] else [(0, p)]) none 0 0 [] false .strand 0 none] })) ∧
      (name = none → exec (.qlen g p q) s = .next (trapAt s 0x12 0 0))) ∧
    (∃ w : W32, exec (.cntadd g q) s = .next (s.setCtx s.iss.ctx { s.cur with w := { s.cur.w with wc := w } }) ∧
      w.toNat = (s.cur.w.wc.toNat + v.toNat) % 2 ^ 32) ∧
    (∀ (d : Dst) (c1 : Context), writeDst s s.cur d 1 (BitVec.ofInt 64 s.cur.w.wc.toInt) = .ok c1 → exec (.cntrd g d) s = .next (s.setCtx s.iss.ctx c1)) ∧
    exec (.gbar g) s = .next (postponed s .gbar) ∧
    let allowed := if s.cur.plot = 0 then 2 ≤ v.toNat ∧ v.toNat ≤ 7 else 3 ≤ v.toNat ∧ v.toNat ≤ 31
    (¬ allowed → exec (.notify g q) s = .next (trapAt s 0x10 0x37 0)) ∧
    (allowed → ReleaseMet s .system → exec (.notify g q) s = .next (postponed s (.notify v.toNat)))

/-- R408, R410 to R413: KBIND takes the route from two registers and keeps what the queues hold; KUNBIND discards the binding and the
words not yet popped; KSTAT delivers the channel's counts; a pop takes words in order and a push appends them, and each freezes when it
cannot. The model's own choices it rests on: log entries 25, 74. -/
def Obligations.ChannelInstructions : Prop :=
  (∀ (s : State) (g : Guard) (n : KReg) (q : EvenReg) (r0 r1 : W64), GuardOn s g → readG s s.cur (Fin.ofNat 64 (2 * q.val)) = .ok r0 →
    readG s s.cur (Fin.ofNat 64 (2 * q.val + 1)) = .ok r1 →
    exec (.kbind g n q) s = .next (s.setCtx s.iss.ctx { s.cur with
      chan := s.cur.chan.set n { route := some (r0, r1), send := (s.cur.chan[n]).send, part := (s.cur.chan[n]).part, recv := (s.cur.chan[n]).recv } })) ∧
  (∀ (s : State) (g : Guard) (n : KReg), GuardOn s g →
    exec (.kunbind g n) s = .next (s.setCtx s.iss.ctx { s.cur with
      chan := s.cur.chan.set n { route := none, send := (s.cur.chan[n]).send, part := (s.cur.chan[n]).part, recv := [] } })) ∧
  (∀ (s : State) (g : Guard) (d : Dst) (n : KReg) (c1 : Context) (v : W64), GuardOn s g →
    let ch := (s.ctx s.iss.ctx).chan[n]
    v.toNat % 256 = ch.recv.length → v.toNat / 2 ^ 8 % 256 = 64 - ch.sendWords → v.toNat / 2 ^ 16 % 2 ^ 16 = (if ch.route.isSome then 1 else 0) →
    v.toNat / 2 ^ 32 % 256 = (s.landedFor s.iss.ctx n).length → v.toNat / 2 ^ 40 = min ((ch.send.head?.map SendPacket.refused).getD 0) 255 →
    writeDst s s.cur d 1 v = .ok c1 → exec (.kstat g d n) s = .next (s.setCtx s.iss.ctx c1)) ∧
  (∀ (c : Context) (k : KReg) (n : Nat) (r : W64 × W64), (c.chan[k]).route = some r →
    ((c.chan[k]).recv.length < n → popChannel c k n = freezeFor .channel (some (.channel k n 0))) ∧
    (n ≤ (c.chan[k]).recv.length → ∃ c1 : Context, popChannel c k n = .ok (c1, (c.chan[k]).recv.take n) ∧
      c1 = { c with chan := c.chan.set k { (c.chan[k]) with recv := (c.chan[k]).recv.drop n }, ver := c1.ver })) ∧
  ∀ (s : State) (c : Context) (k : KReg) (ws : List W64),
    ((c.chan[k]).route = none → popChannel c k ws.length = cause 0x0B (16 + k.val) ∧ pushChannel s c k ws = cause 0x0B (16 + k.val)) ∧
    ∀ r, (c.chan[k]).route = some r → r.1.toNat / 2 ^ 60 = 0 → ws ≠ [] → ws.length ≤ 32 → s.routed c.plot r = true →
      (64 < (c.chan[k]).sendWords + ws.length → pushChannel s c k ws = freezeFor .channel (some (.channel k 0 ws.length))) ∧
      ((c.chan[k]).sendWords + ws.length ≤ 64 → pushChannel s c k ws = .ok { c with
        chan := c.chan.set k { (c.chan[k]) with send := (c.chan[k]).send ++ [⟨0, c.plot, c.gen, c.group, r, ws, false, 0, 0⟩] } })

/-- R385 to R391: the continuation instructions on an object whose address is aligned and translated. CRES and CDROP test the object and
put their effect into the bundle's commit, or raise the fault of the first test that fails; CRES.T answers with a status and never faults
for one; SUSP refuses a genuine runnable object and waits for BUSY and for another member's SUSP; CCOPY also needs a destination apart
from the source, and goes on in steps: BUSY in the source, the wait for its engines, W2 of the destination, the copy; CINFO marks eight
registers pending. A misaligned address takes the misaligned-access fault. The model's own choices it rests on: log entries 70, 76, 77,
79, 178. -/
def Obligations.ContinuationInstructions : Prop :=
  ∀ (s : State) (g : Guard) (q : GReg) (a : W64), GuardOn s g → readG s s.cur q = .ok a →
    (a.toNat % 256 ≠ 0 → ∀ (p : GReg) (o : Oct), ∀ i ∈ [Instr.susp g q, .cres g q, .cresT g p q, .ccopy g p q, .cdrop g q, .cinfo g o q],
      exec i s = .next (trapAt s 0x07 0 a.toNat)) ∧
    (a.toNat % 256 = 0 → ∀ o : Oct, exec (.cinfo g o q) s = .next (s.setCtx s.iss.ctx { s.cur with
      nextLoad := s.cur.nextLoad + 1
      loads := (s.cur.loads.map fun l => { l with gd := l.gd.filter fun e => decide (∀ f ∈ eightDests o, f.2 ≠ e.2) }) ++
        [newLoad s .cinfo (eightDests o) none a.toNat 80 [] true .tenant 0 none] })) ∧
    (∀ ps, ObjectMet s a ps →
      let h := s.headerAt ps
      let cresSt := if objectStatus s h a.toNat 0 = 0 then
        (if ∃ ims, s.objImages s.issDie s.cur.plot a.toNat h = some ims ∧ (s.cresCluster (clusterOf s.iss.core) s.cur.plot ims).isSome = true then 0 else 7)
        else objectStatus s h a.toNat 0
      (cresSt = 0 → exec (.cres g q) s = .next (postponed s (.cres a.toNat))) ∧
      (cresSt ≠ 0 → exec (.cres g q) s = .next (statusTrap s true 0 cresSt)) ∧
      (objectStatus s h a.toNat 2 = 0 → exec (.cdrop g q) s = .next (postponed s (.cdrop a.toNat))) ∧
      (objectStatus s h a.toNat 2 ≠ 0 → exec (.cdrop g q) s = .next (statusTrap s false 2 (objectStatus s h a.toNat 2))) ∧
      (∀ p : GReg, ∃ c1 : Context, exec (.cresT g p q) s = .next (s.setCtx s.iss.ctx c1) ∧ c1 = { s.cur with
        nextLoad := s.cur.nextLoad + 1
        loads := s.cur.loads.map (voided (.inl p)) ++
          [newLoad s .status (if p = 0 then [] else [(0, p)]) none 0 0 [] false .strand 0
            (some [BitVec.ofNat 64 ((if cresSt = 0 then h.version + 1 else h.version) % 2 ^ 32 * 2 ^ 32 + cresSt)])]
        post := if cresSt = 0 then s.cur.post ++ [.cres a.toNat] else s.cur.post })) ∧
    (∀ ps, ObjectReached s a ps →
      let h := s.headerAt ps
      ∀ (p : GReg) (b : W64) (ims : List ImageIn) (qs : List (Nat × Nat)), readG s s.cur p = .ok b → b.toNat % 256 = 0 →
        s.objImages s.issDie s.cur.plot a.toNat h = some ims → s.trRange s.issDie s.cur.plot false true b.toNat (max h.bodylen 256) = .ok qs →
        CopyApart h a.toNat b.toNat → (∃ l, copyImages (((s.plot s.cur.plot).kernels.find h.kslot).elim [] Kernel.live) ims = .ok l) →
        (s.cur.copying = none → ¬ ObjectBusy h → objectStatus s h a.toNat 1 = 0 →
          (let old := readHeader (slice (qs.flatMap fun r => s.homeRead r.1 r.2) 0 256)
           ¬ (s.objGenuine s.cur.plot old b.toNat = true ∧ old.state = 1)) →
          exec (.ccopy g p q) s = .next (if s.trial then postponed s (.ccopy b.toNat a.toNat) else beginning s (.copy a.toNat h.version))) ∧
        ∀ src v written, s.cur.copying = some (src, v, written) → s.trial = false →
          (enginesDone ims = false → exec (.ccopy g p q) s = .next (freezing s .checkpoint none)) ∧
          (enginesDone ims = true → written = false → exec (.ccopy g p q) s = .next (beginning s (.object b.toNat))) ∧
          (enginesDone ims = true → written = true → exec (.ccopy g p q) s = .next (postponed s (.ccopy b.toNat a.toNat)))) ∧
    ∀ ps, a.toNat % 256 = 0 →
      s.trRange s.issDie s.cur.plot false true a.toNat (256 + ((s.group s.cur.group).map fun x => x.members.length).getD 1 * (s.kernel s.cur).maximg) = .ok ps →
      let h := readHeader (slice (ps.flatMap fun p => s.homeRead p.1 p.2) 0 256)
      (ObjectBusy h ∨ s.suspending s.cur = true → exec (.susp g q) s = .next (freezing s .checkpoint none)) ∧
      (¬ ObjectBusy h → s.suspending s.cur = false → s.objGenuine s.cur.plot h a.toNat = true ∧ h.state = 1 →
        exec (.susp g q) s = .next (trapAt s 0x19 0 0)) ∧
      (¬ ObjectBusy h → s.suspending s.cur = false → ¬ (s.objGenuine s.cur.plot h a.toNat = true ∧ h.state = 1) → exec (.susp g q) s = .next (postponed s (.susp a.toNat)))

/-- R451, R452: KSLOTLD loads an empty slot of 0 to 255 at its commit, KSLOTZ empties a slot, and any other operand takes the
engine-descriptor fault (code 0x10) with the opcode; GLEAN checks its completion object first, then its descriptor, and waits while eight
jobs stand. The model's own choices it rests on: log entry 80. -/
def Obligations.OwnerInstructions : Prop :=
  (∀ (s : State) (g : Guard) (p : Oct) (q : GReg) (d : List W64) (v : W64), GuardOn s g → OctIs s p d → readG s s.cur q = .ok v →
    (v.toNat < 256 → s.keys.find v.toNat = none → exec (.kslotld g p q) s = .next (postponed s (.kslotld v.toNat d))) ∧
    (256 ≤ v.toNat ∨ (s.keys.find v.toNat).isSome = true → exec (.kslotld g p q) s = .next (trapAt s 0x10 0x34 0))) ∧
  (∀ (s : State) (g : Guard) (q : GReg) (v : W64), GuardOn s g → readG s s.cur q = .ok v →
    (v.toNat < 256 → exec (.kslotz g q) s = .next (postponed s (.kslotz v.toNat))) ∧
    (256 ≤ v.toNat → exec (.kslotz g q) s = .next (trapAt s 0x10 0x35 0))) ∧
  (∀ (s : State) (g : Guard) (p : Oct) (d : List W64), GuardOn s g → OctIs s p d →
    let w : Nat → Nat := fun i => (d.getD i 0).toNat
    let cpl : W32 := (d.getD 2 0).setWidth 32
    let end_ := w 0 + w 1
    let inside := end_ ≤ hbmTop ∨ (∃ k, k < 4 ∧ wsBase k ≤ w 0 ∧ end_ ≤ wsBase k + wsSize) ∨ ∃ k, k < 640 ∧ spadBase k ≤ w 0 ∧ end_ ≤ spadBase k + spadSize
    let fields := w 0 % 65536 = 0 ∧ w 1 % 65536 = 0 ∧ w 1 ≠ 0 ∧ w 0 < 2 ^ 40 ∧ w 1 < 2 ^ 40 ∧ inside ∧ w 2 < 2 ^ 32 ∧ ∀ i, i < 5 → w (i + 3) = 0
    let granted := ∃ e ∈ s.plots, e.2.live = true ∧ ∃ r ∈ e.2.grants, resourceMeets r (w 0) (w 1) = true
    let locked := ∃ e ∈ s.quarantine, resourceMeets e.res (w 0) (w 1) = true ∧ ∃ k, e.key = some k ∧ (s.keys.find k).isSome = true
    (cpl.toNat % 16 ≠ 0 → exec (.glean g p) s = .next (trapAt s 0x07 0 cpl.toNat)) ∧
    (cpl.toNat % 16 = 0 → s.spadOk s.cur.plot s.iss.core cpl.toNat 16 = false → exec (.glean g p) s = .next (trapAt s 0x08 0 cpl.toNat)) ∧
    (PadOk s cpl 16 16 →
      (¬ fields ∨ granted ∨ locked → exec (.glean g p) s = .next (trapAt s 0x10 0x36 0)) ∧
      (fields → ¬ granted → ¬ locked →
        (s.jobs.length < 8 → exec (.glean g p) s = .next (postponed s (.glean (w 0) (w 1) cpl.toNat))) ∧
        (8 ≤ s.jobs.length → exec (.glean g p) s = .next (freezing s .checkpoint none))))) ∧
  ∀ (s : State) (x k : Nat) (key : List W64), (s.doPost x (.kslotld k key)).keys.find k = some key ∧ ((s.doPost x (.kslotz k)).keys.find k) = none

namespace Sys2Proof.Stated

/-- A general register whose read nothing delays (R15, R23). -/
def FreeG (c : Context) (r : GReg) : Prop :=
  r = 0 ∨ ((∀ l ∈ c.loads, ∀ d ∈ l.gd, d.2 ≠ r) ∧ (∀ f ∈ c.fly, f.marked = true → ∀ x ∈ f.ws, Wr.onG r x = false) ∧ c.w.parity.gBad r = false)

/-- The number in a latch bank (R27): four latches for each of scalar A, scalar B, address and transfer. -/
def bank (slot d : Nat) : Nat := (if slot = 2 then 4 else if slot = 3 then 8 else if slot = 7 then 12 else 0) + d % 4

/-- One result in flight falls due with the next issue, and no other does. -/
def OneDue (c : Context) (pre post : List Fly) (f : Fly) : Prop :=
  c.fly = pre ++ [f] ++ post ∧ f.left = 1 ∧ ∀ o ∈ pre ++ post, 2 ≤ o.left

/-- A word of the PC queue in a record (R347). -/
def queueWord (e : PcEntry) : Nat := (if e.annul then 2 ^ 63 else 0) + e.idle.toNat * 2 ^ 32 + e.addr.toNat

/-- A held record's eight words (R347). -/
def heldWords (x : Nat) (c : Context) (code slot arg faddr addr obj : Nat) : List Nat :=
  [code * 2 ^ 56 + slot * 2 ^ 48 + arg % 65536 * 2 ^ 32 + faddr, c.taskid.toNat,
    c.kslot.toNat * 2 ^ 48 + (c.gen.toNat * 256 + c.plot.val) * 2 ^ 24 + coreId x, addr,
    queueWord c.sh.pc, queueWord c.sh.npc, queueWord c.sh.nnpc, obj]

/-- The instructions that act at their issue on registers which the umbrella frame leaves to their own statements: the array, the work count,
the tile table and its sums, and the releases, whose scope may be narrowed. -/
def actsAtIssue : Instr → Bool
  | .mclr _ | .mswap | .mcfg .. | .mpush .. | .macc .. | .mshift .. | .mdrain .. | .vcsum .. | .cntadd .. | .treg .. | .tunreg .. => true
  | .stg .. | .stgv .. | .fence .. | .atadd .. | .atmin .. | .atmax .. | .atminu .. | .atmaxu .. | .atand .. | .ator .. | .atxor .. => true
  | .atxchg .. | .atcas .. | .atfadd .. | .atfmax .. => true
  | _ => false

/-- No fatal failure, trap or stop waits for the end of a core's cycle. -/
def Quiet (s : State) : Prop :=
  ∀ z, (s.ctx z).failure = none ∧ (s.ctx z).trapped = none ∧ (s.group (s.ctx z).group).bind Group.stop = none

/-- The slots of a bundle with their places in the order of R24. -/
def slotsOf (b : Bundle) : List (Nat × Instr) :=
  [(0, b.br), (1, b.scA), (2, b.scB), (3, b.ad), (4, b.v0), (5, b.v1), (6, b.ma), (7, b.xf)]

/-- Every slot of a bundle holds a well-formed instruction of its own class. -/
def Bundle.Sound (b : Bundle) : Prop :=
  ∀ k i c, (k, i) ∈ slotsOf b → bundleClasses[k]? = some c → i.slotClass = some c ∧ i.wellFormed = true

/-- Slots run one after another, each on the context that the one before left. -/
inductive SlotsRun (s : State) : Context → List (Nat × Instr) → Context → Prop where
  | done (c : Context) : SlotsRun s c [] c
  | more {c c1 c2 : Context} {k : Nat} {i : Instr} {r : List (Nat × Instr)} :
      meaningOf i (s.atSlot k) c = .ok c1 → SlotsRun s c1 r c2 → SlotsRun s c ((k, i) :: r) c2

end Sys2Proof.Stated

/-- R15, R23, R27, R61 to R65, R160, R162, R251, R412: what every source form delivers and takes, and where every destination form sends a
result: the register or stream or channel, and the latch of the slot's bank. The model's own choices it rests on: log entry 25. -/
def Obligations.OperandForms : Prop :=
  (∀ (s : State) (c : Context) (r : GReg),
    (FreeG c r → readSrc s c (.g r) = .ok (c, if r = 0 then 0 else c.w.g[r])) ∧
    (r ≠ 0 → (∃ l ∈ c.loads, ∃ d ∈ l.gd, d.2 = r) → ∃ h : Halt, readG s c r = .error h ∧ (h = .freeze .pending none .nothing ∨ ∃ t : Cause, h = .trap t)) ∧
    ∀ w fl v, readG s c r = .ok v → w = 8 ∨ w = 16 ∨ w = 32 ∨ w = 64 → ∃ x : Row, readVSrc s c w fl (.bc r) = .ok (c, x) ∧
      ∀ j, j < 4096 / w → lane w x j = v.toNat % 2 ^ w) ∧
  (∀ (s : State) (c : Context) (n : Fin 16), readSrc s c (.b n) = .ok (c, c.latch[n]) ∧ ∀ w fl, readVSrc s c w fl (.vb n) = .ok (c, c.vlatch[n])) ∧
  (∀ (s : State) (c : Context), readSrc s c .pool = .ok (c, BitVec.ofInt 64 s.iss.pool.toInt) ∧
    (∃ x : Row, readVSrc s c 16 true .pool = .ok (c, x) ∧ readVSrc s c 16 false .pool = .ok (c, x) ∧ ∀ j, j < 256 → lane 16 x j = s.iss.pool.toNat) ∧
    (∃ x : Row, readVSrc s c 32 true .pool = .ok (c, x) ∧ ∀ j, j < 128 → lane 32 x j = s.iss.pool.toNat * 65536) ∧
    (∃ x : Row, readVSrc s c 32 false .pool = .ok (c, x) ∧ ∀ j, j < 128 → (lane 32 x j : Int) = s.iss.pool.toInt % 2 ^ 32) ∧
    ∃ x : Row, readVSrc s c 64 true .pool = .ok (c, x) ∧ ∀ j, j < 64 → (lane 64 x j : Int) = s.iss.pool.toInt % 2 ^ 64) ∧
  (∀ (s : State) (c : Context) (n : SReg),
    (c.bind[n] = none → readSrc s c (.s n) = cause 0x0B n.val) ∧
    ∀ b, c.bind[n] = some b → b.kind = 0 → b.elem < 4 →
      (b.wrap = false → b.total ≤ c.w.spos[n] → readSrc s c (.s n) = cause 0x0C n.val) ∧
      (b.wrap = true ∨ c.w.spos[n] < b.total →
        (b.buf = [] → readSrc s c (.s n) = freezeFor .stream (some (.stream n))) ∧
        ∀ e es, b.buf = e :: es → e.bad = none → e.bytes.length = 2 ^ b.elem → ∃ (c1 : Context) (v : W64), readSrc s c (.s n) = .ok (c1, v) ∧
          c1 = { c with w := { c.w with spos := c.w.spos.set n (c.w.spos[n] + 1) }, bind := c.bind.set n (some { b with buf := es }), ver := c1.ver } ∧
          v = if b.sx then BitVec.ofInt 64 (sg (8 * 2 ^ b.elem) (ofBytes e.bytes)) else BitVec.ofNat 64 (ofBytes e.bytes))) ∧
  (∀ (s : State) (c : Context) (k : KReg) (r : W64 × W64) (w : W64) (ws : List W64), (c.chan[k]).route = some r → (c.chan[k]).recv = w :: ws →
    ∃ c1 : Context, readSrc s c (.k k) = .ok (c1, w) ∧ c1 = { c with chan := c.chan.set k { (c.chan[k]) with recv := ws }, ver := c1.ver }) ∧
  (∀ (s : State) (c : Context) (r : GReg) (n : Fin 4) (lat : Nat) (v : W64) (fl : Flags), s.iss.slot < 8 →
    let fls : List Wr := if fl = 0 then [] else [.flags fl]
    (∃ m : Fin 16, m.val = bank s.iss.slot r.val ∧ writeDst s c (.g r) lat v fl =
      .ok { c with fly := c.fly ++ [⟨lat, s.iss.slot, s.iss.caddr, false, false, [.g r v, .latch m v] ++ fls⟩] }) ∧
    ∃ m : Fin 16, m.val = bank s.iss.slot n.val ∧ writeDst s c (.latch n) lat v fl =
      .ok { c with fly := c.fly ++ [⟨lat, s.iss.slot, s.iss.caddr, false, false, [.latch m v] ++ fls⟩] }) ∧
  (∀ (s : State) (c c1 : Context) (n : SReg) (k : KReg) (lat : Nat) (v : W64),
    (pushStream s c n false (lowBytes v 8) = .ok c1 → ∃ m : Fin 16, m.val = bank s.iss.slot n.val ∧ writeDst s c (.s n) lat v =
      .ok { c1 with fly := c1.fly ++ [⟨lat, s.iss.slot, s.iss.caddr, false, false, [.latch m v]⟩] }) ∧
    (pushChannel s c k [v] = .ok c1 → ∃ m : Fin 16, m.val = bank s.iss.slot k.val ∧ writeDst s c (.k k) lat v =
      .ok { c1 with fly := c1.fly ++ [⟨lat, s.iss.slot, s.iss.caddr, false, false, [.latch m v]⟩] })) ∧
  ∀ (s : State) (c : Context) (r : VReg) (n : Fin 8) (lat : Nat) (x : Row),
    let b : Nat := if s.iss.slot = 5 then 8 else 0
    (∃ m : Fin 16, m.val = b + r.val % 8 ∧ writeVDst s c (.v r) lat x =
      .ok { c with fly := c.fly ++ [⟨lat, s.iss.slot, s.iss.caddr, false, false, [.v r (BitVec.allOnes 4096) x, .vlatch m x]⟩] }) ∧
    ∃ m : Fin 16, m.val = b + n.val ∧ writeVDst s c (.latch n) lat x =
      .ok { c with fly := c.fly ++ [⟨lat, s.iss.slot, s.iss.caddr, false, false, [.vlatch m x]⟩] }

/-- R15, R18, R21, R23, R25, R135, R146: a result in flight writes when its latency has passed, and only then: its register and its latch,
the shadow too when a checkpoint has covered it, and nothing else; a write to g0 is discarded and a single bit keeps the others; flags
join their slot's record with the first address of each; a write of a control register stores what that register keeps. -/
def Obligations.LandingsWriteTheirDestinations : Prop :=
  ∀ (c : Context) (pre post : List Fly) (f : Fly), OneDue c pre post f →
    let c1 := c.advance
    c1.fly = (pre ++ post).map (fun o => { o with left := o.left - 1 }) ∧
    (∀ r v m y, f.ws = [.g r v, .latch m y] →
      let put : Arch → Arch := fun a => { a with g := if r = 0 then a.g else a.g.set r v }
      { c1 with w := c.w, sh := c.sh, latch := c.latch, fly := c.fly, loads := c.loads, ver := c.ver } = c ∧ c1.latch = c.latch.set m y ∧
      { c1.w with parity := c.w.parity } = put c.w ∧ { c1.sh with parity := c.sh.parity } = (if f.covered then put c.sh else c.sh) ∧
      ∀ l ∈ c1.loads, ∀ d ∈ l.gd, d.2 ≠ r) ∧
    (∀ r n b m y, f.ws = [.gbit r n b, .latch m y] →
      { c1 with w := c.w, sh := c.sh, latch := c.latch, fly := c.fly, loads := c.loads, ver := c.ver } = c ∧ c1.latch = c.latch.set m y ∧
      { c1.w with g := c.w.g, parity := c.w.parity } = c.w ∧ (∀ q : GReg, q ≠ r → c1.w.gval q = c.w.gval q) ∧ c1.w.gval 0 = 0 ∧
      (r ≠ 0 → ∀ k : Fin 64, (c1.w.gval r).getLsbD k.val = if k = n then b else (c.w.gval r).getLsbD k.val)) ∧
    (∀ r v, f.ws = [.a r v] → { c1 with w := c.w, sh := c.sh, fly := c.fly, ver := c.ver } = c ∧
      { c1.w with parity := c.w.parity } = { c.w with a := c.w.a.set r v } ∧
      { c1.sh with parity := c.sh.parity } = if f.covered then { c.sh with a := c.sh.a.set r v } else c.sh) ∧
    (∀ r v, f.ws = [.m r v] → { c1 with w := c.w, sh := c.sh, fly := c.fly, ver := c.ver } = c ∧
      { c1.w with parity := c.w.parity } = { c.w with m := c.w.m.set r v }) ∧
    (∀ r mask x m y, f.ws = [.v r mask x, .vlatch m y] →
      { c1 with w := c.w, sh := c.sh, vlatch := c.vlatch, fly := c.fly, loads := c.loads, ver := c.ver } = c ∧ c1.vlatch = c.vlatch.set m y ∧
      { c1.w with t0 := c.w.t0, t1 := c.w.t1, parity := c.w.parity } = c.w ∧ c1.w.vval r = (c.w.vval r &&& ~~~mask) ||| (x &&& mask) ∧
      (∀ q : VReg, q ≠ r → c1.w.vval q = c.w.vval q) ∧ (c1.w.t0.ty, c1.w.t1.ty) = (c.w.t0.ty, c.w.t1.ty) ∧ ∀ l ∈ c1.loads, l.vd ≠ some r) ∧
    (∀ fl (k : Fin 8), f.ws = [.flags fl] → f.slot = k.val →
      { c1 with flags := c.flags, fly := c.fly, w := c.w, sh := c.sh, ver := c.ver } = c ∧ (∀ q : Fin 8, q ≠ k → c1.flags[q] = c.flags[q]) ∧
      (c1.flags[k]).bits = (c.flags[k]).bits ||| fl ∧ ∀ n : Fin 6, (c1.flags[k]).first[n] =
        if fl.getLsbD n.val = true ∧ (c.flags[k]).bits.getLsbD n.val = false then f.caddr else (c.flags[k]).first[n]) ∧
    ∀ n v, f.ws = [.csr n v] →
      (n = 0x020 → c1.cstat = c.cstat &&& v.setWidth 3) ∧
      (n = 0x021 → c1.w = { c.w with rmode := if v.toNat % 8 = 6 ∨ v.toNat % 8 = 7 then 0 else v.setWidth 3 }) ∧
      (n = 0x022 → c1.w = { c.w with seed := v }) ∧ (n = 0x023 → c1.w = { c.w with tole := v.setWidth 8 }) ∧
      (∀ k : Fin 96, n.toNat = 0x100 + k.val → c1.w = { c.w with lstride := c.w.lstride.set k (v.setWidth 32) }) ∧
      ∀ k : Fin 8, n.toNat = 0x030 + k.val → (c1.flags[k]).bits = (c.flags[k]).bits &&& v.setWidth 6 ∧
        ∀ q : Fin 6, (c1.flags[k]).first[q] = if v.getLsbD q.val then (c.flags[k]).first[q] else 0

/-- R25, R28, R245, R285, R341 to R343: a commit makes the shadow a copy of the working state, empties the buffer and covers everything in
flight; a scratchpad entry then writes exactly its bytes, a global one goes behind the commit queue and leaves memory alone. A rollback
copies the shadow back, empties the buffer and the latches, drops what no checkpoint has covered, gives a covered load the marks that it
had at the checkpoint, and keeps the commit queue and the flags. The model's own choices it rests on: log entry 28. -/
def Obligations.CommitAndRollback : Prop :=
  (∀ (s : State) (core : Nat) (live : Fin 64) (c : Context),
    let d := c.commitShadow (s.coverLoad core c) live
    d.sh = d.w ∧ { d.w with tt := c.w.tt, tun := c.w.tun } = c.w ∧ d.buf = [] ∧ d.live = live ∧ (∀ f ∈ d.fly, f.covered = true) ∧
    d.strides = c.strides.map (fun st => (st.1, true)) ∧
    d.loads.map (fun l => { l with dev := [] }) = c.loads.map (fun l => { l with covered := true, shGd := l.gd, shVd := l.vd, dev := [] }) ∧
    { d with w := c.w, sh := c.sh, buf := c.buf, live := c.live, fly := c.fly, strides := c.strides, loads := c.loads } = c) ∧
  (∀ c : Context,
    let d := c.rollback
    d.w = c.sh ∧ d.sh = c.sh ∧ d.buf = [] ∧ d.post = [] ∧ (∀ n : Fin 16, d.latch[n] = 0 ∧ d.vlatch[n] = 0) ∧ d.fly = c.fly.filter Fly.covered ∧
    d.strides = c.strides.filter Prod.snd ∧ (∀ l ∈ c.loads, l.covered = true → { l with gd := l.shGd, vd := l.shVd } ∈ d.loads) ∧
    (∀ l ∈ d.loads, (∃ o ∈ c.loads, o.covered = true ∧ l = { o with gd := o.shGd, vd := o.shVd }) ∨ (l.gd = [] ∧ l.vd = none ∧ l.fail = none)) ∧
    (∀ n : Fin 16, d.bind[n] = (c.bind[n]).map fun b => { b with buf := [], part := [] }) ∧
    (d.cq, d.flags, d.fixcnt, d.cstat, d.chan, d.taskid, d.cycle, d.frzcyc) = (c.cq, c.flags, c.fixcnt, c.cstat, c.chan, c.taskid, c.cycle, c.frzcyc)) ∧
  ∀ (s : State) (core x : Nat) (st : Store), core < 640 →
    let t := State.commitStore core x s st
    (st.space = .spad → st.ents = [] → st.addr + st.bytes.length ≤ spadSize → Memory.wf s.mem →
      (∀ k, k < st.bytes.length → some (byteAt t (spadBase core + st.addr + k)) = st.bytes[k]?) ∧
      (∀ a, a < spadBase core + st.addr ∨ spadBase core + st.addr + st.bytes.length ≤ a → byteAt t a = byteAt s a) ∧ t.ctxs = s.ctxs ∧
      (st.fe = none → t.full = s.full) ∧
      ∀ a n v, st.fe = some (a, n, v) → ∀ b, b < spadSize → a % 16 = 0 → a + 16 * n ≤ spadSize →
        t.isFull core b = if a ≤ b ∧ b < a + 16 * n then v else s.isFull core b) ∧
    (st.space = .hbm → t.mem = s.mem ∧ t.full = s.full ∧ ∃ dev : List (Nat × Nat), (t.ctx x).cq = (s.ctx x).cq ++ [{ st with dev := dev }])

/-- R345, R347, R348, R350 to R352: a plot-level cause that a strand alone in its group meets: the strand stops rolled back and leaves its
core, its group is held with the place of its trap object, the record goes to the plot's log or is counted as lost, and the plot's trap
kernel, if it names one and the strand is not of it, is started with the record. The model's own choices it rests on: log entries 9, 19. -/
def Obligations.TakingATrap : Prop :=
  ∀ (s : State) (x : Nat) (t : Cause) (slot : Nat) (faddr : W32) (g : Group), t.code < 0x14 → t.at? = none → slot < 8 →
    s.group (s.ctx x).group = some g → g.members = [x] → g.stop = none → (s.ctx x).shadowErr = false → (s.ctx x).copying = none →
    let c := s.ctx x
    let p := s.plot c.plot
    let u := s.takeTrap x t slot faddr
    let lv := plotLog c.plot
    let us := ((List.range p.policy.ctxmax).filter fun k => decide (k ∉ p.units)).take 1
    let obj := p.policy.ctxbase + us.headD 0 * (256 + p.policy.imgmax)
    u.ctx x = { c.rollback with ver := none, st := .stopped, trapped := none } ∧ (∀ y, y ≠ x → u.ctx y = s.ctx y) ∧
    ((s.core (coreOfCtx x)).running.map Fin.val = some (x % 8) → (u.core (coreOfCtx x)).running = none) ∧
    (∃ level, u.group c.group = some { g with stop := some ⟨.trap, obj, us, s.tick, false, level, false, []⟩ }) ∧
    ((s.log lv).cfg.toNat % 32 = 0 → u.mem = s.mem ∧
      u.log lv = { s.log lv with lost := BitVec.ofNat 32 (min ((s.log lv).lost.toNat + 1) (2 ^ 32 - 1)) }) ∧
    (c.plot = 0 → s.ownerLog.cfg.toNat % 32 ≠ 0 → (s.ownerLog.prod - s.ownerLog.cons).toNat < 2 ^ (s.ownerLog.cfg.toNat % 32) → s.enc = [] →
      Memory.wf s.mem →
      let a := s.ownerLog.cfg.toNat / 256 * 256 + 64 * (s.ownerLog.prod.toNat % 2 ^ (s.ownerLog.cfg.toNat % 32))
      a + 64 ≤ hbmTop → u.ownerLog = { s.ownerLog with prod := s.ownerLog.prod + 1 } ∧
      (∀ i k, i < 8 → k < 8 → byteAt u (a + 8 * i + k) =
        BitVec.ofNat 8 ((heldWords x c t.code (slot + 1) t.arg faddr.toNat t.addr obj).getD i 0 / 2 ^ (8 * k))) ∧
      ∀ b, b < a ∨ a + 64 ≤ b → byteAt u b = byteAt s b) ∧
    (p.policy.trapkslot = 0xFFFF ∨ p.policy.trapkslot = c.kslot → u.runq = s.runq) ∧
    (p.policy.trapkslot ≠ 0xFFFF → p.policy.trapkslot ≠ c.kslot → ∃ rec w0 : W64, u.runQueue (clusterOf (coreOfCtx x)) c.plot =
      s.runQueue (clusterOf (coreOfCtx x)) c.plot ++ [⟨[recW0 p.policy.trapkslot.toNat p.policy.trapentry.toNat 0 false, recW1 (gangOf c.taskid) 0 0 0, rec,
        w0, BitVec.ofNat 64 obj, 0, 0, 0], s.tick⟩])

/-- R20, R24, R341: a slot's instruction that does not stop its bundle changes nothing of the machine but its own context, and there no
register but those its own statements name: every register result waits for its landing and every store for the commit, so each byte of
memory, every other context and the shadow stay as they are. -/
def Obligations.SlotsTouchTheirOwnContextOnly : Prop :=
  ∀ (i : Instr) (s : State), i.slotClass ≠ none →
    (∃ h : Halt, exec i s = .next (s.halt s.iss.ctx h s.iss.slot s.iss.caddr)) ∨
    ∃ c : Context, exec i s = .next (s.setCtx s.iss.ctx c) ∧ (actsAtIssue i = false → SameRegs s.cur c) ∧
      c.sh = s.cur.sh ∧ c.latch = s.cur.latch ∧ c.vlatch = s.cur.vlatch ∧ c.flags = s.cur.flags ∧ c.cq = s.cur.cq ∧
      (c.w.g, c.w.a, c.w.m, c.w.levels, c.w.pc, c.w.npc, c.w.nnpc) = (s.cur.w.g, s.cur.w.a, s.cur.w.m, s.cur.w.levels, s.cur.w.pc, s.cur.w.npc, s.cur.w.nnpc) ∧
      (∀ b, byteAt (s.setCtx s.iss.ctx c) b = byteAt s b) ∧ ∀ y, y ≠ s.iss.ctx → (s.setCtx s.iss.ctx c).ctx y = s.ctx y

/-- The model's own: every instruction and every step answers a next state; a cause that the manual names is taken as a trap or a record,
and an event whose condition does not hold leaves the state as it is. The model's own choices it rests on: log entry 6. -/
def Obligations.EveryStepAnswers : Prop := (∀ (i : Instr) (s : State), ∃ t, exec i s = .next t) ∧ ∀ s : State, Runs s

/-- R14, R17, R422, R440, R460 to R462, R449: the machine after a cold start: memory reads 0 everywhere and is in canonical form, no
context holds a strand, only the owner plot exists, the module's registers hold the values given, and time is 0; a strand starts with
registers 0, TOLE 0xF0 and both tiles of type I32. The model's own choices it rests on: log entries 8, 11, 33, 128, 145, 149, 150, 151. -/
def Obligations.ResetState : Prop :=
  (∀ a, byteAt .reset a = 0) ∧ Canonical .reset ∧ (∀ x, (State.reset.ctx x).st = .free) ∧ (∀ c, (State.reset.core c).running = none) ∧
  (∀ p, (State.reset.plot p).live = decide (p = 0)) ∧ (∀ e, (State.reset.estate e).live = false) ∧
  (State.reset.purseReg, State.reset.spinReg, State.reset.shareReg, State.reset.agePeriod, State.reset.winBase) = (0x044004, 0x0200000800, 40000, 20000, 0) ∧
  (State.reset.tick, State.reset.devns, State.reset.keys, State.reset.jobs) = (0, 0, [], []) ∧
  (State.reset.lastStart, State.reset.wfail, State.reset.failStep, State.reset.starts) = (1, 0, 0, 1) ∧
  (State.reset.ownerLog.cfg, State.reset.ownerLog.cons, State.reset.ownerLog.prod, State.reset.ownerLog.lost) = (0, 0, 0, 0) ∧
  (∀ r : GReg, Arch.start.g[r] = 0) ∧ (∀ r : AReg, Arch.start.a[r] = 0) ∧ (∀ r : MReg, Arch.start.m[r] = 0) ∧
  (Arch.start.tole, Arch.start.rmode, Arch.start.seed, Arch.start.wc, Arch.start.pa, Arch.start.pb) = (0xF0, 0, 0, 0, 3, 3) ∧
  (Arch.start.t0.ty, Arch.start.t1.ty, Arch.start.levels, Arch.start.tt) = (.i32, .i32, [], []) ∧ ∀ v : VReg, Arch.start.vval v = 0

/-- R20, R24, R33, R57: a step runs the instruction that is next in the interleaving; executing a slot's instruction is its meaning at the
issue in progress; and a core that issues a bundle runs, on the state as it stood before the bundle, the decoded instructions of its eight
slots in the order of R24, then moves the queue on and counts the cycle. The model's own choices it rests on: log entries 5, 7. -/
def Obligations.AStepRunsTheDecodedInstruction : Prop :=
  (∀ (s : State) (i : Instr) (r : List Instr), s.micro = [] → s.sched = i :: r → step s = exec i { s with sched := r }) ∧
  (∀ (i : Instr) (s : State), i.slotClass ≠ none → exec i s = runSlot (meaningOf i) s) ∧
  (∀ (s : State) (core : Nat) (r : List Nat), s.micro = [] → s.sched = [] → s.due = core :: r → core < 640 → (s.core core).share.pos ≠ 0 →
    (∃ x, s.issuer core = some x) → s.issueWaits core = false → (∀ x, s.issuer core = some x → (s.ctx x).raised = none ∧ (s.ctx x).st = .running) →
    step s = exec (.issueBundle (Fin.ofNat 640 core)) s) ∧
  ∀ (s : State) (core x : Nat) (c2 : Context) (b : Bundle) (unit : Bool), Bundle.Sound b → s.issuer core = some x →
    let c := s.ctx x
    let f : Fetched := .bundle (encodeBundle b) unit
    let s1 := s.beginIssue core x false c f
    c.raised = none → c.shadowErr = false → c.failure = none → s.fetch c = .ok (f, none) → b.hdr.ckpt = false → suppressed c b.hdr = false →
    SlotsRun s1 { c with br := .none } (slotsOf b) c2 → c2.br ≠ .exit →
    f.hdr = b.hdr ∧ decodeBundle (encodeBundle b) = .ok b ∧ ∃ c3 : Context, (s.issueCtx core x false).ctx x = c3 ∧
      c3 = c2.issued (s.kernel c) false c.nextLoad ∧ c3.cycle = c2.cycle + 1 ∧ c3.w.pc.addr = c2.w.npc.addr

/-- R49 to R52, R57, R58: words of the manual decode to the instructions that they stand for; the code words of a literal bundle, of an
idle run and of a dictionary entry are read as the manual gives. The model's own choices it rests on: log entry 1. -/
def Obligations.DecodedWords : Prop :=
  decodeSlot .transfer 0x0000250426 = .ok (.ldg .always 20 8 2 true .die) ∧
  decodeSlot .transfer 0x000222842F = .ok (.atcas .always 10 8 true .ar .die) ∧
  decodeSlot .transfer 0x0002800028 = .ok (.fence .always .rel .die) ∧
  decodeSlot .transfer 0x0002A30487 = .ok (.ldfe .always 12 9 3 true) ∧
  decodeSlot .transfer 0x000303C4C3 = .ok (.fetest .always 15 3 9) ∧
  decodeSlot .transfer 0x0003414C00 = .ok (.sbind .always 5 3) ∧
  decodeSlot .transfer 0x0004E60180 = .ok (.qpop .always 3 3) ∧
  decodeSlot .transfer 0x0006840280 = .ok (.kslotld .always 2 5) ∧
  decodeSlot .branch 0 = .ok .bnop ∧ decodeSlot .scalar 0 = .ok .snop ∧ decodeSlot .vector 0 = .ok .vnop ∧
  Kernel.unitAt ⟨[0xFFFE, 4], [], [], 0⟩ 0 = some (.ok (.idle 5, 2)) ∧ Kernel.unitAt ⟨[0x0000], [77], [], 0⟩ 0 = some (.ok (.dict 77, 1)) ∧
  Kernel.unitAt ⟨[0x1000], [77], [], 0⟩ 0 = some (.error 0x01) ∧ Kernel.fetch ⟨[], [], [], 0⟩ 0 = .error 0x03

/-- R57, R66 to R80: decoding the encoding of a well-formed instruction of any of the six slot classes gives that instruction back, with
every operand; and the same of whole bundles with their header and pool. -/
def Obligations.DecodingUndoesEncoding : Prop :=
  (∀ (i : Instr) (k : SlotClass), i.slotClass = some k → i.wellFormed = true → decodeSlot k (encode i) = .ok i ∧ encode i < 2 ^ k.bits) ∧
  ∀ b : Bundle, Bundle.Sound b → decodeBundle (encodeBundle b) = .ok b ∧ encodeBundle b < 2 ^ 384

/-- R260, R462: every step keeps memory in its canonical form, on the module and in every die's view of it. The model's own choices it
rests on: log entry 151. -/
def Obligations.EveryStepKeepsMemoryCanonical : Prop := Invariant Canonical

/-- R20, R21, R33, R45, R47, R224 to R227, R342, R424: the parts of a core's cycle. An idle bundle counts a cycle and moves the queue on;
the landings pass one cycle of every context of the core, a frozen one's fixed-latency results apart; a commit makes the shadow and the
working state one, empties the buffer and ends the strand at an EXIT; a YIELD clears latches and array and gives the core to the candidate
that the rule of R224 chooses, as an idle core does; a context frozen for SPINLIM cycles parks; a window's start shares it among the
resident gangs. The model's own choices it rests on: log entries 36, 54, 87. -/
def Obligations.CoreCycleEvents : Prop :=
  (∀ (s : State) (c : CoreId) (x : Nat), s.micro = [] → s.issuer c.val = some x →
    let k := s.ctx x
    s.issueWaits c.val = false → k.raised = none → k.shadowErr = false → k.failure = none → s.fetch k = .ok (.idle, none) → ∃ t : State, exec (.issueBundle c) s = .next t ∧
      ((t.ctx x).cycle, (t.ctx x).st, (t.ctx x).frozenFor) = (k.cycle + 1, .running, 0) ∧
      ((t.ctx x).w.pc, (t.ctx x).w.npc, (t.ctx x).w.g, (t.ctx x).w.a) = (k.w.npc, k.w.nnpc, k.w.g, k.w.a) ∧
      (k.w.levels = [] → (t.ctx x).w.nnpc = (s.kernel k).next k.w.nnpc) ∧ (∀ y, y ≠ x → t.ctx y = s.ctx y) ∧
      t.micro.head? = some (.land c.val) ∧ (∀ d, d ∈ t.due ↔ d ∈ s.due ∧ d ≠ c.val) ∧ t.mem = s.mem ∧ t.full = s.full) ∧
  (∀ (s : State) (c : CoreId) (r : List Micro), s.micro = .land c.val :: r → (∃ rel, .yield c.val rel ∈ r) ∨ Quiet s → ∃ t : State, exec (.fixedLatencyLanding c) s = .next t ∧
    (∀ y, t.ctx y = if coreOfCtx y = c.val ∧ (s.ctx y).st ≠ .free then (s.ctx y).landCycle else s.ctx y) ∧
    (t.core c.val).cycle = (s.core c.val).cycle + 1 ∧ (t.core c.val).running = (s.core c.val).running ∧
    { t with ctxs := s.ctxs, cores := s.cores, micro := s.micro } = s ∧ t.micro = r) ∧
  (∀ k : Context, ((∀ why, k.st ≠ .frozen why) → k.landCycle = k.advance.addStrides.duePass) ∧
    ∀ why, k.st = .frozen why → why ≠ .checkpoint → k.landCycle = k.advanceMarked.duePass ∧
      ((∀ f ∈ k.fly, f.marked = false ∧ f.left ≠ 0) → { k.landCycle with loads := k.loads } = k ∧ k.landCycle.loads.map Load.gd = k.loads.map Load.gd)) ∧
  (∀ (s : State) (c : CoreId) (x : Nat) (live : Fin 64) (r : List Micro), s.micro = .commit c.val live :: r → s.issuer c.val = some x →
    let k := s.ctx x
    k.ver = none → k.post = [] → (s.group k.group).bind Group.stop = none → ∃ (t : State) (cq : List Store), exec (.checkpointCommit c) s = .next t ∧ t.micro = r ∧
      cq.length = (k.buf.filter fun st => st.space == .hbm).length ∧
      (k.br ≠ .exit → t.ctx x = { k.commitShadow id live with
          loads := (t.ctx x).loads, cq := k.cq ++ cq, post := [], br := .none, ver := none
          wseq := if k.cq.any Store.rel then k.wseq else s.dieSeq (dieOf c.val) } ∧
        (t.ctx x).loads.map (fun l => { l with dev := [] }) = k.loads.map (fun l => { l with covered := true, shGd := l.gd, shVd := l.vd, dev := [] }) ∧
        ∀ y, y ≠ x → t.ctx y = s.ctx y) ∧
      (k.br = .exit → (t.ctx x).st = .draining ∧ (t.ctx x).fly = (k.commitShadow id live).fly ∧ (t.ctx x).cq = k.cq ++ cq ∧ (t.ctx x).w.tt = [] ∧
        (∀ n : Fin 16, (t.ctx x).bind[n] = none) ∧ (∀ n : KReg, ((t.ctx x).chan[n]).route = none ∧ ((t.ctx x).chan[n]).send = (k.chan[n]).send) ∧
        ((s.core c.val).running.map Fin.val = some (x % 8) → (t.core c.val).running = none)) ∧
      (k.buf = [] → (∀ b, some b ∈ k.bind.toList → b.kind ≠ 4) → t.mem = s.mem ∧ t.full = s.full)) ∧
  (∀ (s : State) (core y : Nat), s.choice core = some y → coreOfCtx y = core ∧ (s.ctx y).candidate = true ∧
    ∀ z, coreOfCtx z = core → (s.ctx z).candidate = true → z ≠ y → s.eff z < s.eff y ∨ (s.eff z = s.eff y ∧
      ((s.ctx y).readyAt < (s.ctx z).readyAt ∨ ((s.ctx y).readyAt = (s.ctx z).readyAt ∧ y < z)))) ∧
  (∀ (s : State) (core y : Nat), coreOfCtx y = core → (s.ctx y).candidate = true → ∃ z, s.choice core = some z) ∧
  (∀ (s : State) (c : CoreId) (x : Fin 8) (rel : Bool) (r : List Micro), s.micro = .yield c.val rel :: r → (s.core c.val).running = some x →
    let k := s.ctx (c.val * 8 + x.val)
    let zero : Context := { k with
      latch := .replicate 16 0, vlatch := .replicate 16 0, fly := k.fly.map fun f => { f with marked := true }
      w := { k.w with work := .zero, drain := .zero }, sh := { k.sh with work := .zero, drain := .zero } }
    let s1 : State := { s with micro := r }
    Quiet s →
    (k.st = .running ∨ k.st = .ready →
      exec (.yield c) s = .next (((s1.setCtx (c.val * 8 + x.val)
        { zero with st := .ready, readyAt := s1.cycleNow c.val, releasing := rel && s1.releaseWanted c.val (c.val * 8 + x.val) }).setCore c.val { s.core c.val with running := none }).choose c.val)) ∧
    (k.st = .barrier → exec (.yield c) s = .next (((s1.setCtx (c.val * 8 + x.val) zero).setCore c.val { s.core c.val with running := none }).choose c.val))) ∧
  (∀ (s : State) (c : CoreId), s.micro = [] → (s.core c.val).running = none →
    (∀ y, s.choice c.val = some y → ∃ t : State, exec (.idleCoreChoice c) s = .next t ∧ (t.ctx y).st = .running ∧ (t.core c.val).running = some (Fin.ofNat 8 y) ∧
      ∀ z, z ≠ y → t.ctx z = s.ctx z) ∧
    (s.choice c.val = none → exec (.idleCoreChoice c) s = .next { s with micro := [.land c.val], due := s.due.filter (· != c.val) })) ∧
  (∀ (s : State) (c : CoreId) (x : Nat) (why : Reason) (on : ParkOn), s.issuer c.val = some x → (s.ctx x).st = .frozen why → (s.ctx x).parkOn = some on →
    (why = .stream ∨ why = .channel ∨ why = .fullEmpty) → s.spinReg.toNat % 2 ^ 32 ≤ (s.ctx x).frozenFor → (s.ctx x).ver = none → (s.ctx x).shadowErr = false →
    (∀ q, on ≠ .queue q) → (s.group (s.ctx x).group).bind Group.stop = none → ∃ t : State, exec (.spinlimPark c) s = .next t ∧
      (t.ctx x).st = .parked on ∧ (t.ctx x).w.g = (s.ctx x).sh.g ∧ (t.ctx x).w.pc = (s.ctx x).sh.pc ∧ (t.ctx x).buf = [] ∧
      (t.ctx x).cstat = (s.ctx x).cstat ||| 4 ∧ (t.ctx x).cq = (s.ctx x).cq ∧ ((t.core c.val).running.map Fin.val ≠ some (x % 8)) ∧ t.mem = s.mem) ∧
  (∀ (s : State) (c : CoreId), (s.core c.val).share.pos = 0 → ∃ (t : State) (keys : List Nat), exec (.shareWindowStart c) s = .next t ∧ { t with cores := s.cores } = s ∧
    keys.Nodup ∧ (∀ key, key ∈ keys ↔ ∃ y, coreOfCtx y = c.val ∧ (s.ctx y).st ≠ .free ∧ (s.ctx y).st ≠ .draining ∧
      key = gangKey (s.ctx y).plot (gangOf (s.ctx y).taskid)) ∧
    t.core c.val = { s.core c.val with share := { pos := 1, share := (t.core c.val).share.share, charged := [], spent := [], left := (t.core c.val).share.left } } ∧
    (∀ key, key ∈ (t.core c.val).share.left ↔ (∃ v, (key, v) ∈ (s.core c.val).share.share) ∧ s.spent c.val key = false) ∧
    ∀ key, (t.core c.val).share.share.get key 0 = if key ∈ keys then s.shareReg.toNat / keys.length else 0) ∧
  ∀ (s : State) (c : CoreId) (plot : PlotNo) (gang : Nat), gang < 65536 →
    (s.core c.val).share.share.get (gangKey plot gang) 0 ≤ (s.core c.val).share.charged.get (gangKey plot gang) 0 →
    ∃ t : State, exec (.shareExhausted c plot gang) s = .next t ∧ { t with cores := s.cores } = s ∧ t.boost c.val plot gang = 0 ∧
      ∀ d, d ≠ c.val → t.core d = s.core d

/-- R23, R25, R258, R265, R271, R288, R341, R399 to R401, R469, R470: the memory system. A value lands in its register, in the shadow too
when a checkpoint has covered the load; a committed entry leaves its queue and its own die sees its bytes at once; an atomic takes the old
element and stores the new; the home stack performs a die's write and forwards it; a die applies an update in causal order, not over later
writes of its own; a walk is cached; the fetcher reads ahead; the refresh window moves to the next bank when the microsecond of the bank
before has gone, and not earlier; the scrubber records what it finds. The model's own choices it rests on: log entries 9, 92, 93. -/
def Obligations.MemoryEvents : Prop :=
  (∀ (s : State) (x : CtxId) (n : Nat) (l : Load) (r : GReg) (sgn al : Bool) (bs : List Byte),
    let k := s.ctx x.val
    k.loads[n]? = some l → l.kind = .mem sgn al → l.gd = [(0, r)] → l.shGd = [(0, r)] → l.vd = none → r ≠ 0 → l.due = 0 → l.got = none → l.fail = none →
    l.size = 1 ∨ l.size = 2 ∨ l.size = 4 ∨ l.size = 8 → l.own.length = l.size → s.ordered (coreOfCtx x.val) k l = false →
    s.globalBytes (coreOfCtx x.val) k l = some bs → bs.length = l.size →
    let raw : Nat := ofBytes ((List.range l.size).map fun i => ((l.own[i]?).join).getD (bs.getD i 0))
    let v : W64 := if sgn then BitVec.ofInt 64 (sg (8 * l.size) raw) else BitVec.ofNat 64 raw
    ∃ c1 : Context, exec (.loadValueLanding x (n, 0)) s = .next (s.setCtx x.val c1) ∧
      { c1 with loads := k.loads, w := k.w, sh := k.sh, ver := k.ver } = k ∧ c1.loads = k.loads.filter (fun e => decide (e.id ≠ l.id)) ∧
      { c1.w with parity := k.w.parity } = { k.w with g := k.w.g.set r v } ∧
      { c1.sh with parity := k.sh.parity } = if l.covered then { k.sh with g := k.sh.g.set r v } else k.sh) ∧
  (∀ (s : State) (x : CtxId) (n : Nat) (st : Store) (a : Nat),
    let k := s.ctx x.val
    let d := dieOf (coreOfCtx x.val)
    k.cq[n]? = some st → s.mayPerform (coreOfCtx x.val) k n st = true → a + st.bytes.length ≤ hbmTop → s.enc = [] →
    (st.at? = none → st.lanes = [] → st.dev = [(a, st.bytes.length)] → 1 ≤ st.bytes.length → a % 128 + st.bytes.length ≤ 128 → Memory.wf (s.die d).view →
      ∃ t : State, exec (.commitQueuePerform x (n, 0)) s = .next t ∧ (t.ctx x.val).cq = k.cq.eraseIdx n ∧ t.mem = s.mem ∧
      (∀ i, i < st.bytes.length → some (Memory.get (t.die d).view (a + i)) = st.bytes[i]?) ∧
      (∀ b, b < a ∨ a + st.bytes.length ≤ b → Memory.get (t.die d).view b = Memory.get (s.die d).view b) ∧
      (t.die d).out.length = (s.die d).out.length + 1 ∧ ∀ e, e ≠ d → t.die e = s.die e) ∧
    ∀ r m, st.at? = some r → st.dev = [(a, m)] → (s.die d).unnumbered a = false → Memory.wf s.mem →
      let w : Nat := if r.wide then 8 else 4
      let old : Nat := ofBytes (s.mem.read a w)
      ∃ t : State, exec (.commitQueuePerform x (n, 0)) s = .next t ∧ (t.ctx x.val).cq = k.cq.eraseIdx n ∧
      ofBytes (t.mem.read a w) = r.kind.new (8 * w) old (r.a.toNat % 2 ^ (8 * w)) (r.b.toNat % 2 ^ (8 * w)) % 2 ^ (8 * w) ∧
      (∀ b, b < a ∨ a + w ≤ b → byteAt t b = byteAt s b) ∧
      (t.ctx x.val).loads = k.loads.map fun l => if l.id = r.load then { l with got := some [BitVec.ofNat 64 old] } else l) ∧
  (∀ (s : State) (d : DieId) (n : Nat) (o : OutWrite), (s.die d.val).out[n]? = some o →
    (∀ e ∈ (s.die d.val).out.take n, e.addr % 2 ^ 48 / 128 ≠ o.addr % 2 ^ 48 / 128) →
    let num := s.lineSeq.get (o.addr / 128) 0 + 1
    ∃ t : State, exec (.homeStackPerform d n) s = .next t ∧ { t with mem := s.mem, lineSeq := s.lineSeq, dies := s.dies } = s ∧
      t.mem = s.mem.write o.addr o.bytes ∧ t.lineSeq.get (o.addr / 128) 0 = num ∧ (t.die d.val).out = (s.die d.val).out.eraseIdx n ∧
      (t.die d.val).view = (s.die d.val).view ∧
      ∀ e : DieId, e ≠ d → t.die e.val = { s.die e.val with updates := (s.die e.val).updates ++ [⟨d.val, o.clock, num, o.addr, o.bytes⟩] }) ∧
  (∀ (s : State) (d : DieId) (n : Nat) (u : Update),
    let k := s.die d.val
    k.updates[n]? = some u → u.src < k.clock.length → u.clock.getD u.src 0 = k.clock.getD u.src 0 + 1 →
    (∀ e, e < 4 → e ≠ u.src → u.clock.getD e 0 ≤ k.clock.getD e 0) → k.unnumbered u.addr = false → Memory.wf k.view →
    ∃ t : State, exec (.dieUpdateApply d n) s = .next t ∧ { t with dies := s.dies } = s ∧ (∀ e, e ≠ d.val → t.die e = s.die e) ∧
      (t.die d.val).updates = k.updates.eraseIdx n ∧ (t.die d.val).out = k.out ∧
      (∀ e, (t.die d.val).clock.getD e 0 = if e = u.src then k.clock.getD e 0 + 1 else k.clock.getD e 0) ∧
      (∀ b, b < u.addr ∨ u.addr + u.bytes.length ≤ b → Memory.get (t.die d.val).view b = Memory.get k.view b) ∧
      ∀ i b, u.bytes[i]? = some b → Memory.get (t.die d.val).view (u.addr + i) =
        if ∃ w ∈ k.own, w.addr ≤ u.addr + i ∧ u.addr + i < w.addr + w.len ∧ u.number < w.number then Memory.get k.view (u.addr + i) else b) ∧
  (∀ (s : State) (d : DieId) (plot : PlotNo) (page : Nat), page < 2 ^ 40 → ∃ t : State, exec (.translationWalk d plot page) s = .next t ∧
    { t with tlb := s.tlb, reads := s.reads } = s ∧ (t.reads, t.tlbFind d.val plot.val page) =
      ((s.walkReads d.val plot.val (page * 65536)).1, some (s.walkReads d.val plot.val (page * 65536)).2) ∧
    ∀ d' p' g', (d', p', g') ≠ (d.val, plot.val, page) → t.tlbFind d' p' g' = s.tlbFind d' p' g') ∧
  (∀ (s : State) (x : CtxId) (n : SReg) (b : Binding),
    let k := s.ctx x.val
    let pos := k.w.spos[n] + b.buf.length
    k.bind[n] = some b → b.kind = 0 → b.few = false → b.part = [] → s.ue = [] → b.buf.length < 4 → b.buf.length < b.total → b.wrap = true ∨ pos < b.total →
    let b1 : Binding := { b with buf := b.buf ++ [⟨s.mem.read (spadBase (coreOfCtx x.val) + b.addr pos) b.size, none⟩] }
    exec (.streamFetch x (n, 0)) s = .next (s.setCtx x.val { k with bind := k.bind.set n (some b1) })) ∧
  (∀ (s : State) (d : DieId), (s.die d.val).refreshNs < 64000 → exec (.refreshWindowAdvance d) s = .next s) ∧
  (∀ (s : State) (d : DieId) (b : Nat), b < 64 → (s.die d.val).refreshNs = 64000 + 1000 * b → ∃ t : State,
    exec (.refreshWindowAdvance d) s = .next t ∧ (t.die d.val).bank = ((s.die d.val).bank + 1) % 64 ∧ (t.die d.val).nsleft = 999 ∧ { t.die d.val with refreshNs := (s.die d.val).refreshNs } = s.die d.val ∧ { t with dies := s.dies } = s ∧
    ∀ e, e ≠ d.val → t.die e = s.die e) ∧
  (∀ (s : State) (n : Nat), exec (.hbmCalibration n) s = .next s ∧ exec (.linkCalibration n) s = .next s) ∧
  ∀ (s : State) (da : Nat),
    let w := da % 2 ^ 40 / 8 * 8
    (w ∉ s.ue → exec (.patrolScrub da) s = .next s) ∧
    (w ∈ s.ue → s.patCount ≠ 0 → exec (.patrolScrub da) s = .next { s with patCount := BitVec.ofNat 16 (min (s.patCount.toNat + 1) 0xFFFF) }) ∧
    (w ∈ s.ue → s.patCount = 0 → ∃ t : State, exec (.patrolScrub da) s = .next t ∧
      { t with hostMsgs := s.hostMsgs, ownerMsix := s.ownerMsix, patCount := s.patCount, patSpace := s.patSpace, patAddr := s.patAddr } = s ∧
      t.patCount = 1 ∧ t.patAddr.toNat = w ∧
      t.patSpace.toNat = (if w < hbmTop then 0 else if 0x9000000000 ≤ w then (if regionOf w = .none then 0 else 1) else if regionOf w = .none then 0 else 2) ∧
      (s.ownerMsix.masked 0 = false → t.hostMsgs.length = s.hostMsgs.length + 1 ∧ t.ownerMsix = s.ownerMsix) ∧
      (s.ownerMsix.masked 0 = true → t.hostMsgs = s.hostMsgs ∧ t.ownerMsix.pending = s.ownerMsix.pending ||| 1))

/-- R47, R123, R219, R220, R222, R223, R230, R231, R254, R255, R317, R320, R354, R355: strands come and go. A park ends when what it waits
for can move; a record that passes its tests starts a strand with its words, one that does not is discarded; a group starts as a whole and
becomes ready in one cycle; a context that has drained, or that is released with its record, becomes free; a data error verifies its
interval. The model's own choices it rests on: log entries 54, 81, 96, 99. -/
def Obligations.StrandEvents : Prop :=
  (∀ (s : State) (x : CtxId) (a : Nat) (full : Bool), (s.ctx x.val).st = .parked (.granule a full) → s.isFull (coreOfCtx x.val) a = full →
    exec (.parkEnd x) s = .next (s.setCtx x.val { s.ctx x.val with st := .ready, readyAt := s.cycleNow (coreOfCtx x.val), parkOn := none })) ∧
  (∀ (s : State) (x : CtxId) (n : KReg) (need room : Nat), (s.ctx x.val).st = .parked (.channel n need room) →
    need ≤ ((s.ctx x.val).chan[n]).recv.length → ((s.ctx x.val).chan[n]).sendWords + room ≤ 64 →
    exec (.parkEnd x) s = .next (s.setCtx x.val { s.ctx x.val with st := .ready, readyAt := s.cycleNow (coreOfCtx x.val), parkOn := none })) ∧
  (∀ (s : State) (x : CtxId) (v : W64) (qn : Nat) (q : Queue), (s.ctx x.val).st = .parked (.queue v) → s.queueName (s.ctx x.val).plot v = some (.task qn) →
    s.queue (s.ctx x.val).plot qn = some q → q.failing = true → q.retryAt ≤ s.tick →
    exec (.qpushRetry x) s = .next (s.setCtx x.val { s.ctx x.val with st := .ready, readyAt := s.cycleNow (coreOfCtx x.val), parkOn := none })) ∧
  (∀ (s : State) (cl : ClusterId) (plot : PlotNo) (n : Nat) (c : CoreId) (it : RunItem) (r : RunRec), s.itemAt cl.val plot n = some (it, r) → r.gsize = 0 →
    (it.bad = true → (s.plot plot).log.cfg.toNat % 32 = 0 → plot ≠ 0 → it.count = 1 → ∃ t : State, exec (.takeRecord cl plot n c) s = .next t ∧
      t.runQueue cl.val plot = (s.runQueue cl.val plot).eraseIdx n ∧ t.ctxs = s.ctxs ∧ t.mem = s.mem ∧
      (t.plot plot).log.lost = BitVec.ofNat 32 (min ((s.plot plot).log.lost.toNat + 1) (2 ^ 32 - 1))) ∧
    (it.bad = false → s.isNext cl.val plot n = true → ∀ y, (s.coresFor cl.val plot r.kslot).find? (fun e => e.1 == c.val) = some (c.val, y) →
      ∃ t : State, exec (.takeRecord cl plot n c) s = .next t ∧ t.runQueue cl.val plot = (s.runQueue cl.val plot).eraseIdx n ∧
      (t.ctx y).st = .loading ∧ (t.ctx y).fresh = true ∧ (t.ctx y).taskid = r.words.getD 1 0 ∧ (t.ctx y).plot = plot ∧ (t.ctx y).kslot.toNat = r.kslot ∧
      (t.ctx y).w.pc = .at (BitVec.ofNat 32 r.entry) ∧ (t.ctx y).sh = (t.ctx y).w ∧
      ((t.ctx y).w.g[(1 : GReg)]).toNat = (r.words.getD 0 0).toNat % 65536 ∧
      (∀ i : GReg, 2 ≤ i.val → i.val ≤ 7 → (t.ctx y).w.g[i] = r.words.getD i.val 0) ∧ (∀ i : GReg, 8 ≤ i.val → (t.ctx y).w.g[i] = 0) ∧
      (∀ z, z ≠ y → t.ctx z = s.ctx z) ∧ t.mem = s.mem)) ∧
  (∀ (s : State) (cl : ClusterId) (plot : PlotNo) (n : Nat) (it : RunItem) (r : RunRec), s.itemAt cl.val plot n = some (it, r) → r.gsize ≠ 0 →
    it.bad = false → s.isNext cl.val plot n = true →
    let xs := ((s.coresFor cl.val plot r.kslot).take it.count).map Prod.snd
    ∃ t : State, exec (.groupPlacement cl plot n) s = .next t ∧
      t.runQueue cl.val plot = (s.runQueue cl.val plot).take n ++ (s.runQueue cl.val plot).drop (n + it.count) ∧
      t.group s.nextGroup = some
        { plot := plot, gang := BitVec.ofNat 16 r.gang, index := BitVec.ofNat 16 r.group, members := xs
          live := List.replicate it.count true, arrived := List.replicate it.count false, gen := 0
          deadline := s.tick + 4 * (s.sleffOf plot r.kslot).1, slice := 4 * (s.sleffOf plot r.kslot).1, checked := false, stop := none } ∧
      (∀ x ∈ xs, (t.ctx x).st = .loading ∧ (t.ctx x).group = s.nextGroup) ∧ ∀ z, z ∉ xs → t.ctx z = s.ctx z) ∧
  (∀ (s : State) (x : CtxId) (g : Group), s.group (s.ctx x.val).group = some g → x.val ∈ g.members → (∀ y ∈ g.members, (s.ctx y).st = .loading) →
    ∃ t : State, exec (.loadingComplete x) s = .next t ∧ { t with ctxs := s.ctxs } = s ∧
      (∀ y ∈ g.members, t.ctx y = { s.ctx y with st := .ready, readyAt := s.cycleNow (coreOfCtx y), parkOn := none }) ∧
      ∀ y, y ∉ g.members → t.ctx y = s.ctx y) ∧
  (∀ (s : State) (x : CtxId),
    let k := s.ctx x.val
    (k.cq ≠ [] → exec (.drainingEnd x) s = .next s) ∧
    (k.st = .draining → k.fly = [] → k.cq = [] → (∀ l ∈ k.loads, l.isReply = true ∨ (s.loadCause (coreOfCtx x.val) k l).isSome = true) →
      ∃ t : State, exec (.drainingEnd x) s = .next t ∧ t.ctx x.val = k.vacated ∧ k.vacated.st = .free ∧ (∀ y, y ≠ x.val → t.ctx y = s.ctx y) ∧
      (t.gang k.plot (gangOf k.taskid)).rem =
        (if k.w.wc = 0 then (s.gang k.plot (gangOf k.taskid)).rem else (((s.gang k.plot (gangOf k.taskid)).rem + k.w.wc.toInt : Int).bmod (2 ^ 64))) ∧
      t.runq = s.runq ∧ t.mem = s.mem)) ∧
  (∀ (s : State) (x : CtxId),
    let k := s.ctx x.val
    k.releasing = true → k.st = .ready → k.fly = [] → (∀ l ∈ k.loads, l.isReply = true) → ∃ t : State, exec (.releaseAsRecord x) s = .next t ∧
      t.ctx x.val = k.vacated ∧ (∀ y, y ≠ x.val → t.ctx y = s.ctx y) ∧ t.mem = s.mem ∧
      t.runQueue (clusterOf (coreOfCtx x.val)) k.plot = s.runQueue (clusterOf (coreOfCtx x.val)) k.plot ++
        [⟨[BitVec.ofNat 64 (k.kslot.toNat * 2 ^ 48 + k.w.pc.addr.toNat * 2 ^ 16 + 2 ^ 11), k.taskid, k.w.g[(2 : GReg)], k.w.g[(3 : GReg)],
          k.w.g[(4 : GReg)], k.w.g[(5 : GReg)], k.w.g[(6 : GReg)], k.w.g[(7 : GReg)]], s.tick⟩]) ∧
  ∀ (s : State) (x : CtxId) (code check : Nat) (faddr : W32) (slot : Nat),
    let k := s.ctx x.val
    k.raised = some ⟨code, check, 0, some (faddr, slot)⟩ → code = 0x16 ∨ code = 0x17 →
    k.copying = none →
    (k.ver = none → (∀ y, coreOfCtx y = coreOfCtx x.val → (s.ctx y).ver = none) → k.shadowErr = true →
      exec (.dataErrorVerification x) s = .next (s.fatal x.val 0x10 0)) ∧
    (k.ver = none → (∀ y, coreOfCtx y = coreOfCtx x.val → (s.ctx y).ver = none) → k.shadowErr = false → ∃ v : Verification, v.code = code ∧ v.check = check ∧ v.faddr = faddr ∧ v.slot = slot ∧
      v.runB = false ∧ v.issues = 0 ∧ exec (.dataErrorVerification x) s = .next (s.setCtx x.val { k.rollback with st := .running, ver := some v })) ∧
    (∀ v, k.ver = some v → v.runB = false → (v.code, v.check, v.faddr, v.slot) = (code, check, faddr, slot) →
      exec (.dataErrorVerification x) s = .next (s.takeTrap x.val ⟨code, check, 0, some (faddr, slot)⟩ slot faddr)) ∧
    ∀ v, k.ver = some v → v.runB = true ∨ (v.code, v.check, v.faddr, v.slot) ≠ (code, check, faddr, slot) →
      ∃ t : State, exec (.dataErrorVerification x) s = .next t ∧ (t.core (coreOfCtx x.val)).offline = true ∧ (t.core (coreOfCtx x.val)).running = none

namespace Sys2Proof.Stated

/-- An operation whose two ends, or whose one, are in its core's scratchpad, with no tile entry and no error in the way. -/
def QuietCore (s : State) (e : EngineOp) : Prop :=
  s.coreTiles e.core = [] ∧ s.ue = [] ∧ (s.core e.core).offline = false ∧ e.core < 640 ∧ Memory.wf s.mem

/-- Bytes stand at a device address, and every other byte is as it was. -/
def BytesStored (s t : State) (a : Nat) (bs : List Byte) : Prop :=
  (∀ i, i < bs.length → some (byteAt t (a + i)) = bs[i]?) ∧ ∀ b, b < a ∨ a + bs.length ≤ b → byteAt t b = byteAt s b

/-- An engine's record after a piece of work. -/
def EngineNow (t : State) (id : Nat) (f : EngineOp → Bool) : Prop := ∃ e, t.engine id = some e ∧ f e = true

/-- Sum of signed parts of a slice (R192). -/
def sliceSum (g n : Nat) (vs : List PlaneVal) : Int :=
  ((vs.take n).map fun v => if v.neg then -((v.mag / 2 ^ (4 * g) % 16 : Nat) : Int) else (v.mag / 2 ^ (4 * g) % 16 : Nat)).sum

end Sys2Proof.Stated

/-- R191, R192, R245, R259, R299 to R301, R304, R305, R309, R311: the engines at work. A copy's piece moves bytes from source row to
destination row and fills granules; a failure ends the operation with its CAUSE at its position; a plane builder counts planes, writes
slices as R192 lays them out and then the header; a loader fills an empty item and a storer empties a full one after its bytes are
performed; a weight load writes its rows; the end writes the completion object, fills its granule and removes the operation. The model's
own choices it rests on: log entries 72, 101, 102, 103, 107, 152. -/
def Obligations.EngineEvents : Prop :=
  (∀ (s : State) (id : Nat) (e : EngineOp), s.engine id = some e → s.forked e = false → exec (.copyEngineTransfer id) s = .next s ∧
    exec (.planeBuildSlice id) s = .next s ∧ exec (.weightLoadOperation id) s = .next s ∧ exec (.feedLoaderItem id) s = .next s ∧
    exec (.feedStorerItem id) s = .next s) ∧
  (∀ (s : State) (id : Nat) (e : EngineOp), s.engine id = some e → e.op = 0x1E → e.finished = false → s.forked e = true →
    let len := e.w 2 % 2 ^ 32
    let row := e.pos / len
    let n := min 512 (len - e.pos % len)
    let so := row * (e.w 3 % 2 ^ 32) + e.pos % len
    let src := endOff (e.w 0) + so
    let dst := endOff (e.w 1) + row * (e.w 3 / 2 ^ 32 % 2 ^ 32) + e.pos % len
    (∀ (c : Nat) (s1 : State) (e1 : EngineOp), s.endRead e (e.w 0) so n = .error (c, s1) → s1.engine id = some e1 →
      ∃ t : State, exec (.copyEngineTransfer id) s = .next t ∧ { t with engines := s1.engines } = s1 ∧ t.engine id = some { e1 with cause := some (c, e.pos) }) ∧
    (e.soft = [] → endSpace (e.w 0) = 0 → endSpace (e.w 1) = 0 → QuietCore s e → s.spadOk e.plot e.core src n = true → s.spadOk e.plot e.core dst n = true → 0 < len →
      ∃ t : State, exec (.copyEngineTransfer id) s = .next t ∧ EngineNow t id (fun x => x.pos == e.pos + n && x.cause == none) ∧
        BytesStored s t (spadBase e.core + dst) (s.mem.read (spadBase e.core + src) n) ∧ (∀ i, i < n → t.isFull e.core (dst + i) = true) ∧ t.ctxs = s.ctxs)) ∧
  (∀ (s : State) (id : Nat) (e : EngineOp), s.engine id = some e → e.op = 0x22 → e.finished = false → s.forked e = true →
    (e.qcw = 0 → e.fmt ≠ .nq4 → ∃ t : State, exec (.planeBuildSlice id) s = .next t ∧ { t with engines := s.engines } = s ∧
      EngineNow t id fun x => x.pos == e.pos && x.qcw == BitVec.ofNat 64 (max e.preq e.fmt.least)) ∧
    (e.qcw ≠ 0 → e.pos < e.total → (∀ (vs : List PlaneVal) (s1 : State) (e1 : EngineOp), s.buildSlice e = .ok (vs, s1) → s1.engine id = some e1 →
      ∃ t : State, exec (.planeBuildSlice id) s = .next t ∧ { t with engines := s1.engines } = s1 ∧
        EngineNow t id (fun x => x.pos == e1.pos + 1 && x.cause == e1.cause && x.src == e1.src)) ∧
      ∀ (c : Nat) (s1 : State) (e1 : EngineOp), s.buildSlice e = .error (c, s1) → s1.engine id = some e1 →
        ∃ t : State, exec (.planeBuildSlice id) s = .next t ∧ { t with engines := s1.engines } = s1 ∧ t.engine id = some { e1 with cause := some (c, e.pos) }) ∧
    (e.qcw ≠ 0 → e.pos = e.total → endSpace (e.w 1) = 0 → QuietCore s e → s.spadOk e.plot e.core (endOff (e.w 1)) 64 = true →
      e.kcnt < 2 ^ 32 → 4 ≤ e.qcw.toNat → e.qcw.toNat ≤ 16 → ∃ (t : State) (bs : List Byte), exec (.planeBuildSlice id) s = .next t ∧
      EngineNow t id (fun x => x.pos == e.pos + 1 && x.cause == none) ∧ bs.length = 64 ∧ BytesStored s t (spadBase e.core + endOff (e.w 1)) bs ∧
      ofBytes (bs.take 8) = e.kcnt * 2 ^ 32 + e.w 2 / 2 ^ 60 % 16 * 16 + (e.qcw.toNat / 4 - 1) * 4 + e.w 2 / 2 ^ 58 % 4 ∧
      ofBytes ((bs.drop 16).take 16) = e.mask % 2 ^ 128 ∧ ofBytes ((bs.drop 8).take 8) = 0 ∧ ofBytes (bs.drop 32) = 0)) ∧
  (∀ (kind g : Nat) (vs : List PlaneVal),
    let n : Nat := if kind = 1 then 64 else 128
    let x := ofBytes (sliceOf kind g vs)
    vs.length = n → (sliceOf kind g vs).length = (if kind = 1 then 48 else 96) ∧
      (∀ i v, vs[i]? = some v → x.testBit i = v.neg ∧ ∀ b, b < 4 → x.testBit ((b + 1) * n + i) = v.mag.testBit (4 * g + b)) ∧
      ((x / 2 ^ (5 * n) % 2 ^ 64 : Nat) : Int) = sliceSum g n vs % 2 ^ 64 ∧ x < 2 ^ (5 * n + 64)) ∧
  (∀ (s : State) (id a : Nat) (e : EngineOp) (bs : List Byte), s.feeding id 0 = some e → e.itemAddrs = [a] → s.allFull e.core a e.elemSize = false →
    s.endRead e (e.w 1) e.itemOff e.elemSize = .ok (bs, s) → bs.length = e.elemSize → QuietCore s e → s.spadOk e.plot e.core a e.elemSize = true →
    ∃ t : State, exec (.feedLoaderItem id) s = .next t ∧ EngineNow t id (fun x => x.pos == e.pos + 1 && x.cause == none) ∧
      BytesStored s t (spadBase e.core + a) bs ∧ (∀ i, i < e.elemSize → t.isFull e.core (a + i) = true) ∧ t.ctxs = s.ctxs) ∧
  (∀ (s : State) (id : Nat) (e : EngineOp), s.feeding id 0 = some e → (∃ a ∈ e.itemAddrs, s.allFull e.core a e.elemSize = true) →
    exec (.feedLoaderItem id) s = .next s) ∧
  (∀ (s : State) (id a da : Nat) (e : EngineOp), s.feeding id 1 = some e → e.itemAddrs = [a] → s.allFull e.core a e.elemSize = true →
    QuietCore s e → s.spadOk e.plot e.core a e.elemSize = true → (e.w 7).testBit 63 = false → s.enc = [] → a % 16 = 0 →
    s.handleAt e.plot e.gen.toNat (endHandle (e.w 1)) (endOff (e.w 1) + e.itemOff) e.elemSize false true = .ok (.dev da) →
    s.engineAddr e.plot da = some da → da + e.elemSize ≤ hbmTop → da % 128 + e.elemSize ≤ 128 → (∀ d, Memory.wf (s.die d).view ∧ (s.die d).out = []) →
    ∃ t : State, exec (.feedStorerItem id) s = .next t ∧ EngineNow t id (fun x => x.pos == e.pos + 1 && x.cause == none) ∧
      BytesStored s t da (s.mem.read (spadBase e.core + a) e.elemSize) ∧
      (∀ d, d < 4 → (t.die d).view.read da e.elemSize = s.mem.read (spadBase e.core + a) e.elemSize) ∧
      ∀ i, i < e.elemSize → t.isFull e.core (a + i) = false) ∧
  (∀ (s : State) (id : Nat) (e : EngineOp) (bs : List Byte),
    let n := min 512 (e.w 2 - e.pos)
    let a := e.w 1 + e.pos
    s.engine id = some e → e.op = 0x40 → e.finished = false → s.forked e = true → Memory.wf s.mem →
    (e.w 3 % 8 < 4 → e.wsDies = [e.w 3 % 8]) ∧ (e.w 3 % 8 = 4 → e.wsDies = [0, 1, 2, 3]) ∧
    ((∃ d ∈ e.wsDies, s.wsOk e.plot d a n = false) → ∃ t : State, exec (.weightLoadOperation id) s = .next t ∧ { t with engines := s.engines } = s ∧
      t.engine id = some { e with cause := some (4, e.pos) }) ∧
    ((∀ d ∈ e.wsDies, s.wsOk e.plot d a n = true) → s.endRead e (e.w 0) e.pos n = .ok (bs, s) → bs.length = n → ∃ t : State, exec (.weightLoadOperation id) s = .next t ∧
      EngineNow t id (fun x => x.pos == e.pos + n && x.cause == none) ∧ t.ctxs = s.ctxs ∧
      (∀ d ∈ e.wsDies, ∀ i, i < n → some (byteAt t (wsBase d + a + i)) = bs[i]?) ∧
      ∀ b, (∀ d ∈ e.wsDies, b < wsBase d + a ∨ wsBase d + a + n ≤ b) → byteAt t b = byteAt s b)) ∧
  (∀ (s : State) (id : Nat) (e : EngineOp), s.engine id = some e → e.finished = true → (∀ l n, e.owner ≠ .node l n) → e.saved = false → e.op ≠ 0x1F →
    QuietCore s e → s.spadOk e.plot e.core e.cpl 16 = true → e.cpl % 16 = 0 →
    (e.failure = none → (e.w 7).testBit 63 = false ∨ e.op = 0x23 → ∃ (t : State) (bs : List Byte), exec (.completionObjectLanding id) s = .next t ∧ t.engine id = none ∧
      bs.length = 16 ∧ BytesStored s t (spadBase e.core + e.cpl) bs ∧ t.isFull e.core e.cpl = true ∧ t.ctxs = s.ctxs ∧
      ofBytes (bs.take 8) = (e.flags * 2 ^ 48 + e.fix * 2 ^ 32 + min e.pos e.total) % 2 ^ 64 ∧ ofBytes (bs.drop 8) = 2 ^ 48) ∧
    ∀ c p, e.failure = some (c, p) → p ≤ 0xFFFFFFFF → e.plot ≠ 0 → (s.plot e.plot).log.cfg.toNat % 32 = 0 →
      ∃ (t : State) (bs : List Byte), exec (.completionObjectLanding id) s = .next t ∧ t.engine id = none ∧ bs.length = 16 ∧ BytesStored s t (spadBase e.core + e.cpl) bs ∧
      t.isFull e.core e.cpl = true ∧ ofBytes (bs.take 8) = (c * 2 ^ 56 + e.flags * 2 ^ 48 + e.fix * 2 ^ 32 + min e.pos e.total) % 2 ^ 64 ∧
      ofBytes (bs.drop 8) = (if p = 0xFFFFFFFF then 2 ^ 48 + p else p) ∧
      (t.plot e.plot).log.lost = BitVec.ofNat 32 (min ((s.plot e.plot).log.lost.toNat + 1) (2 ^ 32 - 1)))

/-- R236, R315, R318 to R321, R323 to R326, R328: task queues, gangs and launches. A push is answered with its bundle's issue, and its
record stands last; a pop takes the first; the heath refills the slot and the mapping tick maps the queue that waits; a gang ends when
nothing of it is left, and its identifier is free 100 µs later; a launch starts its nodes as their edges allow and writes its status when
all are done. The model's own choices it rests on: log entries 72, 75, 97, 98, 118, 120, 179, 183. -/
def Obligations.QueueAndLaunchEvents : Prop :=
  (∀ (s : State) (x : CtxId) (b : Fetched) (c1 : Context),
    let k := s.ctx x.val
    let core := coreOfCtx x.val
    let s1 : State := (({ s with due := s.due.filter (· != core) } : State).charge core x.val).beginIssue core x.val true k b
    s.micro = [] → s.issuer core = some x.val → k.pushing = true → k.raised = none → k.shadowErr = false → k.failure = none →
    k.ver = none → s.fetch k = .ok (b, none) → s1.issueBundle core k b none = .ok c1 → c1.br ≠ .exit ∨ b.ckpt = true →
    s1.iss.answer = true ∧ ∃ t : State, exec (.queueAccept x) s = .next t ∧ t.ctx x.val = c1 ∧ c1.st = .running ∧
      (b.ckpt = true → t.micro.head? = some (.commit core b.hdr.live)) ∧ ∀ y, y ≠ x.val → t.ctx y = s.ctx y) ∧
  (∀ (s : State) (x : Nat) (v : W64) (rec : List W64) (qn : Nat) (q : Queue), s.queueName (s.ctx x).plot v = some (.task qn) →
    s.queue (s.ctx x).plot qn = some q → q.mapped = true → q.tail ≤ q.head → q.slot.length < 32 →
    (s.doPost x (.qpush v rec)).queue (s.ctx x).plot qn = some { q with slot := q.slot ++ [rec] } ∧ (s.doPost x (.qpush v rec)).mem = s.mem) ∧
  (∀ (s : State) (x : CtxId) (l : Load) (v : W64) (qn : Nat) (q : Queue),
    let k := s.ctx x.val
    k.popping = some (l, v) → s.queueName k.plot v = some (.task qn) → s.queue k.plot qn = some q →
    (s.fnHeld k.plot = true → exec (.queueHeadRemove x) s = .next s) ∧ (s.fnHeld k.plot = false →
    (∀ (r : List W64) (rest : List (List W64)), q.slot = r :: rest → ∃ t : State, exec (.queueHeadRemove x) s = .next t ∧ t.queue k.plot qn = some { q with slot := rest } ∧
      t.ctx x.val = { k with loads := k.loads.map fun e => if e.id = l.id then { e with got := some r } else e } ∧ t.mem = s.mem) ∧
    (q.slot = [] → q.tail ≤ q.head → exec (.queueHeadRemove x) s = .next (s.setCtx x.val
      { k with loads := k.loads.map fun e => if e.id = l.id then { e with got := some (List.replicate 8 0) } else e })) ∧
    (q.slot = [] → q.head < q.tail → exec (.queueHeadRemove x) s = .next s))) ∧
  (∀ (s : State) (plot : PlotNo) (qn : Nat) (q : Queue), s.queue plot qn = some q → s.fnHeld plot = false → q.mapped = true → q.head < q.tail →
    q.slot.length < 32 → q.failing = false →
    (∀ a, s.heathAt plot q q.head true false = .ok a → s.ueHit a 64 = false → ∃ (t : State) (rec : List W64), exec (.heathRefill plot qn) s = .next t ∧
      rec.length = 8 ∧ (∀ i (w : W64), rec[i]? = some w → w.toNat = ofBytes (((s.devRead (homeDie q.home) a 64).drop (8 * i)).take 8)) ∧
      t.queue plot qn = some { q with slot := q.slot ++ [rec], head := q.head + 1, failing := false } ∧ t.mem = s.mem) ∧
    ∀ c, s.heathAt plot q q.head true false = .error c → ∃ t : State, exec (.heathRefill plot qn) s = .next t ∧
      t.queue plot qn = some { q with failing := true, retryAt := s.tick + 4000 }) ∧
  (∀ (s : State) (bd p n : Nat) (q : Queue), s.tick % 4000 = 0 → (s.mappedOf bd).length < 1024 → s.bestWaiting bd = some (p, n, q) →
    (s.mapQueue p n q).bestWaiting bd = none → exec (.queueMappingTick bd) s = .next (s.mapQueue p n q) ∧
      (s.mapQueue p n q).queue p n = some { q with mapped := true, mappedAt := s.tick }) ∧
  (∀ (s : State) (bd p n : Nat) (q : Queue), s.tick < 2 ^ 64 → s.bestWaiting bd = some (p, n, q) → q.mapped = false ∧ q.head < q.tail ∧ q.home = bd ∧
    ∀ e ∈ s.queuesOf bd, e.2.2.waits = true → s.fnHeld e.1 = false → s.queueLevel e.2.2 ≤ s.queueLevel q) ∧
  (∀ (s : State) (plot : PlotNo) (gang : Nat) (g : Gang), s.gangs.find (gangKey plot gang) = some g → g.rem = 0 → g.ended = none → gang < 65536 →
    (∀ e ∈ s.ctxs, e.2.st = .free ∨ e.2.plot ≠ plot ∨ gangOf e.2.taskid ≠ gang) →
    (∀ e ∈ s.runq, e.1 % 256 = plot.val → ∀ r ∈ e.2, r.gang ≠ gang) → (∀ e ∈ s.restore, ∀ y ∈ e.2, y.plot ≠ plot ∨ y.gang.toNat ≠ gang) →
    ∃ t : State, exec (.gangEnd plot gang) s = .next t ∧ { t with gangs := s.gangs, landed := s.landed } = s ∧
      t.gangs.find (gangKey plot gang) = some { g with ended := some s.tick } ∧ ∀ l, l ∈ t.landed ↔ l ∈ s.landed ∧ ¬ (l.plot = plot ∧ l.gang.toNat = gang)) ∧
  (∀ (s : State) (plot : PlotNo) (gang t0 : Nat) (g : Gang), s.gangs.find (gangKey plot gang) = some g → g.ended = some t0 → g.launch = none →
    t0 + 400000 ≤ s.tick → ∃ t : State, exec (.gangIdFree plot gang) s = .next t ∧ { t with gangs := s.gangs } = s ∧ t.gangs.find (gangKey plot gang) = none ∧
      ∀ k, k ≠ gangKey plot gang → t.gangs.find k = s.gangs.find k) ∧
  (∀ (s : State) (plot : PlotNo) (w : W64) (g : Graph),
    let asel := w.toNat / 2 ^ 16 % 2 ^ 16
    let h := w.toNat / 2 ^ 32
    let bad := w.toNat / 2 % 2 ^ 15 ≠ 0 ∨ g.aselmax < asel ∨ (s.plot plot).policy.written ≠ 15
    (s.plot plot).live = true → (s.plot plot).graphs.find h = some g →
    (bad → plot ≠ 0 → (s.plot plot).log.cfg.toNat % 32 = 0 → ∃ t : State, exec (.launch plot w) s = .next t ∧ t.launches = s.launches ∧ t.mem = s.mem ∧
      (t.plot plot).log.lost = BitVec.ofNat 32 (min ((s.plot plot).log.lost.toNat + 1) (2 ^ 32 - 1))) ∧
    (¬ bad → ∃ t : State, exec (.launch plot w) s = .next t ∧ t.ctxs = s.ctxs ∧ t.nextLaunch = s.nextLaunch + 1 ∧ t.launches.find s.nextLaunch =
      some { plot := plot, graph := h, asel := asel, notify := w.toNat.testBit 0, nodes := g.nodes.map fun _ => .waiting, cause := none })) ∧
  (∀ (s : State) (l n : Nat) (x : Launch) (g : Graph) (nd : List W64), s.launches.find l = some x → (s.plot x.plot).graphs.find x.graph = some g →
    g.nodes[n]? = some nd → x.nodes[n]? = some .waiting → x.cause = none →
    (∀ e ∈ g.edges, e.2.2 = n → x.nodes[e.2.1]? = some .done ∨ (e.1 = true ∧ x.nodes[e.2.1]? = some .started)) →
    let kind := (nd.getD 0 0).toNat / 2 ^ 56
    (kind = 2 ∨ kind = 3 → ∃ (t : State) (e : EngineOp), exec (.graphNodeStart l n) s = .next t ∧ t.engines = s.engines ++ [e] ∧
      (e.id, e.op, e.owner, e.plot, e.pos) = (s.nextEngine, (if kind = 2 then 0x1E else 0x40), .node l n, x.plot, 0) ∧
      (e.desc.getD 0 0, e.desc.getD 1 0, e.desc.getD 2 0, e.desc.getD 3 0) = (nd.getD 1 0, nd.getD 2 0, nd.getD 3 0, nd.getD 4 0) ∧
      t.launches.find l = some { x with nodes := x.nodes.set n .started } ∧ t.ctxs = s.ctxs) ∧
    ∀ (gang : Nat) (bs : List Byte) (s1 : State), kind = 1 → s.newGang x.plot = some gang → s.plotRead 0 x.plot (g.argbase + 64 * (x.asel * g.nodes.length + n)) 64 = some bs →
      s.placeGroups x.plot nd (bytesWords 8 bs) gang (nodeWord nd 2) (bits (nodeWord nd 1) 48 16) 0 = some s1 →
      ∃ t : State, exec (.graphNodeStart l n) s = .next t ∧ t.launches.find l = some { x with nodes := x.nodes.set n .started } ∧
        (t.gang x.plot gang).launch = some (l, n) ∧ t.ctxs = s.ctxs ∧ t.runq = s1.runq) ∧
  ∀ (s : State) (l n : Nat) (x : Launch) (g : Graph) (e : EngineOp), s.launches.find l = some x → (s.plot x.plot).graphs.find x.graph = some g →
    x.nodes[n]? = some .started → s.engines.find? (fun o => o.owner == .node l n) = some e → e.noted = true → e.failure = none →
    (¬ (∀ i y, x.nodes[i]? = some y → i = n ∨ y = .done ∨ (x.cause ≠ none ∧ y = .waiting)) → ∃ t : State, exec (.graphNodeComplete l n) s = .next t ∧
      t.launches.find l = some { x with nodes := x.nodes.set n .done } ∧ (∀ o, o ∈ t.engines ↔ o ∈ s.engines ∧ o.id ≠ e.id) ∧ t.mem = s.mem) ∧
    ((∀ i y, x.nodes[i]? = some y → i = n ∨ y = .done ∨ (x.cause ≠ none ∧ y = .waiting)) → (s.allPerformed = false → exec (.graphNodeComplete l n) s = .next s) ∧
      (s.allPerformed = true → ∃ t : State, exec (.graphNodeComplete l n) s = .next t ∧ t.launches.find l = none ∧ t.ctxs = s.ctxs))

/-- R229, R353, R376 to R383: stops, saves and restores. A passed deadline with nothing waiting is renewed, and otherwise the expired
group is pre-empted at its checkpoints, which it has 2 µs to reach; a settled group is written and its contexts become free, a pre-empted
one waiting again; a placed group holds its contexts while its object is restoring and is then installed as a whole, or given up; the
estate resumes a held group or hands its record to the plot. The model's own choices it rests on: log entries 109, 110, 112, 114, 116,
117, 158. -/
def Obligations.StopAndRestoreEvents : Prop :=
  (∀ (s : State) (gid : Nat) (g : Group), s.group gid = some g → g.checked = false → g.stop = none → g.deadline ≤ s.tick → s.liveMembers gid g ≠ [] →
    ((∀ w ∈ s.works g.cluster, w.level < s.groupEff gid g ∨ s.placeable g.cluster w = true) →
      exec (.sliceDeadline gid) s = .next (s.setGroup gid { g with deadline := s.tick + g.slice })) ∧
    ∀ w, (s.works g.cluster).filter (fun w => decide (s.groupEff gid g ≤ w.level) && !s.placeable g.cluster w) = [w] → s.expired g.cluster = [gid] →
      (s.without [gid]).placeable g.cluster w = true → (∀ x ∈ g.members, (s.ctx x).shadowErr = false) → ∃ (t : State) (obj : Nat) (us : List Nat), exec (.sliceDeadline gid) s = .next t ∧
      t.group gid = some { g with checked := true, stop := some ⟨.preempt, obj, us, s.tick, true, s.groupEff gid g, false, []⟩ } ∧
      (∀ x, x ∉ g.members → t.ctx x = s.ctx x) ∧ ∀ x ∈ g.members, (s.ctx x).st = .running → t.ctx x = s.ctx x) ∧
  (∀ (s : State) (gid : Nat) (g : Group) (st : Stop), s.group gid = some g → g.stop = some st → st.atCheckpoint = true → st.asked + 8000 ≤ s.tick →
    (g.members.filter fun x => decide (x < 5120)).Nodup → (∀ x ∈ g.members, (s.ctx x).shadowErr = false) → ∃ t : State, exec (.ckwaitExpiry gid) s = .next t ∧ t.group gid = some { g with stop := some { st with atCheckpoint := false } } ∧
      (∀ x ∈ g.members, x < 5120 → (s.ctx x).ver = none → (s.ctx x).handed = false → (s.ctx x).st ≠ .free → (s.ctx x).st ≠ .draining →
        t.ctx x = if s.cycleDue x then s.ctx x else { (s.ctx x).rollback with st := .stopped }) ∧ ∀ x, x ∉ g.members → t.ctx x = s.ctx x) ∧
  (∀ (s s2 : State) (gid : Nat) (g : Group) (st : Stop) (l : List Captured), s.group gid = some g → g.stop = some st →
    let ms := s.liveMembers gid g
    ms ≠ [] → (∀ m ∈ ms, s.memberSettled m.2 = true ∧ s.memberLost m.2 = false) →
    (if st.kind = .preempt then s else ms.foldl (fun s m => s.sendWc m.2) s).captureAll st.failed ms = .done s2 l → s2.restore = s.restore →
    (st.begun = false → ∃ t : State, exec (.groupSave gid) s = .next t ∧ t.group gid = some { g with stop := some { st with begun := true } } ∧
      t.ctxs = s2.ctxs ∧ t.restore = s.restore) ∧
    (st.begun = true → ∃ t : State, exec (.groupSave gid) s = .next t ∧ t.group gid = none ∧ (∀ c ∈ l, (t.ctx c.ctx).st = .free) ∧
      (∀ x, (∀ c ∈ l, c.ctx ≠ x) → (t.ctx x).st = (s2.ctx x).st) ∧
      (st.kind = .preempt → ∃ e : Saved, t.restoreList g.cluster = s.restoreList g.cluster ++ [e] ∧
        (e.obj, e.plot, e.gang, e.strands, e.level, e.place) = (st.obj, g.plot, g.gang, l.length, st.level, [])) ∧
      (st.kind ≠ .preempt → t.restore = s.restore))) ∧
  (∀ (s : State) (cl : ClusterId) (w : Work) (x : Saved) (h : ObjHeader) (ims : List ImageIn) (xs : List Nat), s.nextWork cl.val = some w → w.saved = true →
    (s.restoreList cl.val)[w.n]? = some x → s.savedImages cl.val x = some (h, ims) → s.placeIn cl.val x.plot ims = some xs →
    ∃ t : State, exec (.restorePlacement cl) s = .next t ∧ t.restoreList cl.val = (s.restoreList cl.val).set w.n { x with place := xs } ∧
      (∀ y ∈ xs, (t.ctx y).st = .loading ∧ (t.ctx y).plot = x.plot ∧ gangOf (t.ctx y).taskid = x.gang.toNat) ∧ (∀ y, y ∉ xs → t.ctx y = s.ctx y) ∧
      (x.cres ≠ none → t.mem = s.mem)) ∧
  (∀ (s : State) (cl : ClusterId) (n : Nat) (x : Saved) (h : ObjHeader) (ims ims1 : List ImageIn), (s.restoreList cl.val)[n]? = some x → x.place ≠ [] →
    s.savedImages cl.val x = some (h, ims) → (∀ y ∈ x.place, s.coreUsable x.plot (coreOfCtx y) = true) → enginesDone ims = true →
    ims1.length = x.place.length → x.place.Nodup →
    checkImages (((s.plot x.plot).kernels.find h.kslot).elim [] Kernel.live) ims = .ok ims1 →
    ∃ (t : State) (g : Group), exec (.groupRestore cl n) s = .next t ∧ t.restoreList cl.val = (s.restoreList cl.val).eraseIdx n ∧ t.group s.nextGroup = some g ∧
      (g.plot, g.gang.toNat, g.index.toNat, g.gen.toNat, g.stop) = (x.plot, h.gang % 65536, h.index % 65536, h.w6 / 2 ^ 32 % 2 ^ 32, none) ∧
      g.deadline = s.tick + 4 * (s.sleffOf x.plot h.kslot).1 ∧
      ∀ (i : Nat) (im : ImageIn) (y : Nat), ims1[i]? = some im → x.place[i]? = some y →
        (t.ctx y).st = (if h.w6.testBit (16 + memberOf im.c.taskid) then .barrier else .ready) ∧ (t.ctx y).group = s.nextGroup ∧
        (t.ctx y).w.pc = im.c.w.pc ∧ (t.ctx y).sh = (t.ctx y).w ∧ (x.cres = none → (t.ctx y).w = im.c.w)) ∧
  (∀ (s : State) (cl : ClusterId) (n code : Nat) (x : Saved) (h : ObjHeader) (ims : List ImageIn), (s.restoreList cl.val)[n]? = some x → x.place ≠ [] →
    s.savedImages cl.val x = some (h, ims) → ((∃ y ∈ x.place, s.coreUsable x.plot (coreOfCtx y) = false) → ∃ t : State, exec (.groupRestore cl n) s = .next t ∧
      t.restoreList cl.val = (s.restoreList cl.val).set n { x with place := [] } ∧ (∀ y ∈ x.place, (t.ctx y).st = .free) ∧ t.groups = s.groups) ∧
    ((∀ y ∈ x.place, s.coreUsable x.plot (coreOfCtx y) = true) → enginesDone ims = true →
    checkImages (((s.plot x.plot).kernels.find h.kslot).elim [] Kernel.live) ims = .error code →
    ∃ t : State, exec (.groupRestore cl n) s = .next t ∧ t.restoreList cl.val = (s.restoreList cl.val).eraseIdx n ∧ (∀ y ∈ x.place, (t.ctx y).st = .free) ∧
      t.groups = s.groups)) ∧
  (∀ (s : State) (x : CtxId), exec (.wearManagementMigration x) s = .next (if (s.ctx x.val).st = .free then s
    else s.setCtx x.val { s.ctx x.val with migrate := true })) ∧
  ∀ (s : State) (e : Nat) (f : W64 × W64) (r : List (W64 × W64)), (s.estate e).frelcmds = f :: r →
    let op := f.2.toNat / 2 ^ 56
    let mine (h : Held) : Bool := h.plot.val == f.2.toNat % 256 && h.obj == f.1.toNat
    ((∀ h ∈ (s.estate e).held, mine h = false) →
      (op = 1 → ∃ t : State, exec (.frelResume e) s = .next t ∧ { t with estates := s.estates } = s ∧
        t.estate e = { s.estate e with frelcmds := (s.estate e).frelcmds.filter (· != f) }) ∧
      (op = 2 → ∃ t : State, exec (.frelRefuse e) s = .next t ∧ { t with estates := s.estates } = s ∧
        t.estate e = { s.estate e with frelcmds := (s.estate e).frelcmds.filter (· != f) })) ∧
    ∀ (pre : List Held) (h : Held) (post : List Held), (s.estate e).held = pre ++ [h] ++ post → (∀ y ∈ pre, mine y = false) → mine h = true →
      (op = 1 → ∀ (hd : ObjHeader) (ims : List ImageIn) (cl : Nat), s.heldWritten h = true → s.objHeader (h.cluster / 10) h.plot h.obj = some hd → hd.busy = false → hd.state = 1 →
        s.objImages (h.cluster / 10) h.plot h.obj hd = some ims → s.cresCluster h.cluster h.plot ims = some cl →
        ∃ (t : State) (x : Saved), exec (.frelResume e) s = .next t ∧ (t.estate e).frelcmds = (s.estate e).frelcmds.filter (· != f) ∧ h ∉ (t.estate e).held ∧
          t.restoreList cl = s.restoreList cl ++ [x] ∧
          (x.obj, x.plot, x.place) = (h.obj, h.plot, []) ∧ x.cres = some (BitVec.ofNat 32 (hd.version + 1)) ∧ t.ctxs = s.ctxs) ∧
      (op = 2 → h.plot ≠ 0 → (s.plot h.plot).log.cfg.toNat % 32 = 0 → (s.plot h.plot).policy.trapkslot = 0xFFFF → ∃ t : State, exec (.frelRefuse e) s = .next t ∧
        (t.estate e).frelcmds = (s.estate e).frelcmds.filter (· != f) ∧ h ∉ (t.estate e).held ∧ t.restore = s.restore ∧
        (t.plot h.plot).log.lost = BitVec.ofNat 32 (min ((s.plot h.plot).log.lost.toNat + 1) (2 ^ 32 - 1)))

namespace Sys2Proof.Stated

/-- A page's command is over: BUSY clears with its STATUS, and MRES where one is named; the machine is otherwise u. -/
def Ends (i : Instr) (s : State) (p : Page) (u : State) (st : Nat) (v : Option Nat) : Prop :=
  exec i s = .next { u.setPage p { u.page p with busy := false, status := BitVec.ofNat 8 st, mres := (v.map (BitVec.ofNat 64)).getD (u.page p).mres } with
    cmds := s.cmds.drop 1 }

/-- A command that ends with a STATUS and no other effect. -/
def EndsWith (i : Instr) (s : State) (p : Page) (st : Nat) : Prop := Ends i s p s st none

/-- A page has started a command with these arguments, and it is the first of those in progress. -/
def Asked (s : State) (p : Page) (op a0 a1 a2 a3 : Nat) : Prop :=
  (s.page p).busy = true ∧ s.cmds.head? = some p ∧ (s.page p).mcmd.toNat / 2 ^ 56 = op ∧
  (((s.page p).marg[(0 : Fin 4)]).toNat, ((s.page p).marg[(1 : Fin 4)]).toNat, ((s.page p).marg[(2 : Fin 4)]).toNat, ((s.page p).marg[(3 : Fin 4)]).toNat) =
    (a0, a1, a2, a3)

/-- The page from which a plot's own commands come: its own, or the owner's for the owner plot (R441). -/
def PageOf (p : Page) (m : PlotNo) : Prop := p = .plot m ∨ (p = .owner ∧ m = 0)

/-- A plot's log that nothing has configured: a record is counted as lost (R351). -/
def NoLog (s : State) (p : PlotNo) : Prop := p ≠ 0 ∧ (s.plot p).log.cfg.toNat % 32 = 0

/-- One more record lost. -/
def OneLost (s t : State) (p : PlotNo) : Prop :=
  (t.plot p).log.lost = BitVec.ofNat 32 (min ((s.plot p).log.lost.toNat + 1) (2 ^ 32 - 1))

/-- The names of a packet within the module are those of its sender's present plot (R405, R448). -/
def OwnNames (s : State) (p : Packet) : Prop :=
  p.srcModule.val = Config.moduleNumber.val ∧ p.tgtModule.val = Config.moduleNumber.val ∧ p.srcGen = (s.plot p.srcPlot).gen ∧ p.tgtGen = (s.plot p.srcPlot).gen

end Sys2Proof.Stated

/-- R407, R411, R413, R415 to R421, R423, R447, R448: the fabric. A send buffer's head leaves once, and again 256 ns after a refusal; a
packet is delivered to a bound channel with room and accepted, or discarded when its plot's generation has passed; a landing entry moves
to its channel; a remote operation is performed on its handle's memory, acknowledged, and answered, or fails with its ARG; a revoke ends
pairings. The model's own choices it rests on: log entries 49, 121, 122, 123, 125, 184, 192. -/
def Obligations.FabricEvents : Prop :=
  (∀ (s : State) (x : CtxId) (k : KReg) (h : SendPacket) (rest : List SendPacket),
    let c := s.ctx x.val
    (c.chan[k]).send = h :: rest → h.inFlight = false → h.notBefore ≤ s.tick → s.sendBlocked x.val k h = false → routeBad h.route = false →
    s.routed h.plot h.route = true →
    let sent : Context := { c with chan := c.chan.set k { (c.chan[k]) with send := { h with inFlight := true } :: rest } }
    ∀ i, (h.refused = 0 ∧ i = .packetSend x k) ∨ (h.refused ≠ 0 ∧ i = .refusedResend x k) →
      (h.route.1.toNat / 2 ^ 48 % 256 = Config.moduleNumber.val → exec i s = .next { s.setCtx x.val sent with fabric := s.fabric ++ [s.packetOf x.val k h] }) ∧
      (h.route.1.toNat / 2 ^ 48 % 256 ≠ Config.moduleNumber.val → s.onFabric = true → exec i s = .next (s.setCtx x.val sent)) ∧
      (h.route.1.toNat / 2 ^ 48 % 256 ≠ Config.moduleNumber.val → s.onFabric = false → exec i s = .next s)) ∧
  (∀ (s : State) (x : Nat) (k : KReg) (h : SendPacket), let p := s.packetOf x k h
    (p.words, p.srcPlot, p.srcGen, p.srcChan, p.gang.toNat, p.vc.val) = (h.words, h.plot, h.gen, k, h.route.2.toNat % 65536, h.route.1.toNat / 2 ^ 56 % 16) ∧
    (p.kind = if h.route.1.toNat / 2 ^ 60 = 2 then .remote else .message) ∧ p.tgt = routeTarget h.route) ∧
  (∀ (s : State) (p : Packet) (pre post : List Packet), p.kind = .message → s.fabric = pre ++ [p] ++ post → (∀ q ∈ pre, sameWay q p = false) →
    (∀ e ∈ s.refusedReplies, sameWay e.1 p = false) → p.srcModule.val = Config.moduleNumber.val → p.tgtModule.val = Config.moduleNumber.val →
    let c := s.ctx p.tgt.val
    let ch := c.chan[p.tgtChan]
    let gained (t : State) : Prop := t.purses.get (purseKey (dieOf (coreOfCtx p.tgt.val)) p.srcPlot p.gang.toNat) 0 =
        min (s.purses.get (purseKey (dieOf (coreOfCtx p.tgt.val)) p.srcPlot p.gang.toNat) 0 + s.purseReg.toNat % 256) (s.purseReg.toNat / 256 % 256) ∧
      t.nextSeq.get p.tgt.val 0 = s.nextSeq.get p.tgt.val 0 + 1
    (OwnNames s p → s.fnHeld p.srcPlot = false → c.st ≠ .free → c.st ≠ .draining → c.st ≠ .loading → c.plot = p.srcPlot → gangOf c.taskid = p.gang.toNat → ch.route.isSome = true →
      (∀ l ∈ s.landed, ¬ (l.ctx = p.tgt.val ∧ l.plot = p.srcPlot ∧ l.gang = p.gang ∧ l.chan = p.tgtChan)) → ch.recv.length + p.words.length ≤ 64 →
      ∃ t : State, exec (.packetArrival p) s = .next t ∧ t.ctx p.tgt.val = { c with chan := c.chan.set p.tgtChan { ch with recv := ch.recv ++ p.words } } ∧
        t.fabric = pre ++ post ++ [{ p with kind := .accepted }] ∧ (∀ y, y ≠ p.tgt.val → t.ctx y = s.ctx y) ∧ t.mem = s.mem ∧
        gained t) ∧
    (OwnNames s p → s.delivers p p.srcPlot = false → (∀ i, i < 8 → ∃ l ∈ s.landed, l.ctx = p.tgt.val ∧ l.place = i) →
      ∃ t : State, exec (.packetArrival p) s = .next t ∧ t.ctxs = s.ctxs ∧ t.mem = s.mem ∧ t.landed = s.landed ∧
        t.fabric = pre ++ post ++ [{ p with kind := .refused }] ∧ gained t) ∧
    (p.srcGen ≠ (s.plot p.srcPlot).gen → ∃ t : State, exec (.packetArrival p) s = .next t ∧ t.ctxs = s.ctxs ∧
      t.fabric = pre ++ post ++ [{ p with kind := .discarded 0 }] ∧
      (t.plot p.srcPlot).latedrop = BitVec.ofNat 32 (min ((s.plot p.srcPlot).latedrop.toNat + 1) (2 ^ 32 - 1)))) ∧
  (∀ (s : State) (p : Packet) (h : SendPacket) (pre post : List Packet) (more : List SendPacket),
    let c := s.ctx p.src.val
    let ch := c.chan[p.srcChan]
    s.fabric = pre ++ [p] ++ post → p.srcModule.val = Config.moduleNumber.val → p.tgtModule.val = Config.moduleNumber.val → ch.send = h :: more → h.inFlight = true →
    (p.kind = .refused → (∀ q ∈ pre, ¬ (q.kind = .refused ∧ q.src = p.src ∧ q.srcChan = p.srcChan)) →
      exec (.landingFullReplyArrival p.src p.srcChan) s = .next ({ s with fabric := s.fabric.erase p }.setCtx p.src.val { c with
        chan := c.chan.set p.srcChan { ch with send := { h with inFlight := false, refused := h.refused + 1, notBefore := s.tick + 1024 } :: more } })) ∧
    (p.kind = .accepted → (∀ q ∈ pre, sameWay q p = false) → (∀ e ∈ s.refusedReplies, sameWay e.1 p = false) →
      exec (.packetArrival p) s = .next ({ s with fabric := s.fabric.erase p }.setCtx p.src.val { c with
        chan := c.chan.set p.srcChan { ch with send := more } }))) ∧
  (∀ (s : State) (x : CtxId) (k : KReg) (l : Landed) (pre post : List Landed),
    let c := s.ctx x.val
    let ch := c.chan[k]
    c.st ≠ .free → c.st ≠ .draining → c.st ≠ .loading → ch.route.isSome = true → s.landedOf x.val c = pre ++ [l] ++ post → (∀ e ∈ pre, e.chan ≠ k) →
    l.chan = k →
    (64 < ch.recv.length + l.words → exec (.landingEntryMove x k) s = .next s) ∧
    (ch.recv.length + l.words ≤ 64 → ∃ ws : List W64, ws.length = l.words ∧ (l.words ≤ 32 → (s.landBytes l).length = 320 →
        ∀ i, i < l.words → (ws[i]?).map BitVec.toNat = some (ofBytes (((s.landBytes l).drop (64 + 8 * i)).take 8))) ∧
      exec (.landingEntryMove x k) s = .next ({ s with landed := s.landed.erase l }.setCtx x.val
        { c with chan := c.chan.set k { ch with recv := ch.recv ++ ws } }))) ∧
  (∀ (s : State) (d : DieId) (p : Packet) (rest : List Packet) (h0 : W64) (off : Nat) (hd : Handle), (s.die d.val).agent = p :: rest → OwnNames s p →
    p.words.head? = some h0 → p.words.getD 1 0 = BitVec.ofNat 64 off → off < 2 ^ 40 → off % 8 = 0 → remoteLen h0 = some p.words.length →
    let op := h0.toNat / 2 ^ 60
    let n := 8 * (h0.toNat / 2 ^ 48 % 32 + 1)
    (s.plot p.srcPlot).handles.find (h0.toNat / 2 ^ 22 % 2 ^ 22) = some hd → hd.gen = (s.plot p.srcPlot).gen → hd.host = false → off + n ≤ hd.len →
    let a := hd.addr + off
    (op < 2 → hd.write = true → spadBase 0 ≤ a → a < 2 ^ 40 → regionOf a ≠ .none →
      s.coreTiles ((a - spadBase 0) / 2 ^ 20) = [] → Memory.wf s.mem → p.words.length = n / 8 + 2 → ∃ t : State,
      exec (.remoteOperationPerform d 0) s = .next t ∧ BytesStored s t a ((p.words.drop 2).flatMap fun w => (List.range 8).map fun i => BitVec.ofNat 8 (w.toNat / 2 ^ (8 * i))) ∧
        (t.die d.val).agent = rest ∧ { p with kind := .ack } ∈ t.fabric ∧ t.ctxs = s.ctxs ∧ (op = 0 → t.fabric = s.fabric ++ [{ p with kind := .ack }])) ∧
    (op = 2 → hd.read = true → s.ue = [] → a + n ≤ hbmTop → s.engineAddr p.srcPlot a = some a → s.enc = [] → ∃ (t : State) (q : Packet) (qs : List Packet), exec (.remoteOperationPerform d 0) s = .next t ∧
      t.fabric = s.fabric ++ q :: qs ∧ (q.kind, q.tgt, q.tgtChan, q.srcPlot) = (.reply, p.src, p.tgtChan, p.srcPlot) ∧ t.mem = s.mem ∧ t.ctxs = s.ctxs ∧
      (q.words ++ qs.flatMap Packet.words).length = n / 8 + 1 ∧
      ∀ i, i < n / 8 → (((q.words ++ qs.flatMap Packet.words)[i + 1]?).map BitVec.toNat) = some (ofBytes (((s.die d.val).view.read (a + 8 * i) 8)))) ∧
    (op < 2 → hd.write = false → NoLog s p.srcPlot → ∃ t : State, exec (.remoteOperationPerform d 0) s = .next t ∧ OneLost s t p.srcPlot ∧ t.mem = s.mem ∧
      t.fabric = s.fabric ++ [{ p with kind := .failed 4 off }])) ∧
  (∀ (s : State) (x : CtxId) (n : Nat) (p : Packet) (pre post : List Packet), s.fabric = pre ++ [p] ++ post → p.kind = .ack → p.src = x → p.num = n →
    p.srcModule.val = Config.moduleNumber.val → (∀ q ∈ pre, ¬ (q.kind = .ack ∧ q.src = x ∧ q.num = n)) →
    exec (.remoteAckArrival x n) s = .next ({ s with fabric := s.fabric.erase p }.setCtx x.val
      { s.ctx x.val with unacked := (s.ctx x.val).unacked.filter (· != n) })) ∧
  (∀ (s : State) (x : CtxId) (arg off : Nat) (p : Packet) (pre post : List Packet), s.fabric = pre ++ [p] ++ post → p.kind = .failed arg off → p.src = x →
    p.srcModule.val = Config.moduleNumber.val → (∀ q ∈ pre, ¬ (q.kind = .failed arg off ∧ q.src = x)) →
    let c := s.ctx x.val
    let settled : Context := { c with unacked := c.unacked.filter (· != p.num) }
    let Only (t : State) (k : Context) : Prop := t.ctx x.val = k ∧ (∀ y, y ≠ x.val → t.ctx y = s.ctx y) ∧
      { t with ctxs := s.ctxs } = { s with fabric := s.fabric.erase p }
    (p.num < c.firstSent → ∃ t : State, exec (.remoteFailure x arg off) s = .next t ∧ Only t settled) ∧
    (c.firstSent ≤ p.num → c.st = .running → c.failure = none →
      ∃ t : State, exec (.remoteFailure x arg off) s = .next t ∧ Only t { settled with failure := some (arg, off) }) ∧
    (c.firstSent ≤ p.num → c.st = .ready →
      exec (.remoteFailure x arg off) s = .next (State.fatal ({ s with fabric := s.fabric.erase p }.setCtx x.val settled) x.val arg off))) ∧
  (∀ (s : State) (m : Nat) (plot : PlotNo) (gen : Nat), (∀ e ∈ s.ctxs, e.2.loads = []) → ∃ t : State, exec (.revokeArrival m plot gen) s = .next t ∧
    { t with pairings := s.pairings, landed := s.landed } = s ∧
    (∀ h, h ∈ t.pairings ↔ h ∈ s.pairings ∧ ¬ (h.module.val = m ∧ h.remote = plot ∧ h.gen.toNat ≠ gen % 65536)) ∧
    ∀ l, l ∈ t.landed ↔ l ∈ s.landed ∧ ¬ (l.src.val = m ∧ ∃ h ∈ s.pairings, h.plot = l.plot ∧ h.module.val = m ∧ h.remote = plot ∧ h.gen.toNat ≠ gen % 65536)) ∧
  ∀ (s : State), s.tick % 4 = 0 → s.purseNs ≠ s.devns → ∃ t : State, exec .purseDecay s = .next t ∧ { t with purses := s.purses, purseNs := s.purseNs } = s ∧
    t.purseNs = s.devns ∧ ∀ k v, (k, v) ∈ t.purses ↔ ((k, v) ∈ s.purses ∧ s.timeOf (k / 65536 % 256) % 64 ≠ 0) ∨
      ((k, v + 1) ∈ s.purses ∧ s.timeOf (k / 65536 % 256) % 64 = 0 ∧ 1 ≤ v)

/-- R241, R263, R266, R319, R333, R363, R381, R405, R441 to R449, R454, R456: the management commands. Each ends with BUSY clear: with
STATUS 1 where the page's level may not give it, 2 for an argument outside its limits, 3 and 5 where a resource is taken or used up, 4 for
a number that names nothing, and 0 with its effect otherwise; an OP of no command ends with STATUS 2. The model's own choices it rests on:
log entries 127, 128, 129, 130, 131, 132, 133, 134, 135, 136, 137, 138, 186, 187, 191. -/
def Obligations.ManagementCommands : Prop :=
  ∀ (s : State) (p : Page) (op a0 a1 a2 a3 : Nat), Asked s p op a0 a1 a2 a3 →
    let n := a0 % 256
    let live := (s.plot n).live = true
    let estateLive := (s.estate n).live = true
    let own : Prop := p = .owner
    (op = 0x01 →
      let first := a0 / 256 % 256
      let count := a0 / 65536 % 256
      let bad := n = 0 ∨ 16 < n ∨ count = 0 ∨ first = 0 ∨ 256 < first + count
      let taken := estateLive ∨ ∃ i, i < count ∧ (s.holder (first + i)).isSome = true
      (¬ own → EndsWith (.estateCreate p) s p 1) ∧ (own → bad → EndsWith (.estateCreate p) s p 2) ∧ (own → ¬ bad → taken → EndsWith (.estateCreate p) s p 3) ∧
      (own → ¬ bad → ¬ taken → Ends (.estateCreate p) s p (s.setEstate n { Estate.absent with live := true, firstVf := first, vfs := count, page := (s.estate n).page }) 0 none)) ∧
    (op = 0x02 →
      (¬ own → EndsWith (.estateDestroy p) s p 1) ∧ (own → n = 0 ∨ 16 < n → EndsWith (.estateDestroy p) s p 2) ∧
      (own → 1 ≤ n → n ≤ 16 → ¬ estateLive → EndsWith (.estateDestroy p) s p 4) ∧
      (own → 1 ≤ n → n ≤ 16 → estateLive → (∃ e ∈ s.plots, e.2.live = true ∧ e.2.estate = n) → EndsWith (.estateDestroy p) s p 3) ∧
      (own → 1 ≤ n → n ≤ 16 → estateLive → (∀ e ∈ s.plots, ¬ (e.2.live = true ∧ e.2.estate = n)) →
        Ends (.estateDestroy p) s p (s.setEstate n { Estate.absent with page := (s.estate n).page }) 0 none)) ∧
    (op = 0x03 → ∀ e : Fin 17,
      ((∀ f, p ≠ .estate f) → EndsWith (.plotCreate p) s p 1) ∧
      (p = .estate e → (s.granted p 0 = false ∨ n = 0 ∨ s.holder n ≠ some e.val) → EndsWith (.plotCreate p) s p 1) ∧
      (p = .estate e → s.granted p 0 = true → n ≠ 0 → s.holder n = some e.val →
        (live ∨ (∃ t, (s.plot n).destroyed = some t ∧ s.tick < t + 8000000) → EndsWith (.plotCreate p) s p 3) ∧
        (¬ live → (∀ t, (s.plot n).destroyed = some t → t + 8000000 ≤ s.tick) → Ends (.plotCreate p) s p (s.setPlot n { Plot.absent with
          live := true, estate := e.val, prot := a0.testBit 8, keyslot := a0 / 65536 % 256, gen := (s.plot n).gen, page := (s.plot n).page
          msix := (s.plot n).msix }) 0 none))) ∧
    (op = 0x04 →
      ((∃ m, p = .plot m) ∨ s.granted p 1 = false → EndsWith (.plotDestroy p) s p 1) ∧
      ((∀ m, p ≠ .plot m) → s.granted p 1 = true → (n = 0 → EndsWith (.plotDestroy p) s p 2) ∧ (n ≠ 0 → ¬ live → EndsWith (.plotDestroy p) s p 4) ∧
        (n ≠ 0 → live → s.holdsPlot p n = false → EndsWith (.plotDestroy p) s p 1) ∧
        (n ≠ 0 → live → s.holdsPlot p n = true → Ends (.plotDestroy p) s p (s.destroyPlot n) 0 none))) ∧
    (∀ (k : Nat), k < 256 → let t := s.destroyPlot k
      (t.plot k).live = false ∧ (t.plot k).gen = (s.plot k).gen + 1 ∧ (t.plot k).grants = [] ∧ (t.plot k).destroyed = some s.tick ∧
      (∀ q, q ≠ k → t.plot q = s.plot q) ∧ t.mem = s.mem ∧ (∀ e ∈ t.groups, e.2.plot.val ≠ k) ∧ (∀ l ∈ t.landed, l.plot.val ≠ k) ∧
      ((s.plot k).prot = true →
        let all : List Quarantine := s.quarantine ++ (s.plot k).grants.map fun r => ⟨r, some (s.plot k).keyslot, plotId (s.plot k).gen (Fin.ofNat 256 k)⟩
        (t.estate (s.plot k).estate).grants = (s.plot k).grants.foldl takeBack (s.estate (s.plot k).estate).grants ∧
        ∀ q, q ∈ t.quarantine ↔ q ∈ all ∧ ∀ c, q.res = .core c → ∃ x ∈ all, x.plotid = q.plotid ∧ ∃ j, x.res = .segment j ∧ j / 12 = c) ∧
      ((s.plot k).prot = false → t.quarantine = s.quarantine ∧ ∀ e, (t.estate e).grants = (s.estate e).grants)) ∧
    (op = 0x05 → a1 < 256 → ∀ h, fieldHolder (a1 % 128) = some h → s.granted p 2 = true → live → s.holdsPlot p n = true →
      (a1 < 128 →
        (pageRank p ≠ h ∧ ¬ (n = 0 ∧ own) → EndsWith (.policyWrite p) s p 1) ∧
        (pageRank p = h ∨ (n = 0 ∧ own) →
          (∀ q, (s.plot n).policy.put (fun k => ((s.plot n).kernels.find k).isSome) (s.pinnedRange n) (a1 % 128) a2 = some q →
            Ends (.policyWrite p) s p (s.setPlot n { s.plot n with policy := q }) 0 none ∧ (a1 % 128 ≠ 0x0C ∨ a2 < 65536 → q.read (a1 % 128) = a2)) ∧
          ((s.plot n).policy.put (fun k => ((s.plot n).kernels.find k).isSome) (s.pinnedRange n) (a1 % 128) a2 = none → EndsWith (.policyWrite p) s p 2))) ∧
      (128 ≤ a1 → (pageRank p < h → EndsWith (.policyRead p) s p 1) ∧
        (h ≤ pageRank p → Ends (.policyRead p) s p s 0 (some ((s.plot n).policy.read (a1 % 128)))))) ∧
    (op = 0x06 ∨ op = 0x07 → (∀ m, p = .plot m → EndsWith (if op = 6 then .grant p else .ungrant p) s p 1) ∧ (own → 3 < a0 / 256 % 16 →
      EndsWith (if op = 6 then .grant p else .ungrant p) s p 2)) ∧
    (op = 0x06 ∨ op = 0x07 → own → n ≠ 0 → a0 / 256 % 16 = 0 → a1 < 640 →
      (op = 0x06 → ¬ estateLive → EndsWith (.grant p) s p 4) ∧
      (op = 0x06 → estateLive → (∀ e ∈ s.estates, e.2.live = true → Resource.core a1 ∉ e.2.grants) → Resource.core a1 ∉ (s.plot 0).grants →
        (∀ q ∈ s.quarantine, q.res ≠ .core a1) →
        Ends (.grant p) s p (s.setEstate n { s.estate n with grants := (s.estate n).grants ++ [.core a1] }) 0 none) ∧
      (op = 0x06 → estateLive → Resource.core a1 ∈ (s.plot 0).grants → EndsWith (.grant p) s p 3) ∧
      (op = 0x07 → (∃ q ∈ s.quarantine, q.res = .core a1) → EndsWith (.ungrant p) s p 3) ∧
      (op = 0x07 → (∀ q ∈ s.quarantine, q.res ≠ .core a1) → ¬ estateLive ∨ Resource.core a1 ∉ (s.estate n).grants → EndsWith (.ungrant p) s p 4) ∧
      (op = 0x07 → estateLive → Resource.core a1 ∈ (s.estate n).grants → (∀ q ∈ s.quarantine, q.res ≠ .core a1) →
        (∀ e ∈ s.plots, e.2.live = true → e.2.estate = n → Resource.core a1 ∉ e.2.grants) →
        Ends (.ungrant p) s p (s.setEstate n { s.estate n with grants := (s.estate n).grants.filter fun r => decide (r ≠ .core a1) }) 0 none)) ∧
    (op = 0x06 → ∀ e : Fin 17, p = .estate e → s.granted p 3 = true → s.holdsPlot p n = true → a0 / 256 % 16 = 1 → a1 < 7680 →
      Resource.segment a1 ∈ (s.estate e.val).grants → (∀ q ∈ s.quarantine, q.res ≠ .segment a1) →
      (∀ x ∈ s.plots, x.2.live = true → x.2.estate = e.val → Resource.segment a1 ∉ x.2.grants) → ∃ u : State, Ends (.grant p) s p u 0 none ∧
        (u.plot n).grants = (s.plot n).grants ++ [.segment a1] ∧
        (∀ w ∈ u.ue, w + 8 ≤ spadBase (a1 / 12) + a1 % 12 * 65536 ∨ spadBase (a1 / 12) + a1 % 12 * 65536 + 65536 ≤ w) ∧
        ∀ i, i < 65536 → byteAt u (spadBase (a1 / 12) + a1 % 12 * 65536 + i) = 0 ∧ u.isFull (a1 / 12) (a1 % 12 * 65536 + i) = false) ∧
    (op = 0x08 → own → n = 0 → (a1 % 2048 = 0 → a1 < 2 ^ 48 → Ends (.root p) s p (s.setPlot 0 { s.plot 0 with root := some a1 }) 0 none) ∧
      (a1 % 2048 ≠ 0 ∨ 2 ^ 48 ≤ a1 → EndsWith (.root p) s p 2)) ∧
    (op = 0x08 → (own → n ≠ 0 → n ≤ 16 → estateLive → a1 % 4096 = 0 → a1 + 4096 ≤ hbmTop →
        Ends (.root p) s p (s.setEstate n { s.estate n with root := some a1 }) 0 none) ∧
      ∀ e, p = .estate e → s.granted p 3 = true → s.holdsPlot p n = true → a1 % 2048 = 0 → a1 < 2 ^ 48 →
        Ends (.root p) s p (s.setPlot n { s.plot n with root := some a1 }) 0 none) ∧
    (op = 0x08 ∨ op = 0x09 → ∀ m, p = .plot m → EndsWith (if op = 8 then .root p else .inval p) s p 1) ∧
    (op = 0x09 → own → n = 0 → ∃ (l : List TlbEntry) (rs : List TableRead), Ends (.inval p) s p { s with tlb := l, reads := rs } 0 none ∧
      (∀ r, r ∈ rs ↔ r ∈ s.reads ∧ (r.plot ≠ 0 ∨ r.stage2 = true)) ∧ ∀ e, e ∈ l ↔ e ∈ s.tlb ∧ ¬ (e.plot = 0 ∧ e.page * 65536 < a1 + a2 ∧ a1 < (e.page + 1) * 65536)) ∧
    (op = 0x0A → (¬ own → EndsWith (.handle p) s p 1) ∧ (own → a1 % 4096 ≠ 0 ∨ a2 % 4096 ≠ 0 ∨ a2 = 0 → EndsWith (.handle p) s p 2) ∧
      (own → a1 % 4096 = 0 → a2 % 4096 = 0 → a2 ≠ 0 → ¬ live → EndsWith (.handle p) s p 4) ∧
      (own → a1 % 4096 = 0 → a2 % 4096 = 0 → a2 ≠ 0 → live → a1 + a2 ≤ hbmTop → (s.plot n).handles.length < 2 ^ 22 - 1 → ∃ h, h < 2 ^ 22 ∧
        (s.plot n).handles.find h = none ∧ (∀ k, k < h → (s.plot n).handles.find k ≠ none) ∧
        let y : Handle := { host := false, addr := a1, len := a2, read := a3.testBit 0, write := a3.testBit 1, gen := (s.plot n).gen }
        Ends (.handle p) s p (s.setPlot n { s.plot n with handles := (s.plot n).handles.set h y }) 0 (some h))) ∧
    (op = 0x0B → (¬ own → EndsWith (.unhandle p) s p 1) ∧ (own → (s.plot n).handles.find a1 = none → EndsWith (.unhandle p) s p 4) ∧
      (own → (s.plot n).handles.find a1 ≠ none → ∃ t : Tab Handle, Ends (.unhandle p) s p (s.setPlot n { s.plot n with handles := t }) 0 none ∧
        t.find a1 = none ∧ ∀ k, k ≠ a1 → t.find k = (s.plot n).handles.find k)) ∧
    (op = 0x0C → (∀ m, p = .plot m → EndsWith (.rights p) s p 1) ∧
      (own → n ≠ 0 → estateLive → Ends (.rights p) s p (s.setEstate n { s.estate n with rights := BitVec.ofNat 5 a1 }) 0 none) ∧
      (own → n ≠ 0 → ¬ estateLive → EndsWith (.rights p) s p 4) ∧
      (∀ e, p = .estate e → live → s.holdsPlot p n = true → Ends (.rights p) s p
        (s.setPlot n { s.plot n with rights := BitVec.ofNat 5 a1, policy := { (s.plot n).policy with crights := BitVec.ofNat 4 a2 } }) 0 none)) ∧
    (op = 0x0D → (¬ live → EndsWith (.preempt p) s p 4) ∧ (live → s.holdsPlot p n = false → EndsWith (.preempt p) s p 1) ∧
      (live → s.holdsPlot p n = true → (∀ e ∈ s.groups, e.2.plot.val ≠ n) →
        ((∀ e ∈ s.restore, ∀ x ∈ e.2, x.plot.val ≠ n) → (∀ e ∈ s.runq, e.1 % 256 = n → e.2 = []) → Ends (.preempt p) s p s 0 none) ∧
        ((∃ e ∈ s.restore, ∃ x ∈ e.2, x.plot.val = n) ∨ (∃ e ∈ s.runq, e.1 % 256 = n ∧ e.2 ≠ []) →
          Ends (.preempt p) s p (s.setPlot n { s.plot n with pausing := true }) 0 none)) ∧
      (live → s.holdsPlot p n = true → Ends (.preempt p) s p (s.preemptPlot n) 0 none)) ∧
    (op = 0x0E → let m := a1 % 256
      (¬ own → EndsWith (.pair p) s p 1) ∧ (own → m = Config.moduleNumber.val → EndsWith (.pair p) s p 2) ∧
      (own → m ≠ Config.moduleNumber.val → ¬ live → EndsWith (.pair p) s p 4) ∧
      (own → m ≠ Config.moduleNumber.val → live → (∃ h ∈ s.pairings, h.plot.val = n ∧ h.module.val = m) ∨ 1024 ≤ s.pairings.length → EndsWith (.pair p) s p 5) ∧
      (own → m ≠ Config.moduleNumber.val → live → (∀ h ∈ s.pairings, ¬ (h.plot.val = n ∧ h.module.val = m)) → s.pairings.length < 1024 → ∃ g : BitVec 16,
        Ends (.pair p) s p { s with free := s.free + 1, pairings := s.pairings ++ [⟨Fin.ofNat 256 n, Fin.ofNat 256 m, Fin.ofNat 256 a2, g⟩] } 0 none)) ∧
    (op = 0x0F → (∀ e, p = .estate e → EndsWith (.qcreate p) s p 1) ∧ (∀ m, PageOf p m → (s.plot m).live = true →
      let pol := (s.plot m).policy
      let bad := a0 < pol.bandlo ∨ pol.bandhi < a0 ∨ 8 ≤ a1 ∨ 2 ^ 22 ≤ a2 ∨ a3 < 64
      let k := (s.plot m).queues.length
      (bad → EndsWith (.qcreate p) s p 2) ∧ (¬ bad → pol.qcount ≤ k → EndsWith (.qcreate p) s p 5) ∧
      let y : Queue :=
        { ql := a0, home := a1, heath := a2, hcap := a3, slot := [], head := 0, tail := 0, mapped := false, mappedAt := 0, waitSince := s.tick
          failing := false, retryAt := 0 }
      (¬ bad → k < pol.qcount → Ends (.qcreate p) s p (s.setPlot m { s.plot m with queues := (s.plot m).queues.set k y }) 0 (some k)))) ∧
    (op = 0x10 → (s.levelRead p a0 64 = none → EndsWith (.attest p) s p 2) ∧
      ∀ nonce u, s.levelRead p a0 64 = some nonce →
        s.logStore (pageLog p) a1 (s.report p nonce ++ (List.range 132).map (Config.reportSignature s.free (s.report p nonce))) = some u →
        Ends (.attest p) s p { u with free := u.free + 1 } 0 none ∧ (nonce.length = 64 → (s.report p nonce).take 64 = nonce)) ∧
    (op = 0x11 → (¬ own → EndsWith (.timeset p) s p 1) ∧ (own → ¬ live → EndsWith (.timeset p) s p 4) ∧
      (own → live → Ends (.timeset p) s p (s.setPlot n { s.plot n with off := max (s.plot n).off (BitVec.ofNat 64 a1).toInt }) 0 none)) ∧
    (op = 0x12 → (∀ e, p = .estate e → EndsWith (.kreg p) s p 1) ∧ (∀ m, PageOf p m → (s.plot m).live = true →
      let want := a1 % 65536
      (want ≠ 0xFFFF → 4096 ≤ want → EndsWith (.kreg p) s p 2) ∧
      (want < 4096 → (s.plot m).kernels.find want ≠ none → EndsWith (.kreg p) s p 3) ∧
      (want < 4096 → (s.plot m).kernels.find want = none →
        (s.readKernel m a0 = none → EndsWith (.kreg p) s p 2) ∧
        ∀ img, s.readKernel m a0 = some img →
          let lim := if (s.plot m).policy.written = 15 then (s.plot m).policy.imgmax else 0
          (∀ w, checkKernel img (decide (m = 0)) lim = .error w → Ends (.kreg p) s p s 2 (some w)) ∧
          ∀ k, checkKernel img (decide (m = 0)) lim = .ok k →
            (Config.storeTakes s.storeUsed (2 * k.code.length + 48 * k.dict.length) = false → EndsWith (.kreg p) s p 5) ∧
            (Config.storeTakes s.storeUsed (2 * k.code.length + 48 * k.dict.length) = true →
              Ends (.kreg p) s p (s.setPlot m { s.plot m with kernels := (s.plot m).kernels.set want k }) 0 (some want))) ∧
      (want = 0xFFFF → (s.plot m).kernels.length < 4096 → ∃ j, j < 4096 ∧ (s.plot m).kernels.find j = none ∧
        (∀ i, i < j → (s.plot m).kernels.find i ≠ none) ∧ ∀ img k, s.readKernel m a0 = some img →
          checkKernel img (decide (m = 0)) (if (s.plot m).policy.written = 15 then (s.plot m).policy.imgmax else 0) = .ok k →
          Config.storeTakes s.storeUsed (2 * k.code.length + 48 * k.dict.length) = true → Ends (.kreg p) s p (s.setPlot m { s.plot m with kernels := (s.plot m).kernels.set j k }) 0 (some j)))) ∧
    (op = 0x13 → ∀ m, PageOf p m →
      let k := a0 % 65536
      ((s.plot m).kernels.find k = none → EndsWith (.kunreg p) s p 4) ∧
      ((s.plot m).kernels.find k ≠ none → s.kslotUsed m k = true → EndsWith (.kunreg p) s p 3) ∧
      ((s.plot m).kernels.find k ≠ none → s.kslotUsed m k = false → ∃ t : Tab Kernel,
        Ends (.kunreg p) s p ((s.setPlot m { s.plot m with kernels := t }).dropDicts fun key => key == dictKey m k) 0 none ∧
        t.find k = none ∧ ∀ j, j ≠ k → t.find j = (s.plot m).kernels.find j)) ∧
    (op = 0x14 → ∀ m, PageOf p m → (s.plot m).live = true →
      (s.readGraph m a0 = none → EndsWith (.greg p) s p 2) ∧
      ∀ g, s.readGraph m a0 = some g → (∀ w, s.graphErr m g = some w → Ends (.greg p) s p s 2 (some w)) ∧
        (s.graphErr m g = none → (s.plot m).graphs.length < 1024 → ∃ h, 1 ≤ h ∧ (s.plot m).graphs.find h = none ∧
          Ends (.greg p) s p (s.setPlot m { s.plot m with graphs := (s.plot m).graphs.set h g }) 0 (some h))) ∧
    (op = 0x15 → ∀ m, PageOf p m →
      let h := a0 % 2 ^ 32
      ((s.plot m).graphs.find h = none → EndsWith (.gunreg p) s p 4) ∧
      ((s.plot m).graphs.find h ≠ none → (∃ e ∈ s.launches, e.2.plot = m ∧ e.2.graph = h) → EndsWith (.gunreg p) s p 3) ∧
      ((s.plot m).graphs.find h ≠ none → (∀ e ∈ s.launches, ¬ (e.2.plot = m ∧ e.2.graph = h)) → ∃ t : Tab Graph,
        Ends (.gunreg p) s p (s.setPlot m { s.plot m with graphs := t }) 0 none ∧ t.find h = none ∧ ∀ j, j ≠ h → t.find j = (s.plot m).graphs.find j)) ∧
    (op = 0 ∨ 0x15 < op → EndsWith (.mcmdUnknownOp p) s p 2)

/-- R351, R422, R437 to R440, R446, R455, R461, R470: the registers and the window. A write reaches the register at its offset with the
fields and limits that the manual gives, a 32-bit one its half; MCMD starts a command unless one runs; write-one bits clear; the window
reads and writes HBM and nothing else; a vector that is unmasked sends its held message; VF Enable and a function's reset pre-empt and
resume. The model's own choices it rests on: log entries 8, 9, 22, 33, 34, 120, 142, 172, 189. -/
def Obligations.RegisterEvents : Prop :=
  (∀ (s : State) (p : Page) (v : W64), let lv := pageLog p
    exec (.flogConsWrite p v) s = .next (s.setLog { s.log lv with cons := BitVec.ofNat 32 (v.toNat / 2 ^ 32) } lv) ∧
    (∃ l : W32, exec (.floglostClear p v) s = .next (s.setLog { s.log lv with lost := l } lv) ∧
      ∀ i, i < 32 → l.getLsbD i = ((s.log lv).lost.getLsbD i && !v.getLsbD i)) ∧
    ∃ n : BitVec 16, exec (.patrolueClear v) s = .next { s with patCount := n } ∧ ∀ i, i < 16 → n.getLsbD i = (s.patCount.getLsbD i && !v.getLsbD (48 + i))) ∧
  (∀ (s : State) (v : W64),
    let pfWrite : Nat → RegWidth → W64 → Instr := fun off w v => .registerWrite 0 0 off w (some v)
    (∀ i : Fin 4, exec (pfWrite (8 * i.val) .w64 v) s = .next { s with ownerPage := { s.ownerPage with marg := s.ownerPage.marg.set i v } }) ∧
    (s.ownerPage.busy = true → exec (pfWrite 0x20 .w64 v) s = .next s) ∧
    (s.ownerPage.busy = false → exec (pfWrite 0x20 .w64 v) s = .next { s with ownerPage := { s.ownerPage with mcmd := v, busy := true, mcmdLow := 0, rights := 31 }, cmds := s.cmds ++ [.owner] }) ∧
    exec (pfWrite 0x20 .w32 v) s = .next { s with ownerPage := { s.ownerPage with mcmdLow := v.setWidth 32 } } ∧
    (s.ownerPage.busy = false → ∃ m : W64, m.toNat = v.toNat % 2 ^ 32 * 2 ^ 32 + s.ownerPage.mcmdLow.toNat ∧
      exec (pfWrite 0x24 .w32 v) s = .next { s with ownerPage := { s.ownerPage with mcmd := m, busy := true, mcmdLow := 0, rights := 31 }, cmds := s.cmds ++ [.owner] }) ∧
    (∃ x : W32, x.toNat = max 1000 (v.toNat % 2 ^ 32) ∧ exec (pfWrite 0x218 .w64 v) s = .next { s with agePeriod := x }) ∧
    (∃ x : BitVec 24, x.toNat = min 47 (v.toNat / 2 ^ 16 % 256) * 65536 + v.toNat % 65536 ∧ exec (pfWrite 0x220 .w64 v) s = .next { s with purseReg := x }) ∧
    (∃ x : BitVec 40, x.toNat = min 47 (v.toNat / 2 ^ 32 % 256) * 2 ^ 32 + max 64 (v.toNat % 2 ^ 32) ∧
      exec (pfWrite 0x228 .w64 v) s = .next { s with spinReg := x }) ∧
    (∃ x : W32, x.toNat = max 4096 (v.toNat % 2 ^ 32) ∧ exec (pfWrite 0x230 .w64 v) s = .next { s with shareReg := x }) ∧
    (∃ x : BitVec 4, x.toNat = v.toNat / 2 ^ 36 % 16 ∧ exec (pfWrite 0x238 .w64 v) s = .next { s with winBase := x }) ∧
    (v.toNat % 4 = 0 ∨ v.toNat % 4 = 3 → exec (pfWrite 0x200 .w64 v) s = .next s) ∧
    (v.toNat % 4 = 1 → exec (pfWrite 0x200 .w64 v) s = exec .startWarmRequest s) ∧ (v.toNat % 4 = 2 → exec (pfWrite 0x200 .w64 v) s = exec .startColdRequest s) ∧
    exec (pfWrite 0x208 .w64 v) s = exec (.patrolueClear v) s ∧ exec (pfWrite 0x108 .w64 v) s = exec (.flogConsWrite .owner v) s ∧
    exec (pfWrite 0x110 .w64 v) s = exec (.floglostClear .owner v) s ∧ exec (pfWrite 0x300 .w64 v) s = exec (.launch 0 v) s ∧
    (∀ n : PlotNo, n ≠ 0 → exec (.registerWrite n 0 0 .w64 (some v)) s = exec (.launch n v) s ∧
      ∀ i : Fin 4, exec (.registerWrite n 0 (0x1000 + 8 * i.val) .w64 (some v)) s =
        .next (s.setPlot n { s.plot n with page := { (s.plot n).page with marg := (s.plot n).page.marg.set i v } })) ∧
    (∀ off, (off % 8 ≠ 0 → exec (pfWrite off .w64 v) s = .next s) ∧ (off % 4 ≠ 0 → exec (pfWrite off .w32 v) s = .next s)) ∧
    exec (pfWrite 0x240 .w64 v) s = .next s) ∧
  (∀ s : State,
    let reads (fn : PlotNo) (off : Nat) (w : RegWidth) (v : W64) : Prop := exec (.registerWrite fn 0 off w none) s = .next { s with hostData := v }
    let half (v : W64) (i : Nat) : W64 := BitVec.ofNat 64 (v.toNat / 2 ^ (32 * i) % 2 ^ 32)
    (∀ i : Fin 4, reads 0 (8 * i.val) .w64 s.ownerPage.marg[i] ∧ ∀ j : Fin 2, reads 0 (8 * i.val + 4 * j.val) .w32 (half s.ownerPage.marg[i] j.val)) ∧
    reads 0 0x28 .w64 (BitVec.ofNat 64 (s.ownerPage.busy.toNat * 2 ^ 63 + s.ownerPage.status.toNat)) ∧ reads 0 0x30 .w64 s.ownerPage.mres ∧
    reads 0 0x20 .w64 0 ∧ reads 0 0x218 .w64 (s.agePeriod.setWidth 64) ∧ reads 0 0x240 .w64 0 ∧ reads 0 0x244 .w32 0 ∧
    ∀ n : PlotNo, n ≠ 0 → reads n 0x1030 .w64 (s.plot n).page.mres ∧ reads n 0x0008 .w64 0) ∧
  (∀ (s : State) (off : Nat) (w : RegWidth) (n : Nat), n = (match w with | .w32 => 4 | .w64 => 8) → off < 2 ^ 36 → off % n = 0 →
    let a := s.winBase.toNat * 2 ^ 36 + off
    (hbmTop < a + n → (∀ v, exec (.hostWindowAccess off w (some v)) s = .next s) ∧
      exec (.hostWindowAccess off w none) s = .next { s with hostData := BitVec.ofNat 64 (2 ^ (8 * n) - 1) }) ∧
    (a + n ≤ hbmTop → s.enc = [] →
      exec (.hostWindowAccess off w none) s = .next { s with hostData := BitVec.ofNat 64 (ofBytes (s.mem.read a n)) } ∧
      ∀ v, Memory.wf s.mem → (∀ d, Memory.wf (s.die d).view ∧ (s.die d).out = []) → ∃ (t : State) (bs : List Byte), exec (.hostWindowAccess off w (some v)) s = .next t ∧
        bs.length = n ∧ ofBytes bs = v.toNat % 2 ^ (8 * n) ∧ (∀ i, i < n → some (byteAt t (a + i)) = bs[i]?) ∧
        (∀ b, b < a ∨ a + n ≤ b → byteAt t b = byteAt s b) ∧ (∀ d, d < 4 → (t.die d).view.read a n = bs) ∧ t.ctxs = s.ctxs)) ∧
  (∀ (s : State) (fn : PlotNo) (vec : Nat), vec < (if fn = 0 then 9 else 32) → (fn = 0 ∨ s.vfEnable = true) →
    let m := s.msix fn
    ((m.pending.getLsbD vec = false → ∃ t : State, exec (.msixVectorUnmask fn vec) s = .next t ∧ t.hostMsgs = s.hostMsgs ∧ (t.msix fn).masked vec = false ∧
      (t.msix fn).pending = m.pending) ∧
    (m.pending.getLsbD vec = true → ∃ (t : State) (h : HostMsg), exec (.msixVectorUnmask fn vec) s = .next t ∧ t.hostMsgs = s.hostMsgs ++ [h] ∧
      (h.fn, h.vec, h.addr) = (fn.val, vec, (m.entry vec).1) ∧ (t.msix fn).masked vec = false ∧ (t.msix fn).pending.getLsbD vec = false))) ∧
  (∀ s : State,
    (s.vfEnable = false → exec .vfEnableClear s = .next s) ∧
    (s.vfEnable = true → ∃ t : State, exec .vfEnableClear s = .next t ∧ t.vfEnable = false ∧ t.vfOffAt = s.tick ∧
      ((∀ e ∈ s.groups, e.2.plot = 0) → (∀ e ∈ s.restore, ∀ x ∈ e.2, x.plot = 0) → (∀ e ∈ s.runq, e.1 % 256 ≠ 0 → e.2 = []) → { t with vfEnable := s.vfEnable, vfOffAt := s.vfOffAt } = s) ∧
      ∀ gid g, s.groups = [(gid, g)] → g.plot ≠ 0 → (s.plot g.plot).live = true → s.liveMembers gid g ≠ [] → g.stop = none → (s.plots.map Prod.fst).Nodup →
        (g.members.filter fun x => decide (x < 5120)).Nodup → (∀ x ∈ g.members, (s.ctx x).shadowErr = false) →
        (∃ st : Stop, t.group gid = some { g with stop := some st } ∧ st.kind = .preempt ∧ st.atCheckpoint = false) ∧
        ∀ x ∈ g.members, x < 5120 → (s.ctx x).ver = none → (s.ctx x).handed = false → (s.ctx x).st ≠ .free → (s.ctx x).st ≠ .draining →
          t.ctx x = if s.cycleDue x then s.ctx x else { (s.ctx x).rollback with st := .stopped }) ∧
    (s.vfEnable = true → exec .vfEnableSet s = .next s) ∧
    (s.vfEnable = false → ∃ t : State, exec .vfEnableSet s = .next t ∧ t.vfEnable = true ∧ t.ctxs = s.ctxs ∧ t.mem = s.mem ∧
      (∀ p q x, p ≠ 0 → s.queue p q = some x → t.queue p q = some { x with waitSince := x.waitSince + (s.tick - max s.vfOffAt x.waitSince) }) ∧
      ∀ e ∈ s.plots, e.1 ≠ 0 → e.2.live = true → (t.msix e.1).held = 0)) ∧
  ∀ (s : State) (plot : PlotNo), (∀ e ∈ s.ctxs, e.2.shadowErr = false) → ∃ t : State, exec (.functionLevelReset plot) s = .next t ∧
    t.msix plot = ⟨[], 0, 0⟩ ∧ t.mem = s.mem ∧ t.vfEnable = (s.vfEnable && decide (plot ≠ 0)) ∧
    (plot ≠ 0 → (∀ e ∈ s.groups, e.2.plot ≠ plot) → (∀ e ∈ s.restore, ∀ x ∈ e.2, x.plot ≠ plot) → (∀ e ∈ s.runq, e.1 % 256 = plot.val → e.2 = []) →
      t = s.setPlot plot { s.plot plot with msix := ⟨[], 0, 0⟩ })

/-- R452 to R454, R458, R460 to R462, R465, R471: background work and starts. The gleaner writes a block of zeros and lifts its
quarantine; a clock falls and rises by 250 MHz between 2 and 4 GHz; a cold start leaves the machine as after reset; a warm start ends
every strand and drops queued records, keeps HBM, the weight stores, plots and keys, and clears the scratchpads; a step that fails leaves
its number. The model's own choices it rests on: log entries 126, 143, 144, 146, 147, 190. -/
def Obligations.StartAndBackgroundEvents : Prop :=
  (∀ (s : State) (j : GleanJob) (rest : List GleanJob), s.jobs = j :: rest →
    let n := min 65536 (j.start + j.len - j.pos)
    (j.pos + n < j.start + j.len → ∃ t : State, exec .gleanBlockWrite s = .next t ∧ t.jobs = { j with pos := j.pos + n } :: rest ∧
      (∀ a, a < 2 ^ 48 → byteAt t a = if j.pos ≤ a ∧ a < j.pos + n then 0 else byteAt s a) ∧ t.scrubPos = BitVec.ofNat 40 (j.pos + n) ∧
      (∀ q ∈ t.quarantine, ∀ b m, q.res = .range b m → ¬ (b < j.pos + n ∧ j.pos < b + m)) ∧ t.ctxs = s.ctxs) ∧
    (j.start + j.len ≤ j.pos + n → j.cpl = none → s.ownerMsix.masked 1 = false → ∃ (t : State) (h : HostMsg), exec .gleanBlockWrite s = .next t ∧ t.jobs = rest ∧
      (∀ a, a < 2 ^ 48 → byteAt t a = if j.pos ≤ a ∧ a < j.pos + n then 0 else byteAt s a) ∧ t.hostMsgs = s.hostMsgs ++ [h] ∧ (h.fn, h.vec) = (0, 1))) ∧
  (∀ s : State, s.jobs = [] → exec .gleanBlockWrite s = .next s) ∧
  (∀ (s : State) (d : DieId), ∃ t u : State, exec (.clockLowering d) s = .next t ∧ exec (.clockRestore d) s = .next u ∧
    { t with dies := s.dies } = s ∧ { u with dies := s.dies } = s ∧
    t.die d.val = { s.die d.val with mhz := max 2000 ((s.die d.val).mhz - 250) } ∧ u.die d.val = { s.die d.val with mhz := min 4000 ((s.die d.val).mhz + 250) } ∧
    ∀ e, e ≠ d.val → t.die e = s.die e ∧ u.die e = s.die e) ∧
  (∀ (s : State) (i : Instr), i = .powerOn ∨ i = .startColdRequest ∨ (s.wfail = 3 ∧ (i = .startWarmRequest ∨ i = .fundamentalReset)) →
    ((∀ k, Config.startStepOk s.starts k = true) → exec i s = .next { State.reset with
      tick := s.tick, sched := s.sched, free := s.free, hostMsgs := s.hostMsgs, hostData := s.hostData, starts := s.starts + 1 }) ∧
    ∀ k, (k = 1 ∨ (3 ≤ k ∧ k ≤ 9)) → Config.startStepOk s.starts k = false → (∀ j, j < k → Config.startStepOk s.starts j = true) → ∃ t : State,
      exec i s = .next t ∧ t.failStep = k ∧ t.onFabric = false ∧ t.ctxs = [] ∧ t.keys = [] ∧ t.plots = [] ∧ t.lastStart = s.lastStart ∧
      (s.keys = [] → ∀ a, a < 2 ^ 48 → byteAt t a = match regionOf a with
        | .hbm => if k ≤ 6 then byteAt s a else 0
        | .ws .. => if k ≤ 5 then byteAt s a else 0
        | .spad .. => if k ≤ 7 then byteAt s a else 0
        | .none => 0)) ∧
  ∀ (s : State) (i : Instr), i = .startWarmRequest ∨ i = .fundamentalReset → s.wfail ≠ 3 → s.restore = [] → (∀ e ∈ s.groups, e.2.stop = none) →
    (∀ d, (s.die d).out = []) → (∀ e ∈ s.ctxs, e.2.copying = none) → s.unsettled = [] →
    ((∀ k, Config.startStepOk s.starts k = true) → s.jobs = [] → ∃ t : State, exec i s = .next t ∧
      (∀ a, a < 2 ^ 48 → byteAt t a = if 0x9000000000 ≤ a ∧ a < 0x9000000000 + 640 * 2 ^ 20 then 0 else byteAt s a) ∧
      (∀ x ∈ t.full, ¬ (0x9000000000 ≤ x ∧ x < 0x9000000000 + 640 * 2 ^ 20)) ∧ t.ctxs = [] ∧ t.groups = [] ∧ t.runq = [] ∧ t.engines = [] ∧
      t.launches = [] ∧ t.landed = [] ∧ t.plots = s.plots ∧ t.estates = s.estates ∧ t.keys = s.keys ∧ t.purses = [] ∧ t.devns = s.devns ∧
      (t.purseReg, t.spinReg, t.shareReg, t.agePeriod) = (s.purseReg, s.spinReg, s.shareReg, s.agePeriod) ∧
      (t.wfail, t.failStep) = (0, 0) ∧ t.lastStart = (if Config.trainingKept s.starts then 3 else 2) ∧ ∀ d, d < 4 → (t.die d).refreshNs = 0) ∧
    (∀ k, k = 1 ∨ (7 ≤ k ∧ k ≤ 9) ∨ ((k = 3 ∨ k = 4) ∧ Config.trainingKept s.starts = false) → Config.startStepOk s.starts k = false → (∀ j, j < k → Config.startStepOk s.starts j = true) → ∃ t : State, exec i s = .next t ∧
      t.failStep = k ∧ t.wfail = s.wfail + 1 ∧ t.ctxs = [] ∧ t.plots = s.plots ∧ t.lastStart = s.lastStart ∧ (k = 1 → t.mem = s.mem)) ∧
    (Config.startStepOk s.starts 1 = true → Config.startStepOk s.starts 2 = false → exec i s = exec .startColdRequest s)
end

