-- ==== Sys2Proof/Laws/Encoding.lean ====
section
/-!
SUPPORT. Sizes of encodings: every operand number fits its field, and the word of every shape fits its slot.
-/
namespace Sys2Proof

/-- A word made of fields that fit their widths fits their sum. -/
theorem pack_lt (l : List (Nat × Nat)) (h : ∀ p ∈ l, p.1 < 2 ^ p.2) : pack l < 2 ^ (l.map Prod.snd).sum := by
  induction l with
  | nil => simp [pack]
  | cons p l ih =>
    have h1 := h p (by simp)
    have h2 := ih fun q hq => h q (by simp [hq])
    obtain ⟨v, n⟩ := p
    simp only [pack, List.map_cons, List.sum_cons, pow_add]
    have h3 : (v + 1) * 2 ^ (l.map Prod.snd).sum ≤ 2 ^ n * 2 ^ (l.map Prod.snd).sum := Nat.mul_le_mul_right _ h1
    rw [Nat.add_mul, Nat.one_mul] at h3
    omega

theorem guardEnc_lt (g : Guard) : guardEnc g < 8192 := by
  have h1 := g.reg.isLt
  have h2 := g.bit.isLt
  have h3 := Bool.toNat_lt g.sense
  simp only [guardEnc, pack, List.map, List.sum_cons, List.sum_nil]
  omega

theorem dstW_lt (d : Dst) : dstW d < 2 := by cases d <;> simp [dstW]
theorem dstEnc_lt (d : Dst) : dstEnc d < 128 := by cases d <;> simp only [dstEnc] <;> omega
theorem tdstEnc_lt (d : Dst) : tdstEnc d < 128 := by cases d <;> simp only [tdstEnc] <;> omega
theorem srcEnc_lt (a : Src) : srcEnc a < 128 := by cases a <;> simp only [srcEnc] <;> omega
theorem vdstW_lt (d : VDst) : vdstW d < 2 := by cases d <;> simp [vdstW]
theorem vdstEnc_lt (d : VDst) : vdstEnc d < 256 := by cases d <;> simp only [vdstEnc] <;> omega
theorem vsrcEnc_lt (a : VSrc) : vsrcEnc a < 256 := by cases a <;> simp only [vsrcEnc] <;> omega
theorem rndEnc_lt (r : Rnd) : rndEnc r < 8 := by cases r <;> simp [rndEnc]
theorem ttEnc_lt (t : TileType) : ttEnc t < 16 := by cases t <;> simp [ttEnc]
theorem scopeEnc_lt (s : Scope) : scopeEnc s < 8 := by cases s <;> simp [scopeEnc]
theorem ordEnc_lt (o : Ord4) : ordEnc o < 4 := by cases o <;> simp [ordEnc]
theorem amodePM_lt (m : AMode) : amodePM m < 4 := by cases m <;> simp [amodePM]
theorem amodeOff_lt (m : AMode) : amodeOff m < 256 := by cases m <;> simp only [amodeOff] <;> omega
theorem optGEnc_lt (n : OptG) : optGEnc n < 128 := by cases n <;> simp only [optGEnc] <;> omega

/-! ### The word of every shape -/

theorem eB0_lt {op : Nat} (h : op < 16) : eB0 op < 2 ^ 32 := by
  refine lt_of_lt_of_eq (pack_lt _ ?_) rfl
  simp only [List.zip_cons_cons, List.zip_nil_right, List.forall_mem_cons, List.not_mem_nil, false_imp_iff, implies_true, and_true]
  omega

theorem eBC_lt {op : Nat} (h : op < 16) (cr : GReg) (cb : BitNo) (cs : Bool) (off : Off15) : eBC op cr cb cs off < 2 ^ 32 := by
  have h1 := cr.isLt
  have h2 := cb.isLt
  have h3 := Bool.toNat_lt cs
  have h4 := off.isLt
  refine lt_of_lt_of_eq (pack_lt _ ?_) rfl
  simp only [List.zip_cons_cons, List.zip_nil_right, List.forall_mem_cons, List.not_mem_nil, false_imp_iff, implies_true, and_true]
  omega

theorem eBCR_lt {op : Nat} (h : op < 16) (cr : GReg) (cb : BitNo) (cs : Bool) (tr : GReg) : eBCR op cr cb cs tr < 2 ^ 32 := by
  have h1 := cr.isLt
  have h2 := cb.isLt
  have h3 := Bool.toNat_lt cs
  have h4 := tr.isLt
  refine lt_of_lt_of_eq (pack_lt _ ?_) rfl
  simp only [List.zip_cons_cons, List.zip_nil_right, List.forall_mem_cons, List.not_mem_nil, false_imp_iff, implies_true, and_true]
  omega

theorem eBCALL_lt {op : Nat} (h : op < 16) (lr : GReg) (off : Off15) : eBCALL op lr off < 2 ^ 32 := by
  have h1 := lr.isLt
  have h2 := off.isLt
  refine lt_of_lt_of_eq (pack_lt _ ?_) rfl
  simp only [List.zip_cons_cons, List.zip_nil_right, List.forall_mem_cons, List.not_mem_nil, false_imp_iff, implies_true, and_true]
  omega

theorem eBCALLR_lt {op : Nat} (h : op < 16) (lr : GReg) (tr : GReg) : eBCALLR op lr tr < 2 ^ 32 := by
  have h1 := lr.isLt
  have h2 := tr.isLt
  refine lt_of_lt_of_eq (pack_lt _ ?_) rfl
  simp only [List.zip_cons_cons, List.zip_nil_right, List.forall_mem_cons, List.not_mem_nil, false_imp_iff, implies_true, and_true]
  omega

theorem eBV_lt {op : Nat} (h : op < 16) (vr : VReg) (cs : Bool) (off : Off15) : eBV op vr cs off < 2 ^ 32 := by
  have h1 := vr.isLt
  have h2 := Bool.toNat_lt cs
  have h3 := off.isLt
  refine lt_of_lt_of_eq (pack_lt _ ?_) rfl
  simp only [List.zip_cons_cons, List.zip_nil_right, List.forall_mem_cons, List.not_mem_nil, false_imp_iff, implies_true, and_true]
  omega

theorem eBLOOP_lt {op : Nat} (h : op < 16) (tg : GReg) (off : Off15) : eBLOOP op tg off < 2 ^ 32 := by
  have h1 := tg.isLt
  have h2 := off.isLt
  refine lt_of_lt_of_eq (pack_lt _ ?_) rfl
  simp only [List.zip_cons_cons, List.zip_nil_right, List.forall_mem_cons, List.not_mem_nil, false_imp_iff, implies_true, and_true]
  omega

theorem eBLOOPI_lt {op : Nat} (h : op < 16) (trip : Trip) (off : Off15) : eBLOOPI op trip off < 2 ^ 32 := by
  have h1 := trip.isLt
  have h2 := off.isLt
  refine lt_of_lt_of_eq (pack_lt _ ?_) rfl
  simp only [List.zip_cons_cons, List.zip_nil_right, List.forall_mem_cons, List.not_mem_nil, false_imp_iff, implies_true, and_true]
  omega

theorem eBLOOPM_lt {op : Nat} (h : op < 16) (tg : GReg) (ii : Ii) (sc : Sc) : eBLOOPM op tg ii sc < 2 ^ 32 := by
  have h1 := tg.isLt
  have h2 := ii.isLt
  have h3 := sc.isLt
  refine lt_of_lt_of_eq (pack_lt _ ?_) rfl
  simp only [List.zip_cons_cons, List.zip_nil_right, List.forall_mem_cons, List.not_mem_nil, false_imp_iff, implies_true, and_true]
  omega

theorem eBLOOPMI_lt {op : Nat} (h : op < 16) (trip : Trip) (ii : Ii) (sc : Sc) : eBLOOPMI op trip ii sc < 2 ^ 32 := by
  have h1 := trip.isLt
  have h2 := ii.isLt
  have h3 := sc.isLt
  refine lt_of_lt_of_eq (pack_lt _ ?_) rfl
  simp only [List.zip_cons_cons, List.zip_nil_right, List.forall_mem_cons, List.not_mem_nil, false_imp_iff, implies_true, and_true]
  omega

theorem eBLX_lt {op : Nat} (h : op < 16) (cr : GReg) (cb : BitNo) (cs : Bool) : eBLX op cr cb cs < 2 ^ 32 := by
  have h1 := cr.isLt
  have h2 := cb.isLt
  have h3 := Bool.toNat_lt cs
  refine lt_of_lt_of_eq (pack_lt _ ?_) rfl
  simp only [List.zip_cons_cons, List.zip_nil_right, List.forall_mem_cons, List.not_mem_nil, false_imp_iff, implies_true, and_true]
  omega

theorem eBTRAP_lt {op : Nat} (h : op < 16) (code : Imm16) : eBTRAP op code < 2 ^ 32 := by
  have h1 := code.isLt
  refine lt_of_lt_of_eq (pack_lt _ ?_) rfl
  simp only [List.zip_cons_cons, List.zip_nil_right, List.forall_mem_cons, List.not_mem_nil, false_imp_iff, implies_true, and_true]
  omega

theorem eSNOP_lt {op : Nat} (h : op < 64) : eSNOP op < 2 ^ 48 := by
  refine lt_of_lt_of_eq (pack_lt _ ?_) rfl
  simp only [fmtSR, List.zip_cons_cons, List.zip_nil_right, List.forall_mem_cons, List.not_mem_nil, false_imp_iff, implies_true, and_true]
  omega

theorem eS2_lt {op : Nat} (h : op < 64) (g : Guard) (d : Dst) (a : Src) (b : Src) : eS2 op g d a b < 2 ^ 48 := by
  have h1 := guardEnc_lt g
  have h2 := dstEnc_lt d
  have h3 := dstW_lt d
  have h4 := srcEnc_lt a
  have h5 := srcEnc_lt b
  refine lt_of_lt_of_eq (pack_lt _ ?_) rfl
  simp only [fmtSR, List.zip_cons_cons, List.zip_nil_right, List.forall_mem_cons, List.not_mem_nil, false_imp_iff, implies_true, and_true]
  omega

theorem eSCAR_lt {op : Nat} (h : op < 64) (g : Guard) (d : GReg) (a : GReg) (b : GReg) (cy : CarryReg) (p : BitNo) (z : Bool) : eSCAR op g d a b cy p z < 2 ^ 48 := by
  have h1 := guardEnc_lt g
  have h2 := d.isLt
  have h3 := a.isLt
  have h4 := b.isLt
  have h5 := cy.isLt
  have h6 := p.isLt
  have h7 := Bool.toNat_lt z
  refine lt_of_lt_of_eq (pack_lt _ ?_) rfl
  simp only [fmtSC, List.zip_cons_cons, List.zip_nil_right, List.forall_mem_cons, List.not_mem_nil, false_imp_iff, implies_true, and_true]
  omega

theorem eSMADC_lt {op : Nat} (h : op < 64) (g : Guard) (d : GReg) (a : GReg) (b : GReg) (cy : CarryReg) (p : BitNo) (z : Bool) : eSMADC op g d a b cy p z < 2 ^ 48 := by
  have h1 := guardEnc_lt g
  have h2 := d.isLt
  have h3 := a.isLt
  have h4 := b.isLt
  have h5 := cy.isLt
  have h6 := p.isLt
  have h7 := Bool.toNat_lt z
  refine lt_of_lt_of_eq (pack_lt _ ?_) rfl
  simp only [fmtSC, List.zip_cons_cons, List.zip_nil_right, List.forall_mem_cons, List.not_mem_nil, false_imp_iff, implies_true, and_true]
  omega

theorem eS1_lt {op : Nat} (h : op < 64) (g : Guard) (d : Dst) (a : Src) : eS1 op g d a < 2 ^ 48 := by
  have h1 := guardEnc_lt g
  have h2 := dstEnc_lt d
  have h3 := dstW_lt d
  have h4 := srcEnc_lt a
  refine lt_of_lt_of_eq (pack_lt _ ?_) rfl
  simp only [fmtSR, List.zip_cons_cons, List.zip_nil_right, List.forall_mem_cons, List.not_mem_nil, false_imp_iff, implies_true, and_true]
  omega

theorem eSBEXT_lt {op : Nat} (h : op < 64) (g : Guard) (d : Dst) (a : Src) (b : Src) (f : BitNo) : eSBEXT op g d a b f < 2 ^ 48 := by
  have h1 := guardEnc_lt g
  have h2 := dstEnc_lt d
  have h3 := dstW_lt d
  have h4 := srcEnc_lt a
  have h5 := srcEnc_lt b
  have h6 := f.isLt
  refine lt_of_lt_of_eq (pack_lt _ ?_) rfl
  simp only [fmtSR, List.zip_cons_cons, List.zip_nil_right, List.forall_mem_cons, List.not_mem_nil, false_imp_iff, implies_true, and_true]
  omega

theorem eSBINS_lt {op : Nat} (h : op < 64) (g : Guard) (d : GReg) (a : Src) (b : Src) (f : BitNo) : eSBINS op g d a b f < 2 ^ 48 := by
  have h1 := guardEnc_lt g
  have h2 := d.isLt
  have h3 := srcEnc_lt a
  have h4 := srcEnc_lt b
  have h5 := f.isLt
  refine lt_of_lt_of_eq (pack_lt _ ?_) rfl
  simp only [fmtSR, List.zip_cons_cons, List.zip_nil_right, List.forall_mem_cons, List.not_mem_nil, false_imp_iff, implies_true, and_true]
  omega

theorem eSEXF_lt {op : Nat} (h : op < 64) (g : Guard) (d : Dst) (a : Src) (f : BitNo) : eSEXF op g d a f < 2 ^ 48 := by
  have h1 := guardEnc_lt g
  have h2 := dstEnc_lt d
  have h3 := dstW_lt d
  have h4 := srcEnc_lt a
  have h5 := f.isLt
  refine lt_of_lt_of_eq (pack_lt _ ?_) rfl
  simp only [fmtSR, List.zip_cons_cons, List.zip_nil_right, List.forall_mem_cons, List.not_mem_nil, false_imp_iff, implies_true, and_true]
  omega

theorem eSCMP_lt {op : Nat} (h : op < 64) (g : Guard) (d : GReg) (n : BitNo) (a : Src) (b : Src) : eSCMP op g d n a b < 2 ^ 48 := by
  have h1 := guardEnc_lt g
  have h2 := d.isLt
  have h3 := n.isLt
  have h4 := srcEnc_lt a
  have h5 := srcEnc_lt b
  refine lt_of_lt_of_eq (pack_lt _ ?_) rfl
  simp only [fmtSR, List.zip_cons_cons, List.zip_nil_right, List.forall_mem_cons, List.not_mem_nil, false_imp_iff, implies_true, and_true]
  omega

theorem eSMOVI_lt {op : Nat} (h : op < 64) (g : Guard) (d : Dst) (imm : Imm21) : eSMOVI op g d imm < 2 ^ 48 := by
  have h1 := guardEnc_lt g
  have h2 := dstEnc_lt d
  have h3 := dstW_lt d
  have h4 := imm.isLt
  refine lt_of_lt_of_eq (pack_lt _ ?_) rfl
  simp only [fmtSI, List.zip_cons_cons, List.zip_nil_right, List.forall_mem_cons, List.not_mem_nil, false_imp_iff, implies_true, and_true]
  omega

theorem eSMOVK_lt {op : Nat} (h : op < 64) (g : Guard) (d : GReg) (hw : Code4) (imm : Imm16) (hw4 : hw.val < 4) : eSMOVK op g d hw imm < 2 ^ 48 := by
  have h1 := guardEnc_lt g
  have h2 := d.isLt
  have h3 := hw.isLt
  have h4 := imm.isLt
  refine lt_of_lt_of_eq (pack_lt _ ?_) rfl
  simp only [fmtSK, List.zip_cons_cons, List.zip_nil_right, List.forall_mem_cons, List.not_mem_nil, false_imp_iff, implies_true, and_true]
  omega

theorem eSMFS_lt {op : Nat} (h : op < 64) (g : Guard) (d : Dst) (csr : CsrNo) : eSMFS op g d csr < 2 ^ 48 := by
  have h1 := guardEnc_lt g
  have h2 := dstEnc_lt d
  have h3 := dstW_lt d
  have h4 := csr.isLt
  refine lt_of_lt_of_eq (pack_lt _ ?_) rfl
  simp only [fmtSX, List.zip_cons_cons, List.zip_nil_right, List.forall_mem_cons, List.not_mem_nil, false_imp_iff, implies_true, and_true]
  omega

theorem eSMTS_lt {op : Nat} (h : op < 64) (g : Guard) (a : Src) (csr : CsrNo) : eSMTS op g a csr < 2 ^ 48 := by
  have h1 := guardEnc_lt g
  have h2 := srcEnc_lt a
  have h3 := csr.isLt
  refine lt_of_lt_of_eq (pack_lt _ ?_) rfl
  simp only [fmtSX, List.zip_cons_cons, List.zip_nil_right, List.forall_mem_cons, List.not_mem_nil, false_imp_iff, implies_true, and_true]
  omega

theorem eSMOVB_lt {op : Nat} (h : op < 64) (g : Guard) (d : GReg) (n : BitNo) (inv : Bool) (a : Src) (bit : BitNo) : eSMOVB op g d n inv a bit < 2 ^ 48 := by
  have h1 := guardEnc_lt g
  have h2 := d.isLt
  have h3 := n.isLt
  have h4 := Bool.toNat_lt inv
  have h5 := srcEnc_lt a
  have h6 := bit.isLt
  refine lt_of_lt_of_eq (pack_lt _ ?_) rfl
  simp only [fmtSR, List.zip_cons_cons, List.zip_nil_right, List.forall_mem_cons, List.not_mem_nil, false_imp_iff, implies_true, and_true]
  omega

theorem eSF2_lt {op : Nat} (h : op < 64) (g : Guard) (d : Dst) (a : Src) (b : Src) (r : Rnd) : eSF2 op g d a b r < 2 ^ 48 := by
  have h1 := guardEnc_lt g
  have h2 := dstEnc_lt d
  have h3 := dstW_lt d
  have h4 := srcEnc_lt a
  have h5 := srcEnc_lt b
  have h6 := rndEnc_lt r
  refine lt_of_lt_of_eq (pack_lt _ ?_) rfl
  simp only [fmtSR, List.zip_cons_cons, List.zip_nil_right, List.forall_mem_cons, List.not_mem_nil, false_imp_iff, implies_true, and_true]
  omega

theorem eSFMA_lt {op : Nat} (h : op < 64) (g : Guard) (d : GReg) (a : Src) (b : Src) (r : Rnd) : eSFMA op g d a b r < 2 ^ 48 := by
  have h1 := guardEnc_lt g
  have h2 := d.isLt
  have h3 := srcEnc_lt a
  have h4 := srcEnc_lt b
  have h5 := rndEnc_lt r
  refine lt_of_lt_of_eq (pack_lt _ ?_) rfl
  simp only [fmtSR, List.zip_cons_cons, List.zip_nil_right, List.forall_mem_cons, List.not_mem_nil, false_imp_iff, implies_true, and_true]
  omega

theorem eSF1_lt {op : Nat} (h : op < 64) (g : Guard) (d : Dst) (a : Src) (r : Rnd) : eSF1 op g d a r < 2 ^ 48 := by
  have h1 := guardEnc_lt g
  have h2 := dstEnc_lt d
  have h3 := dstW_lt d
  have h4 := srcEnc_lt a
  have h5 := rndEnc_lt r
  refine lt_of_lt_of_eq (pack_lt _ ?_) rfl
  simp only [fmtSR, List.zip_cons_cons, List.zip_nil_right, List.forall_mem_cons, List.not_mem_nil, false_imp_iff, implies_true, and_true]
  omega

theorem eSFCVTF_lt {op : Nat} (h : op < 64) (g : Guard) (d : Dst) (a : Src) (k : Code4) (r : Rnd) : eSFCVTF op g d a k r < 2 ^ 48 := by
  have h1 := guardEnc_lt g
  have h2 := dstEnc_lt d
  have h3 := dstW_lt d
  have h4 := srcEnc_lt a
  have h5 := k.isLt
  have h6 := rndEnc_lt r
  refine lt_of_lt_of_eq (pack_lt _ ?_) rfl
  simp only [fmtSR, List.zip_cons_cons, List.zip_nil_right, List.forall_mem_cons, List.not_mem_nil, false_imp_iff, implies_true, and_true]
  omega

theorem eANOP_lt {op : Nat} (h : op < 32) : eANOP op < 2 ^ 40 := by
  refine lt_of_lt_of_eq (pack_lt _ ?_) rfl
  simp only [fmtAD, List.zip_cons_cons, List.zip_nil_right, List.forall_mem_cons, List.not_mem_nil, false_imp_iff, implies_true, and_true]
  omega

theorem eALD_lt {op : Nat} (h : op < 32) (g : Guard) (d : Dst) (a : AReg) (m : AMode) : eALD op g d a m < 2 ^ 40 := by
  have h1 := guardEnc_lt g
  have h2 := dstEnc_lt d
  have h3 := dstW_lt d
  have h4 := a.isLt
  have h5 := amodePM_lt m
  have h6 := amodeOff_lt m
  refine lt_of_lt_of_eq (pack_lt _ ?_) rfl
  simp only [fmtAD, List.zip_cons_cons, List.zip_nil_right, List.forall_mem_cons, List.not_mem_nil, false_imp_iff, implies_true, and_true]
  omega

theorem eAST_lt {op : Nat} (h : op < 32) (g : Guard) (x : Src) (a : AReg) (m : AMode) : eAST op g x a m < 2 ^ 40 := by
  have h1 := guardEnc_lt g
  have h2 := srcEnc_lt x
  have h3 := a.isLt
  have h4 := amodePM_lt m
  have h5 := amodeOff_lt m
  refine lt_of_lt_of_eq (pack_lt _ ?_) rfl
  simp only [fmtAD, List.zip_cons_cons, List.zip_nil_right, List.forall_mem_cons, List.not_mem_nil, false_imp_iff, implies_true, and_true]
  omega

theorem eAVL_lt {op : Nat} (h : op < 32) (g : Guard) (v : VReg) (a : AReg) (m : AMode) : eAVL op g v a m < 2 ^ 40 := by
  have h1 := guardEnc_lt g
  have h2 := v.isLt
  have h3 := a.isLt
  have h4 := amodePM_lt m
  have h5 := amodeOff_lt m
  refine lt_of_lt_of_eq (pack_lt _ ?_) rfl
  simp only [fmtAD, List.zip_cons_cons, List.zip_nil_right, List.forall_mem_cons, List.not_mem_nil, false_imp_iff, implies_true, and_true]
  omega

theorem eAVS_lt {op : Nat} (h : op < 32) (g : Guard) (v : VReg) (a : AReg) (m : AMode) : eAVS op g v a m < 2 ^ 40 := by
  have h1 := guardEnc_lt g
  have h2 := v.isLt
  have h3 := a.isLt
  have h4 := amodePM_lt m
  have h5 := amodeOff_lt m
  refine lt_of_lt_of_eq (pack_lt _ ?_) rfl
  simp only [fmtAD, List.zip_cons_cons, List.zip_nil_right, List.forall_mem_cons, List.not_mem_nil, false_imp_iff, implies_true, and_true]
  omega

theorem eAAX_lt {op : Nat} (h : op < 32) (g : Guard) (a : AReg) (x : Src) : eAAX op g a x < 2 ^ 40 := by
  have h1 := guardEnc_lt g
  have h2 := a.isLt
  have h3 := srcEnc_lt x
  refine lt_of_lt_of_eq (pack_lt _ ?_) rfl
  simp only [fmtAD, List.zip_cons_cons, List.zip_nil_right, List.forall_mem_cons, List.not_mem_nil, false_imp_iff, implies_true, and_true]
  omega

theorem eAGETS_lt {op : Nat} (h : op < 32) (g : Guard) (d : Dst) (a : AReg) : eAGETS op g d a < 2 ^ 40 := by
  have h1 := guardEnc_lt g
  have h2 := dstEnc_lt d
  have h3 := dstW_lt d
  have h4 := a.isLt
  refine lt_of_lt_of_eq (pack_lt _ ?_) rfl
  simp only [fmtAD, List.zip_cons_cons, List.zip_nil_right, List.forall_mem_cons, List.not_mem_nil, false_imp_iff, implies_true, and_true]
  omega

theorem eAMSET_lt {op : Nat} (h : op < 32) (g : Guard) (m : MReg) (x : Src) : eAMSET op g m x < 2 ^ 40 := by
  have h1 := guardEnc_lt g
  have h2 := m.isLt
  have h3 := srcEnc_lt x
  refine lt_of_lt_of_eq (pack_lt _ ?_) rfl
  simp only [fmtAD, List.zip_cons_cons, List.zip_nil_right, List.forall_mem_cons, List.not_mem_nil, false_imp_iff, implies_true, and_true]
  omega

theorem eAMGET_lt {op : Nat} (h : op < 32) (g : Guard) (d : Dst) (m : MReg) : eAMGET op g d m < 2 ^ 40 := by
  have h1 := guardEnc_lt g
  have h2 := dstEnc_lt d
  have h3 := dstW_lt d
  have h4 := m.isLt
  refine lt_of_lt_of_eq (pack_lt _ ?_) rfl
  simp only [fmtAD, List.zip_cons_cons, List.zip_nil_right, List.forall_mem_cons, List.not_mem_nil, false_imp_iff, implies_true, and_true]
  omega

theorem eACMP_lt {op : Nat} (h : op < 32) (g : Guard) (d : GReg) (n : BitNo) (a : AReg) : eACMP op g d n a < 2 ^ 40 := by
  have h1 := guardEnc_lt g
  have h2 := d.isLt
  have h3 := n.isLt
  have h4 := a.isLt
  refine lt_of_lt_of_eq (pack_lt _ ?_) rfl
  simp only [fmtAD, List.zip_cons_cons, List.zip_nil_right, List.forall_mem_cons, List.not_mem_nil, false_imp_iff, implies_true, and_true]
  omega

theorem eACLR_lt {op : Nat} (h : op < 32) (g : Guard) (a : AReg) (m : AMode) : eACLR op g a m < 2 ^ 40 := by
  have h1 := guardEnc_lt g
  have h2 := a.isLt
  have h3 := amodePM_lt m
  have h4 := amodeOff_lt m
  refine lt_of_lt_of_eq (pack_lt _ ?_) rfl
  simp only [fmtAD, List.zip_cons_cons, List.zip_nil_right, List.forall_mem_cons, List.not_mem_nil, false_imp_iff, implies_true, and_true]
  omega

theorem eVNOP_lt {op : Nat} (h : op < 128) : eVNOP op < 2 ^ 56 := by
  refine lt_of_lt_of_eq (pack_lt _ ?_) rfl
  simp only [fmtVX, List.zip_cons_cons, List.zip_nil_right, List.forall_mem_cons, List.not_mem_nil, false_imp_iff, implies_true, and_true]
  omega

theorem eV1_lt {op : Nat} (h : op < 128) (g : Guard) (d : VDst) (a : VSrc) : eV1 op g d a < 2 ^ 56 := by
  have h1 := guardEnc_lt g
  have h2 := vdstEnc_lt d
  have h3 := vdstW_lt d
  have h4 := vsrcEnc_lt a
  refine lt_of_lt_of_eq (pack_lt _ ?_) rfl
  simp only [fmtVX, List.zip_cons_cons, List.zip_nil_right, List.forall_mem_cons, List.not_mem_nil, false_imp_iff, implies_true, and_true]
  omega

theorem eV2_lt {op : Nat} (h : op < 128) (g : Guard) (d : VDst) (a : VSrc) (b : VSrc) : eV2 op g d a b < 2 ^ 56 := by
  have h1 := guardEnc_lt g
  have h2 := vdstEnc_lt d
  have h3 := vdstW_lt d
  have h4 := vsrcEnc_lt a
  have h5 := vsrcEnc_lt b
  refine lt_of_lt_of_eq (pack_lt _ ?_) rfl
  simp only [fmtVX, List.zip_cons_cons, List.zip_nil_right, List.forall_mem_cons, List.not_mem_nil, false_imp_iff, implies_true, and_true]
  omega

theorem eV2S_lt {op : Nat} (h : op < 128) (g : Guard) (d : VDst) (a : VSrc) (b : VSrc) (sat : Bool) : eV2S op g d a b sat < 2 ^ 56 := by
  have h1 := guardEnc_lt g
  have h2 := vdstEnc_lt d
  have h3 := vdstW_lt d
  have h4 := vsrcEnc_lt a
  have h5 := vsrcEnc_lt b
  have h6 := Bool.toNat_lt sat
  refine lt_of_lt_of_eq (pack_lt _ ?_) rfl
  simp only [fmtVX, List.zip_cons_cons, List.zip_nil_right, List.forall_mem_cons, List.not_mem_nil, false_imp_iff, implies_true, and_true]
  omega

theorem eVMULWS_lt {op : Nat} (h : op < 128) (g : Guard) (d : VDst) (a : VSrc) (b : VSrc) (h : Bool) (u : Bool) : eVMULWS op g d a b h u < 2 ^ 56 := by
  have h1 := guardEnc_lt g
  have h2 := vdstEnc_lt d
  have h3 := vdstW_lt d
  have h4 := vsrcEnc_lt a
  have h5 := vsrcEnc_lt b
  have h6 := Bool.toNat_lt h
  have h7 := Bool.toNat_lt u
  refine lt_of_lt_of_eq (pack_lt _ ?_) rfl
  simp only [fmtVX, List.zip_cons_cons, List.zip_nil_right, List.forall_mem_cons, List.not_mem_nil, false_imp_iff, implies_true, and_true]
  omega

theorem eVMACWS_lt {op : Nat} (h : op < 128) (g : Guard) (d : VReg) (a : VSrc) (b : VSrc) (h : Bool) (u : Bool) (sat : Bool) : eVMACWS op g d a b h u sat < 2 ^ 56 := by
  have h1 := guardEnc_lt g
  have h2 := d.isLt
  have h3 := vsrcEnc_lt a
  have h4 := vsrcEnc_lt b
  have h5 := Bool.toNat_lt h
  have h6 := Bool.toNat_lt u
  have h7 := Bool.toNat_lt sat
  refine lt_of_lt_of_eq (pack_lt _ ?_) rfl
  simp only [fmtVX, List.zip_cons_cons, List.zip_nil_right, List.forall_mem_cons, List.not_mem_nil, false_imp_iff, implies_true, and_true]
  omega

theorem eVMADCS_lt {op : Nat} (h : op < 128) (g : Guard) (d : VReg) (a : VSrc) (b : VSrc) (cy : VReg) (z : Bool) : eVMADCS op g d a b cy z < 2 ^ 56 := by
  have h1 := guardEnc_lt g
  have h2 := d.isLt
  have h3 := vsrcEnc_lt a
  have h4 := vsrcEnc_lt b
  have h5 := cy.isLt
  have h6 := Bool.toNat_lt z
  refine lt_of_lt_of_eq (pack_lt _ ?_) rfl
  simp only [fmtVX, List.zip_cons_cons, List.zip_nil_right, List.forall_mem_cons, List.not_mem_nil, false_imp_iff, implies_true, and_true]
  omega

theorem eVCAR_lt {op : Nat} (h : op < 128) (g : Guard) (d : VDst) (a : VSrc) (b : VSrc) (cy : VReg) (z : Bool) : eVCAR op g d a b cy z < 2 ^ 56 := by
  have h1 := guardEnc_lt g
  have h2 := vdstEnc_lt d
  have h3 := vdstW_lt d
  have h4 := vsrcEnc_lt a
  have h5 := vsrcEnc_lt b
  have h6 := cy.isLt
  have h7 := Bool.toNat_lt z
  refine lt_of_lt_of_eq (pack_lt _ ?_) rfl
  simp only [fmtVX, List.zip_cons_cons, List.zip_nil_right, List.forall_mem_cons, List.not_mem_nil, false_imp_iff, implies_true, and_true]
  omega

theorem eV1S_lt {op : Nat} (h : op < 128) (g : Guard) (d : VDst) (a : VSrc) (sat : Bool) : eV1S op g d a sat < 2 ^ 56 := by
  have h1 := guardEnc_lt g
  have h2 := vdstEnc_lt d
  have h3 := vdstW_lt d
  have h4 := vsrcEnc_lt a
  have h5 := Bool.toNat_lt sat
  refine lt_of_lt_of_eq (pack_lt _ ?_) rfl
  simp only [fmtVX, List.zip_cons_cons, List.zip_nil_right, List.forall_mem_cons, List.not_mem_nil, false_imp_iff, implies_true, and_true]
  omega

theorem eV3_lt {op : Nat} (h : op < 128) (g : Guard) (d : VReg) (a : VSrc) (b : VSrc) : eV3 op g d a b < 2 ^ 56 := by
  have h1 := guardEnc_lt g
  have h2 := d.isLt
  have h3 := vsrcEnc_lt a
  have h4 := vsrcEnc_lt b
  refine lt_of_lt_of_eq (pack_lt _ ?_) rfl
  simp only [fmtVX, List.zip_cons_cons, List.zip_nil_right, List.forall_mem_cons, List.not_mem_nil, false_imp_iff, implies_true, and_true]
  omega

theorem eVBEXTS_lt {op : Nat} (h : op < 128) (g : Guard) (d : VDst) (a : VSrc) (b : VSrc) (f : BitNo) : eVBEXTS op g d a b f < 2 ^ 56 := by
  have h1 := guardEnc_lt g
  have h2 := vdstEnc_lt d
  have h3 := vdstW_lt d
  have h4 := vsrcEnc_lt a
  have h5 := vsrcEnc_lt b
  have h6 := f.isLt
  refine lt_of_lt_of_eq (pack_lt _ ?_) rfl
  simp only [fmtVX, List.zip_cons_cons, List.zip_nil_right, List.forall_mem_cons, List.not_mem_nil, false_imp_iff, implies_true, and_true]
  omega

theorem eVBINSS_lt {op : Nat} (h : op < 128) (g : Guard) (d : VReg) (a : VSrc) (b : VSrc) (f : BitNo) : eVBINSS op g d a b f < 2 ^ 56 := by
  have h1 := guardEnc_lt g
  have h2 := d.isLt
  have h3 := vsrcEnc_lt a
  have h4 := vsrcEnc_lt b
  have h5 := f.isLt
  refine lt_of_lt_of_eq (pack_lt _ ?_) rfl
  simp only [fmtVX, List.zip_cons_cons, List.zip_nil_right, List.forall_mem_cons, List.not_mem_nil, false_imp_iff, implies_true, and_true]
  omega

theorem eVEXF_lt {op : Nat} (h : op < 128) (g : Guard) (d : VDst) (a : VSrc) (f : BitNo) : eVEXF op g d a f < 2 ^ 56 := by
  have h1 := guardEnc_lt g
  have h2 := vdstEnc_lt d
  have h3 := vdstW_lt d
  have h4 := vsrcEnc_lt a
  have h5 := f.isLt
  refine lt_of_lt_of_eq (pack_lt _ ?_) rfl
  simp only [fmtVX, List.zip_cons_cons, List.zip_nil_right, List.forall_mem_cons, List.not_mem_nil, false_imp_iff, implies_true, and_true]
  omega

theorem eVF2_lt {op : Nat} (h : op < 128) (g : Guard) (d : VDst) (a : VSrc) (b : VSrc) (r : Rnd) : eVF2 op g d a b r < 2 ^ 56 := by
  have h1 := guardEnc_lt g
  have h2 := vdstEnc_lt d
  have h3 := vdstW_lt d
  have h4 := vsrcEnc_lt a
  have h5 := vsrcEnc_lt b
  have h6 := rndEnc_lt r
  refine lt_of_lt_of_eq (pack_lt _ ?_) rfl
  simp only [fmtVX, List.zip_cons_cons, List.zip_nil_right, List.forall_mem_cons, List.not_mem_nil, false_imp_iff, implies_true, and_true]
  omega

theorem eVF3_lt {op : Nat} (h : op < 128) (g : Guard) (d : VReg) (a : VSrc) (b : VSrc) (r : Rnd) : eVF3 op g d a b r < 2 ^ 56 := by
  have h1 := guardEnc_lt g
  have h2 := d.isLt
  have h3 := vsrcEnc_lt a
  have h4 := vsrcEnc_lt b
  have h5 := rndEnc_lt r
  refine lt_of_lt_of_eq (pack_lt _ ?_) rfl
  simp only [fmtVX, List.zip_cons_cons, List.zip_nil_right, List.forall_mem_cons, List.not_mem_nil, false_imp_iff, implies_true, and_true]
  omega

theorem eVFMAWS_lt {op : Nat} (h : op < 128) (g : Guard) (d : VReg) (a : VSrc) (b : VSrc) (h : Bool) (f : Bool) (r : Rnd) : eVFMAWS op g d a b h f r < 2 ^ 56 := by
  have h1 := guardEnc_lt g
  have h2 := d.isLt
  have h3 := vsrcEnc_lt a
  have h4 := vsrcEnc_lt b
  have h5 := Bool.toNat_lt h
  have h6 := Bool.toNat_lt f
  have h7 := rndEnc_lt r
  refine lt_of_lt_of_eq (pack_lt _ ?_) rfl
  simp only [fmtVX, List.zip_cons_cons, List.zip_nil_right, List.forall_mem_cons, List.not_mem_nil, false_imp_iff, implies_true, and_true]
  omega

theorem eVF1_lt {op : Nat} (h : op < 128) (g : Guard) (d : VDst) (a : VSrc) (r : Rnd) : eVF1 op g d a r < 2 ^ 56 := by
  have h1 := guardEnc_lt g
  have h2 := vdstEnc_lt d
  have h3 := vdstW_lt d
  have h4 := vsrcEnc_lt a
  have h5 := rndEnc_lt r
  refine lt_of_lt_of_eq (pack_lt _ ?_) rfl
  simp only [fmtVX, List.zip_cons_cons, List.zip_nil_right, List.forall_mem_cons, List.not_mem_nil, false_imp_iff, implies_true, and_true]
  omega

theorem eVCVT_lt {op : Nat} (h : op < 128) (g : Guard) (d : VDst) (a : VSrc) (f : Bool) (u : Bool) (r : Rnd) : eVCVT op g d a f u r < 2 ^ 56 := by
  have h1 := guardEnc_lt g
  have h2 := vdstEnc_lt d
  have h3 := vdstW_lt d
  have h4 := vsrcEnc_lt a
  have h5 := Bool.toNat_lt f
  have h6 := Bool.toNat_lt u
  have h7 := rndEnc_lt r
  refine lt_of_lt_of_eq (pack_lt _ ?_) rfl
  simp only [fmtVX, List.zip_cons_cons, List.zip_nil_right, List.forall_mem_cons, List.not_mem_nil, false_imp_iff, implies_true, and_true]
  omega

theorem eVCVTFFS_lt {op : Nat} (h : op < 128) (g : Guard) (d : VDst) (a : VSrc) (k : Code4) (h : Bool) (r : Rnd) : eVCVTFFS op g d a k h r < 2 ^ 56 := by
  have h1 := guardEnc_lt g
  have h2 := vdstEnc_lt d
  have h3 := vdstW_lt d
  have h4 := vsrcEnc_lt a
  have h5 := k.isLt
  have h6 := Bool.toNat_lt h
  have h7 := rndEnc_lt r
  refine lt_of_lt_of_eq (pack_lt _ ?_) rfl
  simp only [fmtVX, List.zip_cons_cons, List.zip_nil_right, List.forall_mem_cons, List.not_mem_nil, false_imp_iff, implies_true, and_true]
  omega

theorem eVCVTIIS_lt {op : Nat} (h : op < 128) (g : Guard) (d : VDst) (a : VSrc) (k : Code4) (h : Bool) (u : Bool) (sat : Bool) : eVCVTIIS op g d a k h u sat < 2 ^ 56 := by
  have h1 := guardEnc_lt g
  have h2 := vdstEnc_lt d
  have h3 := vdstW_lt d
  have h4 := vsrcEnc_lt a
  have h5 := k.isLt
  have h6 := Bool.toNat_lt h
  have h7 := Bool.toNat_lt u
  have h8 := Bool.toNat_lt sat
  refine lt_of_lt_of_eq (pack_lt _ ?_) rfl
  simp only [fmtVX, List.zip_cons_cons, List.zip_nil_right, List.forall_mem_cons, List.not_mem_nil, false_imp_iff, implies_true, and_true]
  omega

theorem eVPACKS_lt {op : Nat} (h : op < 128) (g : Guard) (d : VReg) (a : VSrc) (q : Code4) (u : Bool) (sat : Bool) : eVPACKS op g d a q u sat < 2 ^ 56 := by
  have h1 := guardEnc_lt g
  have h2 := d.isLt
  have h3 := vsrcEnc_lt a
  have h4 := q.isLt
  have h5 := Bool.toNat_lt u
  have h6 := Bool.toNat_lt sat
  refine lt_of_lt_of_eq (pack_lt _ ?_) rfl
  simp only [fmtVX, List.zip_cons_cons, List.zip_nil_right, List.forall_mem_cons, List.not_mem_nil, false_imp_iff, implies_true, and_true]
  omega

theorem eVQU_lt {op : Nat} (h : op < 128) (g : Guard) (d : VDst) (a : VSrc) (q : Code4) (u : Bool) : eVQU op g d a q u < 2 ^ 56 := by
  have h1 := guardEnc_lt g
  have h2 := vdstEnc_lt d
  have h3 := vdstW_lt d
  have h4 := vsrcEnc_lt a
  have h5 := q.isLt
  have h6 := Bool.toNat_lt u
  refine lt_of_lt_of_eq (pack_lt _ ?_) rfl
  simp only [fmtVX, List.zip_cons_cons, List.zip_nil_right, List.forall_mem_cons, List.not_mem_nil, false_imp_iff, implies_true, and_true]
  omega

theorem eVQNQ_lt {op : Nat} (h : op < 128) (g : Guard) (d : VDst) (a : VSrc) (ty : Code4) (r : Rnd) : eVQNQ op g d a ty r < 2 ^ 56 := by
  have h1 := guardEnc_lt g
  have h2 := vdstEnc_lt d
  have h3 := vdstW_lt d
  have h4 := vsrcEnc_lt a
  have h5 := ty.isLt
  have h6 := rndEnc_lt r
  refine lt_of_lt_of_eq (pack_lt _ ?_) rfl
  simp only [fmtVX, List.zip_cons_cons, List.zip_nil_right, List.forall_mem_cons, List.not_mem_nil, false_imp_iff, implies_true, and_true]
  omega

theorem eVSCA_lt {op : Nat} (h : op < 128) (g : Guard) (d : VReg) (a : VReg) (b : VSrc) (ga : GReg) : eVSCA op g d a b ga < 2 ^ 56 := by
  have h1 := guardEnc_lt g
  have h2 := d.isLt
  have h3 := a.isLt
  have h4 := vsrcEnc_lt b
  have h5 := ga.isLt
  refine lt_of_lt_of_eq (pack_lt _ ?_) rfl
  simp only [fmtVX, List.zip_cons_cons, List.zip_nil_right, List.forall_mem_cons, List.not_mem_nil, false_imp_iff, implies_true, and_true]
  omega

theorem eVCK_lt {op : Nat} (h : op < 128) (g : Guard) (t : TileNo) : eVCK op g t < 2 ^ 56 := by
  have h1 := guardEnc_lt g
  have h2 := t.isLt
  refine lt_of_lt_of_eq (pack_lt _ ?_) rfl
  simp only [fmtVX, List.zip_cons_cons, List.zip_nil_right, List.forall_mem_cons, List.not_mem_nil, false_imp_iff, implies_true, and_true]
  omega

theorem eVRU_lt {op : Nat} (h : op < 128) (g : Guard) (d : VDst) (a : VSrc) (u : Bool) : eVRU op g d a u < 2 ^ 56 := by
  have h1 := guardEnc_lt g
  have h2 := vdstEnc_lt d
  have h3 := vdstW_lt d
  have h4 := vsrcEnc_lt a
  have h5 := Bool.toNat_lt u
  refine lt_of_lt_of_eq (pack_lt _ ?_) rfl
  simp only [fmtVX, List.zip_cons_cons, List.zip_nil_right, List.forall_mem_cons, List.not_mem_nil, false_imp_iff, implies_true, and_true]
  omega

theorem eV2H_lt {op : Nat} (h : op < 128) (g : Guard) (d : VDst) (a : VSrc) (b : VSrc) (h : Bool) : eV2H op g d a b h < 2 ^ 56 := by
  have h1 := guardEnc_lt g
  have h2 := vdstEnc_lt d
  have h3 := vdstW_lt d
  have h4 := vsrcEnc_lt a
  have h5 := vsrcEnc_lt b
  have h6 := Bool.toNat_lt h
  refine lt_of_lt_of_eq (pack_lt _ ?_) rfl
  simp only [fmtVX, List.zip_cons_cons, List.zip_nil_right, List.forall_mem_cons, List.not_mem_nil, false_imp_iff, implies_true, and_true]
  omega

theorem eVCE_lt {op : Nat} (h : op < 128) (g : Guard) (d : VDst) (a : VSrc) (b : VSrc) (n : OptG) : eVCE op g d a b n < 2 ^ 56 := by
  have h1 := guardEnc_lt g
  have h2 := vdstEnc_lt d
  have h3 := vdstW_lt d
  have h4 := vsrcEnc_lt a
  have h5 := vsrcEnc_lt b
  have h6 := optGEnc_lt n
  refine lt_of_lt_of_eq (pack_lt _ ?_) rfl
  simp only [fmtVX, List.zip_cons_cons, List.zip_nil_right, List.forall_mem_cons, List.not_mem_nil, false_imp_iff, implies_true, and_true]
  omega

theorem eVIOTA_lt {op : Nat} (h : op < 128) (g : Guard) (d : VDst) (a : VSrc) (u : Bool) : eVIOTA op g d a u < 2 ^ 56 := by
  have h1 := guardEnc_lt g
  have h2 := vdstEnc_lt d
  have h3 := vdstW_lt d
  have h4 := vsrcEnc_lt a
  have h5 := Bool.toNat_lt u
  refine lt_of_lt_of_eq (pack_lt _ ?_) rfl
  simp only [fmtVX, List.zip_cons_cons, List.zip_nil_right, List.forall_mem_cons, List.not_mem_nil, false_imp_iff, implies_true, and_true]
  omega

theorem eVANYS_lt {op : Nat} (h : op < 128) (g : Guard) (gn : GReg) (b : BitNo) (a : VSrc) : eVANYS op g gn b a < 2 ^ 56 := by
  have h1 := guardEnc_lt g
  have h2 := gn.isLt
  have h3 := b.isLt
  have h4 := vsrcEnc_lt a
  refine lt_of_lt_of_eq (pack_lt _ ?_) rfl
  simp only [fmtVX, List.zip_cons_cons, List.zip_nil_right, List.forall_mem_cons, List.not_mem_nil, false_imp_iff, implies_true, and_true]
  omega

theorem eVMCNT_lt {op : Nat} (h : op < 128) (g : Guard) (gn : GReg) (a : VSrc) : eVMCNT op g gn a < 2 ^ 56 := by
  have h1 := guardEnc_lt g
  have h2 := gn.isLt
  have h3 := vsrcEnc_lt a
  refine lt_of_lt_of_eq (pack_lt _ ?_) rfl
  simp only [fmtVX, List.zip_cons_cons, List.zip_nil_right, List.forall_mem_cons, List.not_mem_nil, false_imp_iff, implies_true, and_true]
  omega

theorem eVMSKGS_lt {op : Nat} (h : op < 128) (g : Guard) (gn : GReg) (a : VSrc) (q : Code4) : eVMSKGS op g gn a q < 2 ^ 56 := by
  have h1 := guardEnc_lt g
  have h2 := gn.isLt
  have h3 := vsrcEnc_lt a
  have h4 := q.isLt
  refine lt_of_lt_of_eq (pack_lt _ ?_) rfl
  simp only [fmtVX, List.zip_cons_cons, List.zip_nil_right, List.forall_mem_cons, List.not_mem_nil, false_imp_iff, implies_true, and_true]
  omega

theorem eVGMSKS_lt {op : Nat} (h : op < 128) (g : Guard) (d : VReg) (gs : GReg) (q : Code4) : eVGMSKS op g d gs q < 2 ^ 56 := by
  have h1 := guardEnc_lt g
  have h2 := d.isLt
  have h3 := gs.isLt
  have h4 := q.isLt
  refine lt_of_lt_of_eq (pack_lt _ ?_) rfl
  simp only [fmtVX, List.zip_cons_cons, List.zip_nil_right, List.forall_mem_cons, List.not_mem_nil, false_imp_iff, implies_true, and_true]
  omega

theorem eVINSS_lt {op : Nat} (h : op < 128) (g : Guard) (d : VReg) (gs : GReg) (t : VSrc) : eVINSS op g d gs t < 2 ^ 56 := by
  have h1 := guardEnc_lt g
  have h2 := d.isLt
  have h3 := gs.isLt
  have h4 := vsrcEnc_lt t
  refine lt_of_lt_of_eq (pack_lt _ ?_) rfl
  simp only [fmtVX, List.zip_cons_cons, List.zip_nil_right, List.forall_mem_cons, List.not_mem_nil, false_imp_iff, implies_true, and_true]
  omega

theorem eVEXTS_lt {op : Nat} (h : op < 128) (g : Guard) (gn : GReg) (a : VSrc) (t : VSrc) : eVEXTS op g gn a t < 2 ^ 56 := by
  have h1 := guardEnc_lt g
  have h2 := gn.isLt
  have h3 := vsrcEnc_lt a
  have h4 := vsrcEnc_lt t
  refine lt_of_lt_of_eq (pack_lt _ ?_) rfl
  simp only [fmtVX, List.zip_cons_cons, List.zip_nil_right, List.forall_mem_cons, List.not_mem_nil, false_imp_iff, implies_true, and_true]
  omega

theorem eVTCFG_lt {op : Nat} (h : op < 128) (g : Guard) (t : TileNo) (ty : TileType) : eVTCFG op g t ty < 2 ^ 56 := by
  have h1 := guardEnc_lt g
  have h2 := t.isLt
  have h3 := ttEnc_lt ty
  refine lt_of_lt_of_eq (pack_lt _ ?_) rfl
  simp only [fmtVX, List.zip_cons_cons, List.zip_nil_right, List.forall_mem_cons, List.not_mem_nil, false_imp_iff, implies_true, and_true]
  omega

theorem eVCVT8S_lt {op : Nat} (h : op < 128) (g : Guard) (d : VReg) (a : VSrc) (q : Code4) (e : Bool) (r : Rnd) : eVCVT8S op g d a q e r < 2 ^ 56 := by
  have h1 := guardEnc_lt g
  have h2 := d.isLt
  have h3 := vsrcEnc_lt a
  have h4 := q.isLt
  have h5 := Bool.toNat_lt e
  have h6 := rndEnc_lt r
  refine lt_of_lt_of_eq (pack_lt _ ?_) rfl
  simp only [fmtVX, List.zip_cons_cons, List.zip_nil_right, List.forall_mem_cons, List.not_mem_nil, false_imp_iff, implies_true, and_true]
  omega

theorem eM0_lt {op : Nat} (h : op < 16) : eM0 op < 2 ^ 32 := by
  refine lt_of_lt_of_eq (pack_lt _ ?_) rfl
  simp only [List.zip_cons_cons, List.zip_nil_right, List.forall_mem_cons, List.not_mem_nil, false_imp_iff, implies_true, and_true]
  omega

theorem eMSET1_lt {op : Nat} (h : op < 16) (set : Bool) : eMSET1 op set < 2 ^ 32 := by
  have h1 := Bool.toNat_lt set
  refine lt_of_lt_of_eq (pack_lt _ ?_) rfl
  simp only [List.zip_cons_cons, List.zip_nil_right, List.forall_mem_cons, List.not_mem_nil, false_imp_iff, implies_true, and_true]
  omega

theorem eMBEAT_lt {op : Nat} (h : op < 16) (w : Wt) (sa : SReg) (sb : SReg) : eMBEAT op w sa sb < 2 ^ 32 := by
  have h1 := w.isLt
  have h2 := sa.isLt
  have h3 := sb.isLt
  refine lt_of_lt_of_eq (pack_lt _ ?_) rfl
  simp only [List.zip_cons_cons, List.zip_nil_right, List.forall_mem_cons, List.not_mem_nil, false_imp_iff, implies_true, and_true]
  omega

theorem eMSH_lt {op : Nat} (h : op < 16) (sa : SReg) (sb : SReg) : eMSH op sa sb < 2 ^ 32 := by
  have h1 := sa.isLt
  have h2 := sb.isLt
  refine lt_of_lt_of_eq (pack_lt _ ?_) rfl
  simp only [List.zip_cons_cons, List.zip_nil_right, List.forall_mem_cons, List.not_mem_nil, false_imp_iff, implies_true, and_true]
  omega

theorem eMDR_lt {op : Nat} (h : op < 16) (arow : Row64) (t : Row64) : eMDR op arow t < 2 ^ 32 := by
  have h1 := arow.isLt
  have h2 := t.isLt
  refine lt_of_lt_of_eq (pack_lt _ ?_) rfl
  simp only [List.zip_cons_cons, List.zip_nil_right, List.forall_mem_cons, List.not_mem_nil, false_imp_iff, implies_true, and_true]
  omega

theorem eMCF_lt {op : Nat} (h : op < 16) (pa : Code4) (pb : Code4) : eMCF op pa pb < 2 ^ 32 := by
  have h1 := pa.isLt
  have h2 := pb.isLt
  refine lt_of_lt_of_eq (pack_lt _ ?_) rfl
  simp only [List.zip_cons_cons, List.zip_nil_right, List.forall_mem_cons, List.not_mem_nil, false_imp_iff, implies_true, and_true]
  omega

theorem eXNOP_lt {op : Nat} (h : op < 64) : eXNOP op < 2 ^ 40 := by
  refine lt_of_lt_of_eq (pack_lt _ ?_) rfl
  simp only [fmtTE, List.zip_cons_cons, List.zip_nil_right, List.forall_mem_cons, List.not_mem_nil, false_imp_iff, implies_true, and_true]
  omega

theorem eXLD_lt {op : Nat} (h : op < 64) (g : Guard) (d : GReg) (s : GReg) (size : Code4) (acq : Bool) (scope : Scope) : eXLD op g d s size acq scope < 2 ^ 40 := by
  have h1 := guardEnc_lt g
  have h2 := d.isLt
  have h3 := s.isLt
  have h4 := size.isLt
  have h5 := Bool.toNat_lt acq
  have h6 := scopeEnc_lt scope
  refine lt_of_lt_of_eq (pack_lt _ ?_) rfl
  simp only [fmtTA, List.zip_cons_cons, List.zip_nil_right, List.forall_mem_cons, List.not_mem_nil, false_imp_iff, implies_true, and_true]
  omega

theorem eXST_lt {op : Nat} (h : op < 64) (g : Guard) (d : GReg) (s : GReg) (size : Code4) (rel : Bool) (scope : Scope) : eXST op g d s size rel scope < 2 ^ 40 := by
  have h1 := guardEnc_lt g
  have h2 := d.isLt
  have h3 := s.isLt
  have h4 := size.isLt
  have h5 := Bool.toNat_lt rel
  have h6 := scopeEnc_lt scope
  refine lt_of_lt_of_eq (pack_lt _ ?_) rfl
  simp only [fmtTA, List.zip_cons_cons, List.zip_nil_right, List.forall_mem_cons, List.not_mem_nil, false_imp_iff, implies_true, and_true]
  omega

theorem eXLDV_lt {op : Nat} (h : op < 64) (g : Guard) (v : VReg) (s : GReg) (acq : Bool) (scope : Scope) : eXLDV op g v s acq scope < 2 ^ 40 := by
  have h1 := guardEnc_lt g
  have h2 := v.isLt
  have h3 := s.isLt
  have h4 := Bool.toNat_lt acq
  have h5 := scopeEnc_lt scope
  refine lt_of_lt_of_eq (pack_lt _ ?_) rfl
  simp only [fmtTA, List.zip_cons_cons, List.zip_nil_right, List.forall_mem_cons, List.not_mem_nil, false_imp_iff, implies_true, and_true]
  omega

theorem eXSTV_lt {op : Nat} (h : op < 64) (g : Guard) (v : VReg) (s : GReg) (rel : Bool) (scope : Scope) : eXSTV op g v s rel scope < 2 ^ 40 := by
  have h1 := guardEnc_lt g
  have h2 := v.isLt
  have h3 := s.isLt
  have h4 := Bool.toNat_lt rel
  have h5 := scopeEnc_lt scope
  refine lt_of_lt_of_eq (pack_lt _ ?_) rfl
  simp only [fmtTA, List.zip_cons_cons, List.zip_nil_right, List.forall_mem_cons, List.not_mem_nil, false_imp_iff, implies_true, and_true]
  omega

theorem eXPF_lt {op : Nat} (h : op < 64) (g : Guard) (s : GReg) : eXPF op g s < 2 ^ 40 := by
  have h1 := guardEnc_lt g
  have h2 := s.isLt
  refine lt_of_lt_of_eq (pack_lt _ ?_) rfl
  simp only [fmtTA, List.zip_cons_cons, List.zip_nil_right, List.forall_mem_cons, List.not_mem_nil, false_imp_iff, implies_true, and_true]
  omega

theorem eXAT_lt {op : Nat} (h : op < 64) (g : Guard) (d : GReg) (s : GReg) (wide : Bool) (ord : Ord4) (scope : Scope) : eXAT op g d s wide ord scope < 2 ^ 40 := by
  have h1 := guardEnc_lt g
  have h2 := d.isLt
  have h3 := s.isLt
  have h4 := Bool.toNat_lt wide
  have h5 := ordEnc_lt ord
  have h6 := scopeEnc_lt scope
  refine lt_of_lt_of_eq (pack_lt _ ?_) rfl
  simp only [fmtTA, List.zip_cons_cons, List.zip_nil_right, List.forall_mem_cons, List.not_mem_nil, false_imp_iff, implies_true, and_true]
  omega

theorem eXATCAS_lt {op : Nat} (h : op < 64) (g : Guard) (d : GReg) (s : GReg) (wide : Bool) (ord : Ord4) (scope : Scope) : eXATCAS op g d s wide ord scope < 2 ^ 40 := by
  have h1 := guardEnc_lt g
  have h2 := d.isLt
  have h3 := s.isLt
  have h4 := Bool.toNat_lt wide
  have h5 := ordEnc_lt ord
  have h6 := scopeEnc_lt scope
  refine lt_of_lt_of_eq (pack_lt _ ?_) rfl
  simp only [fmtTA, List.zip_cons_cons, List.zip_nil_right, List.forall_mem_cons, List.not_mem_nil, false_imp_iff, implies_true, and_true]
  omega

theorem eXATF_lt {op : Nat} (h : op < 64) (g : Guard) (d : GReg) (s : GReg) (ord : Ord4) (scope : Scope) : eXATF op g d s ord scope < 2 ^ 40 := by
  have h1 := guardEnc_lt g
  have h2 := d.isLt
  have h3 := s.isLt
  have h4 := ordEnc_lt ord
  have h5 := scopeEnc_lt scope
  refine lt_of_lt_of_eq (pack_lt _ ?_) rfl
  simp only [fmtTA, List.zip_cons_cons, List.zip_nil_right, List.forall_mem_cons, List.not_mem_nil, false_imp_iff, implies_true, and_true]
  omega

theorem eXFENCE_lt {op : Nat} (h : op < 64) (g : Guard) (ord : Ord4) (scope : Scope) : eXFENCE op g ord scope < 2 ^ 40 := by
  have h1 := guardEnc_lt g
  have h2 := ordEnc_lt ord
  have h3 := scopeEnc_lt scope
  refine lt_of_lt_of_eq (pack_lt _ ?_) rfl
  simp only [fmtTA, List.zip_cons_cons, List.zip_nil_right, List.forall_mem_cons, List.not_mem_nil, false_imp_iff, implies_true, and_true]
  omega

theorem eXLDFE_lt {op : Nat} (h : op < 64) (g : Guard) (p : GReg) (q : GReg) (size : Code4) (clear : Bool) : eXLDFE op g p q size clear < 2 ^ 40 := by
  have h1 := guardEnc_lt g
  have h2 := p.isLt
  have h3 := q.isLt
  have h4 := size.isLt
  have h5 := Bool.toNat_lt clear
  refine lt_of_lt_of_eq (pack_lt _ ?_) rfl
  simp only [fmtTE, List.zip_cons_cons, List.zip_nil_right, List.forall_mem_cons, List.not_mem_nil, false_imp_iff, implies_true, and_true]
  omega

theorem eXSTFE_lt {op : Nat} (h : op < 64) (g : Guard) (p : GReg) (q : GReg) (size : Code4) : eXSTFE op g p q size < 2 ^ 40 := by
  have h1 := guardEnc_lt g
  have h2 := p.isLt
  have h3 := q.isLt
  have h4 := size.isLt
  refine lt_of_lt_of_eq (pack_lt _ ?_) rfl
  simp only [fmtTE, List.zip_cons_cons, List.zip_nil_right, List.forall_mem_cons, List.not_mem_nil, false_imp_iff, implies_true, and_true]
  omega

theorem eXFESET_lt {op : Nat} (h : op < 64) (g : Guard) (p : GReg) (q : GReg) (v : Bool) : eXFESET op g p q v < 2 ^ 40 := by
  have h1 := guardEnc_lt g
  have h2 := p.isLt
  have h3 := q.isLt
  have h4 := Bool.toNat_lt v
  refine lt_of_lt_of_eq (pack_lt _ ?_) rfl
  simp only [fmtTE, List.zip_cons_cons, List.zip_nil_right, List.forall_mem_cons, List.not_mem_nil, false_imp_iff, implies_true, and_true]
  omega

theorem eXTEST_lt {op : Nat} (h : op < 64) (g : Guard) (p : GReg) (b : BitNo) (q : GReg) : eXTEST op g p b q < 2 ^ 40 := by
  have h1 := guardEnc_lt g
  have h2 := p.isLt
  have h3 := b.isLt
  have h4 := q.isLt
  refine lt_of_lt_of_eq (pack_lt _ ?_) rfl
  simp only [fmtTE, List.zip_cons_cons, List.zip_nil_right, List.forall_mem_cons, List.not_mem_nil, false_imp_iff, implies_true, and_true]
  omega

theorem eXG_lt {op : Nat} (h : op < 64) (g : Guard) : eXG op g < 2 ^ 40 := by
  have h1 := guardEnc_lt g
  refine lt_of_lt_of_eq (pack_lt _ ?_) rfl
  simp only [fmtTE, List.zip_cons_cons, List.zip_nil_right, List.forall_mem_cons, List.not_mem_nil, false_imp_iff, implies_true, and_true]
  omega

theorem eXSB_lt {op : Nat} (h : op < 64) (g : Guard) (n : SReg) (q : Oct) : eXSB op g n q < 2 ^ 40 := by
  have h1 := guardEnc_lt g
  have h2 := n.isLt
  have h3 := q.isLt
  refine lt_of_lt_of_eq (pack_lt _ ?_) rfl
  simp only [fmtTE, List.zip_cons_cons, List.zip_nil_right, List.forall_mem_cons, List.not_mem_nil, false_imp_iff, implies_true, and_true]
  omega

theorem eXSU_lt {op : Nat} (h : op < 64) (g : Guard) (n : SReg) : eXSU op g n < 2 ^ 40 := by
  have h1 := guardEnc_lt g
  have h2 := n.isLt
  refine lt_of_lt_of_eq (pack_lt _ ?_) rfl
  simp only [fmtTE, List.zip_cons_cons, List.zip_nil_right, List.forall_mem_cons, List.not_mem_nil, false_imp_iff, implies_true, and_true]
  omega

theorem eXTR_lt {op : Nat} (h : op < 64) (g : Guard) (e : TEntry) (q : Oct) : eXTR op g e q < 2 ^ 40 := by
  have h1 := guardEnc_lt g
  have h2 := e.isLt
  have h3 := q.isLt
  refine lt_of_lt_of_eq (pack_lt _ ?_) rfl
  simp only [fmtTE, List.zip_cons_cons, List.zip_nil_right, List.forall_mem_cons, List.not_mem_nil, false_imp_iff, implies_true, and_true]
  omega

theorem eXTU_lt {op : Nat} (h : op < 64) (g : Guard) (e : TEntry) : eXTU op g e < 2 ^ 40 := by
  have h1 := guardEnc_lt g
  have h2 := e.isLt
  refine lt_of_lt_of_eq (pack_lt _ ?_) rfl
  simp only [fmtTE, List.zip_cons_cons, List.zip_nil_right, List.forall_mem_cons, List.not_mem_nil, false_imp_iff, implies_true, and_true]
  omega

theorem eXEN_lt {op : Nat} (h : op < 64) (g : Guard) (p : Oct) (q : GReg) : eXEN op g p q < 2 ^ 40 := by
  have h1 := guardEnc_lt g
  have h2 := p.isLt
  have h3 := q.isLt
  refine lt_of_lt_of_eq (pack_lt _ ?_) rfl
  simp only [fmtTE, List.zip_cons_cons, List.zip_nil_right, List.forall_mem_cons, List.not_mem_nil, false_imp_iff, implies_true, and_true]
  omega

theorem eXQ_lt {op : Nat} (h : op < 64) (g : Guard) (q : GReg) : eXQ op g q < 2 ^ 40 := by
  have h1 := guardEnc_lt g
  have h2 := q.isLt
  refine lt_of_lt_of_eq (pack_lt _ ?_) rfl
  simp only [fmtTE, List.zip_cons_cons, List.zip_nil_right, List.forall_mem_cons, List.not_mem_nil, false_imp_iff, implies_true, and_true]
  omega

theorem eXPQ_lt {op : Nat} (h : op < 64) (g : Guard) (p : GReg) (q : GReg) : eXPQ op g p q < 2 ^ 40 := by
  have h1 := guardEnc_lt g
  have h2 := p.isLt
  have h3 := q.isLt
  refine lt_of_lt_of_eq (pack_lt _ ?_) rfl
  simp only [fmtTE, List.zip_cons_cons, List.zip_nil_right, List.forall_mem_cons, List.not_mem_nil, false_imp_iff, implies_true, and_true]
  omega

theorem eXCNTRD_lt {op : Nat} (h : op < 64) (g : Guard) (d : Dst) : eXCNTRD op g d < 2 ^ 40 := by
  have h1 := guardEnc_lt g
  have h2 := dstEnc_lt d
  have h3 := dstW_lt d
  have h4 := tdstEnc_lt d
  refine lt_of_lt_of_eq (pack_lt _ ?_) rfl
  simp only [fmtTE, List.zip_cons_cons, List.zip_nil_right, List.forall_mem_cons, List.not_mem_nil, false_imp_iff, implies_true, and_true]
  omega

theorem eXKB_lt {op : Nat} (h : op < 64) (g : Guard) (n : KReg) (q : EvenReg) : eXKB op g n q < 2 ^ 40 := by
  have h1 := guardEnc_lt g
  have h2 := n.isLt
  have h3 := q.isLt
  refine lt_of_lt_of_eq (pack_lt _ ?_) rfl
  simp only [fmtTE, List.zip_cons_cons, List.zip_nil_right, List.forall_mem_cons, List.not_mem_nil, false_imp_iff, implies_true, and_true]
  omega

theorem eXKU_lt {op : Nat} (h : op < 64) (g : Guard) (n : KReg) : eXKU op g n < 2 ^ 40 := by
  have h1 := guardEnc_lt g
  have h2 := n.isLt
  refine lt_of_lt_of_eq (pack_lt _ ?_) rfl
  simp only [fmtTE, List.zip_cons_cons, List.zip_nil_right, List.forall_mem_cons, List.not_mem_nil, false_imp_iff, implies_true, and_true]
  omega

theorem eXKS_lt {op : Nat} (h : op < 64) (g : Guard) (d : Dst) (n : KReg) : eXKS op g d n < 2 ^ 40 := by
  have h1 := guardEnc_lt g
  have h2 := dstEnc_lt d
  have h3 := dstW_lt d
  have h4 := tdstEnc_lt d
  have h5 := n.isLt
  refine lt_of_lt_of_eq (pack_lt _ ?_) rfl
  simp only [fmtTE, List.zip_cons_cons, List.zip_nil_right, List.forall_mem_cons, List.not_mem_nil, false_imp_iff, implies_true, and_true]
  omega

theorem eXP8_lt {op : Nat} (h : op < 64) (g : Guard) (p : Oct) : eXP8 op g p < 2 ^ 40 := by
  have h1 := guardEnc_lt g
  have h2 := p.isLt
  refine lt_of_lt_of_eq (pack_lt _ ?_) rfl
  simp only [fmtTE, List.zip_cons_cons, List.zip_nil_right, List.forall_mem_cons, List.not_mem_nil, false_imp_iff, implies_true, and_true]
  omega

theorem eVCS0_lt {op : Nat} (h : op < 128) (g : Guard) (t : TileNo) : eVCS0 op g t < 2 ^ 56 := by
  have h1 := guardEnc_lt g
  have h2 := t.isLt
  refine lt_of_lt_of_eq (pack_lt _ ?_) rfl
  simp only [fmtVX, List.zip_cons_cons, List.zip_nil_right, List.forall_mem_cons, List.not_mem_nil, false_imp_iff, implies_true, and_true]
  omega

theorem eVCSR_lt {op : Nat} (h : op < 128) (g : Guard) (d : VDst) (t : TileNo) (sel : Code4) : eVCSR op g d t sel < 2 ^ 56 := by
  have h1 := guardEnc_lt g
  have h2 := vdstEnc_lt d
  have h3 := vdstW_lt d
  have h4 := t.isLt
  have h5 := sel.isLt
  refine lt_of_lt_of_eq (pack_lt _ ?_) rfl
  simp only [fmtVX, List.zip_cons_cons, List.zip_nil_right, List.forall_mem_cons, List.not_mem_nil, false_imp_iff, implies_true, and_true]
  omega

end Sys2Proof
end

