-- ==== Sys2Proof/Laws/State.lean ====
section
/-!
SUPPORT. One lemma for each field and each named update of the state, of a context and of the shadowed registers: what the update writes,
and what it leaves alone.
-/
namespace Sys2Proof.Machine

/-! ### State.setCtx -/

@[simp] theorem State.setCtx_tick (s : State) (x : Nat) (c : Context) : (s.setCtx x c).tick = s.tick := rfl
@[simp] theorem State.setCtx_devns (s : State) (x : Nat) (c : Context) : (s.setCtx x c).devns = s.devns := rfl
@[simp] theorem State.setCtx_mem (s : State) (x : Nat) (c : Context) : (s.setCtx x c).mem = s.mem := rfl
@[simp] theorem State.setCtx_full (s : State) (x : Nat) (c : Context) : (s.setCtx x c).full = s.full := rfl
@[simp] theorem State.setCtx_ue (s : State) (x : Nat) (c : Context) : (s.setCtx x c).ue = s.ue := rfl
@[simp] theorem State.setCtx_enc (s : State) (x : Nat) (c : Context) : (s.setCtx x c).enc = s.enc := rfl
@[simp] theorem State.setCtx_lineSeq (s : State) (x : Nat) (c : Context) : (s.setCtx x c).lineSeq = s.lineSeq := rfl
@[simp] theorem State.setCtx_dies (s : State) (x : Nat) (c : Context) : (s.setCtx x c).dies = s.dies := rfl
@[simp] theorem State.setCtx_tlb (s : State) (x : Nat) (c : Context) : (s.setCtx x c).tlb = s.tlb := rfl
@[simp] theorem State.setCtx_reads (s : State) (x : Nat) (c : Context) : (s.setCtx x c).reads = s.reads := rfl
@[simp] theorem State.setCtx_cores (s : State) (x : Nat) (c : Context) : (s.setCtx x c).cores = s.cores := rfl
@[simp] theorem State.setCtx_ctxs (s : State) (x : Nat) (c : Context) : (s.setCtx x c).ctxs = s.ctxs.set x c := rfl
@[simp] theorem State.setCtx_groups (s : State) (x : Nat) (c : Context) : (s.setCtx x c).groups = s.groups := rfl
@[simp] theorem State.setCtx_nextGroup (s : State) (x : Nat) (c : Context) : (s.setCtx x c).nextGroup = s.nextGroup := rfl
@[simp] theorem State.setCtx_runq (s : State) (x : Nat) (c : Context) : (s.setCtx x c).runq = s.runq := rfl
@[simp] theorem State.setCtx_restore (s : State) (x : Nat) (c : Context) : (s.setCtx x c).restore = s.restore := rfl
@[simp] theorem State.setCtx_gangs (s : State) (x : Nat) (c : Context) : (s.setCtx x c).gangs = s.gangs := rfl
@[simp] theorem State.setCtx_purses (s : State) (x : Nat) (c : Context) : (s.setCtx x c).purses = s.purses := rfl
@[simp] theorem State.setCtx_purseNs (s : State) (x : Nat) (c : Context) : (s.setCtx x c).purseNs = s.purseNs := rfl
@[simp] theorem State.setCtx_engines (s : State) (x : Nat) (c : Context) : (s.setCtx x c).engines = s.engines := rfl
@[simp] theorem State.setCtx_nextEngine (s : State) (x : Nat) (c : Context) : (s.setCtx x c).nextEngine = s.nextEngine := rfl
@[simp] theorem State.setCtx_launches (s : State) (x : Nat) (c : Context) : (s.setCtx x c).launches = s.launches := rfl
@[simp] theorem State.setCtx_nextLaunch (s : State) (x : Nat) (c : Context) : (s.setCtx x c).nextLaunch = s.nextLaunch := rfl
@[simp] theorem State.setCtx_plots (s : State) (x : Nat) (c : Context) : (s.setCtx x c).plots = s.plots := rfl
@[simp] theorem State.setCtx_estates (s : State) (x : Nat) (c : Context) : (s.setCtx x c).estates = s.estates := rfl
@[simp] theorem State.setCtx_ownerPage (s : State) (x : Nat) (c : Context) : (s.setCtx x c).ownerPage = s.ownerPage := rfl
@[simp] theorem State.setCtx_cmds (s : State) (x : Nat) (c : Context) : (s.setCtx x c).cmds = s.cmds := rfl
@[simp] theorem State.setCtx_ownerLog (s : State) (x : Nat) (c : Context) : (s.setCtx x c).ownerLog = s.ownerLog := rfl
@[simp] theorem State.setCtx_ownerMsix (s : State) (x : Nat) (c : Context) : (s.setCtx x c).ownerMsix = s.ownerMsix := rfl
@[simp] theorem State.setCtx_pairings (s : State) (x : Nat) (c : Context) : (s.setCtx x c).pairings = s.pairings := rfl
@[simp] theorem State.setCtx_landed (s : State) (x : Nat) (c : Context) : (s.setCtx x c).landed = s.landed := rfl
@[simp] theorem State.setCtx_nextSeq (s : State) (x : Nat) (c : Context) : (s.setCtx x c).nextSeq = s.nextSeq := rfl
@[simp] theorem State.setCtx_fabric (s : State) (x : Nat) (c : Context) : (s.setCtx x c).fabric = s.fabric := rfl
@[simp] theorem State.setCtx_refusedReplies (s : State) (x : Nat) (c : Context) : (s.setCtx x c).refusedReplies = s.refusedReplies := rfl
@[simp] theorem State.setCtx_purseReg (s : State) (x : Nat) (c : Context) : (s.setCtx x c).purseReg = s.purseReg := rfl
@[simp] theorem State.setCtx_spinReg (s : State) (x : Nat) (c : Context) : (s.setCtx x c).spinReg = s.spinReg := rfl
@[simp] theorem State.setCtx_shareReg (s : State) (x : Nat) (c : Context) : (s.setCtx x c).shareReg = s.shareReg := rfl
@[simp] theorem State.setCtx_agePeriod (s : State) (x : Nat) (c : Context) : (s.setCtx x c).agePeriod = s.agePeriod := rfl
@[simp] theorem State.setCtx_winBase (s : State) (x : Nat) (c : Context) : (s.setCtx x c).winBase = s.winBase := rfl
@[simp] theorem State.setCtx_keys (s : State) (x : Nat) (c : Context) : (s.setCtx x c).keys = s.keys := rfl
@[simp] theorem State.setCtx_jobs (s : State) (x : Nat) (c : Context) : (s.setCtx x c).jobs = s.jobs := rfl
@[simp] theorem State.setCtx_scrubPos (s : State) (x : Nat) (c : Context) : (s.setCtx x c).scrubPos = s.scrubPos := rfl
@[simp] theorem State.setCtx_quarantine (s : State) (x : Nat) (c : Context) : (s.setCtx x c).quarantine = s.quarantine := rfl
@[simp] theorem State.setCtx_unsettled (s : State) (x : Nat) (c : Context) : (s.setCtx x c).unsettled = s.unsettled := rfl
@[simp] theorem State.setCtx_wfail (s : State) (x : Nat) (c : Context) : (s.setCtx x c).wfail = s.wfail := rfl
@[simp] theorem State.setCtx_lastStart (s : State) (x : Nat) (c : Context) : (s.setCtx x c).lastStart = s.lastStart := rfl
@[simp] theorem State.setCtx_failStep (s : State) (x : Nat) (c : Context) : (s.setCtx x c).failStep = s.failStep := rfl
@[simp] theorem State.setCtx_starts (s : State) (x : Nat) (c : Context) : (s.setCtx x c).starts = s.starts := rfl
@[simp] theorem State.setCtx_onFabric (s : State) (x : Nat) (c : Context) : (s.setCtx x c).onFabric = s.onFabric := rfl
@[simp] theorem State.setCtx_patCount (s : State) (x : Nat) (c : Context) : (s.setCtx x c).patCount = s.patCount := rfl
@[simp] theorem State.setCtx_patSpace (s : State) (x : Nat) (c : Context) : (s.setCtx x c).patSpace = s.patSpace := rfl
@[simp] theorem State.setCtx_patAddr (s : State) (x : Nat) (c : Context) : (s.setCtx x c).patAddr = s.patAddr := rfl
@[simp] theorem State.setCtx_vfEnable (s : State) (x : Nat) (c : Context) : (s.setCtx x c).vfEnable = s.vfEnable := rfl
@[simp] theorem State.setCtx_vfOffAt (s : State) (x : Nat) (c : Context) : (s.setCtx x c).vfOffAt = s.vfOffAt := rfl
@[simp] theorem State.setCtx_hostMsgs (s : State) (x : Nat) (c : Context) : (s.setCtx x c).hostMsgs = s.hostMsgs := rfl
@[simp] theorem State.setCtx_hostData (s : State) (x : Nat) (c : Context) : (s.setCtx x c).hostData = s.hostData := rfl
@[simp] theorem State.setCtx_free (s : State) (x : Nat) (c : Context) : (s.setCtx x c).free = s.free := rfl
@[simp] theorem State.setCtx_iss (s : State) (x : Nat) (c : Context) : (s.setCtx x c).iss = s.iss := rfl
@[simp] theorem State.setCtx_micro (s : State) (x : Nat) (c : Context) : (s.setCtx x c).micro = s.micro := rfl
@[simp] theorem State.setCtx_sched (s : State) (x : Nat) (c : Context) : (s.setCtx x c).sched = s.sched := rfl
@[simp] theorem State.setCtx_due (s : State) (x : Nat) (c : Context) : (s.setCtx x c).due = s.due := rfl

/-! ### State.setPlot -/

@[simp] theorem State.setPlot_tick (s : State) (p : Nat) (x : Plot) : (s.setPlot p x).tick = s.tick := rfl
@[simp] theorem State.setPlot_devns (s : State) (p : Nat) (x : Plot) : (s.setPlot p x).devns = s.devns := rfl
@[simp] theorem State.setPlot_mem (s : State) (p : Nat) (x : Plot) : (s.setPlot p x).mem = s.mem := rfl
@[simp] theorem State.setPlot_full (s : State) (p : Nat) (x : Plot) : (s.setPlot p x).full = s.full := rfl
@[simp] theorem State.setPlot_ue (s : State) (p : Nat) (x : Plot) : (s.setPlot p x).ue = s.ue := rfl
@[simp] theorem State.setPlot_enc (s : State) (p : Nat) (x : Plot) : (s.setPlot p x).enc = s.enc := rfl
@[simp] theorem State.setPlot_lineSeq (s : State) (p : Nat) (x : Plot) : (s.setPlot p x).lineSeq = s.lineSeq := rfl
@[simp] theorem State.setPlot_dies (s : State) (p : Nat) (x : Plot) : (s.setPlot p x).dies = s.dies := rfl
@[simp] theorem State.setPlot_tlb (s : State) (p : Nat) (x : Plot) : (s.setPlot p x).tlb = s.tlb := rfl
@[simp] theorem State.setPlot_reads (s : State) (p : Nat) (x : Plot) : (s.setPlot p x).reads = s.reads := rfl
@[simp] theorem State.setPlot_cores (s : State) (p : Nat) (x : Plot) : (s.setPlot p x).cores = s.cores := rfl
@[simp] theorem State.setPlot_ctxs (s : State) (p : Nat) (x : Plot) : (s.setPlot p x).ctxs = s.ctxs := rfl
@[simp] theorem State.setPlot_groups (s : State) (p : Nat) (x : Plot) : (s.setPlot p x).groups = s.groups := rfl
@[simp] theorem State.setPlot_nextGroup (s : State) (p : Nat) (x : Plot) : (s.setPlot p x).nextGroup = s.nextGroup := rfl
@[simp] theorem State.setPlot_runq (s : State) (p : Nat) (x : Plot) : (s.setPlot p x).runq = s.runq := rfl
@[simp] theorem State.setPlot_restore (s : State) (p : Nat) (x : Plot) : (s.setPlot p x).restore = s.restore := rfl
@[simp] theorem State.setPlot_gangs (s : State) (p : Nat) (x : Plot) : (s.setPlot p x).gangs = s.gangs := rfl
@[simp] theorem State.setPlot_purses (s : State) (p : Nat) (x : Plot) : (s.setPlot p x).purses = s.purses := rfl
@[simp] theorem State.setPlot_purseNs (s : State) (p : Nat) (x : Plot) : (s.setPlot p x).purseNs = s.purseNs := rfl
@[simp] theorem State.setPlot_engines (s : State) (p : Nat) (x : Plot) : (s.setPlot p x).engines = s.engines := rfl
@[simp] theorem State.setPlot_nextEngine (s : State) (p : Nat) (x : Plot) : (s.setPlot p x).nextEngine = s.nextEngine := rfl
@[simp] theorem State.setPlot_launches (s : State) (p : Nat) (x : Plot) : (s.setPlot p x).launches = s.launches := rfl
@[simp] theorem State.setPlot_nextLaunch (s : State) (p : Nat) (x : Plot) : (s.setPlot p x).nextLaunch = s.nextLaunch := rfl
@[simp] theorem State.setPlot_plots (s : State) (p : Nat) (x : Plot) : (s.setPlot p x).plots = s.plots.set p x := rfl
@[simp] theorem State.setPlot_estates (s : State) (p : Nat) (x : Plot) : (s.setPlot p x).estates = s.estates := rfl
@[simp] theorem State.setPlot_ownerPage (s : State) (p : Nat) (x : Plot) : (s.setPlot p x).ownerPage = s.ownerPage := rfl
@[simp] theorem State.setPlot_cmds (s : State) (p : Nat) (x : Plot) : (s.setPlot p x).cmds = s.cmds := rfl
@[simp] theorem State.setPlot_ownerLog (s : State) (p : Nat) (x : Plot) : (s.setPlot p x).ownerLog = s.ownerLog := rfl
@[simp] theorem State.setPlot_ownerMsix (s : State) (p : Nat) (x : Plot) : (s.setPlot p x).ownerMsix = s.ownerMsix := rfl
@[simp] theorem State.setPlot_pairings (s : State) (p : Nat) (x : Plot) : (s.setPlot p x).pairings = s.pairings := rfl
@[simp] theorem State.setPlot_landed (s : State) (p : Nat) (x : Plot) : (s.setPlot p x).landed = s.landed := rfl
@[simp] theorem State.setPlot_nextSeq (s : State) (p : Nat) (x : Plot) : (s.setPlot p x).nextSeq = s.nextSeq := rfl
@[simp] theorem State.setPlot_fabric (s : State) (p : Nat) (x : Plot) : (s.setPlot p x).fabric = s.fabric := rfl
@[simp] theorem State.setPlot_refusedReplies (s : State) (p : Nat) (x : Plot) : (s.setPlot p x).refusedReplies = s.refusedReplies := rfl
@[simp] theorem State.setPlot_purseReg (s : State) (p : Nat) (x : Plot) : (s.setPlot p x).purseReg = s.purseReg := rfl
@[simp] theorem State.setPlot_spinReg (s : State) (p : Nat) (x : Plot) : (s.setPlot p x).spinReg = s.spinReg := rfl
@[simp] theorem State.setPlot_shareReg (s : State) (p : Nat) (x : Plot) : (s.setPlot p x).shareReg = s.shareReg := rfl
@[simp] theorem State.setPlot_agePeriod (s : State) (p : Nat) (x : Plot) : (s.setPlot p x).agePeriod = s.agePeriod := rfl
@[simp] theorem State.setPlot_winBase (s : State) (p : Nat) (x : Plot) : (s.setPlot p x).winBase = s.winBase := rfl
@[simp] theorem State.setPlot_keys (s : State) (p : Nat) (x : Plot) : (s.setPlot p x).keys = s.keys := rfl
@[simp] theorem State.setPlot_jobs (s : State) (p : Nat) (x : Plot) : (s.setPlot p x).jobs = s.jobs := rfl
@[simp] theorem State.setPlot_scrubPos (s : State) (p : Nat) (x : Plot) : (s.setPlot p x).scrubPos = s.scrubPos := rfl
@[simp] theorem State.setPlot_quarantine (s : State) (p : Nat) (x : Plot) : (s.setPlot p x).quarantine = s.quarantine := rfl
@[simp] theorem State.setPlot_unsettled (s : State) (p : Nat) (x : Plot) : (s.setPlot p x).unsettled = s.unsettled := rfl
@[simp] theorem State.setPlot_wfail (s : State) (p : Nat) (x : Plot) : (s.setPlot p x).wfail = s.wfail := rfl
@[simp] theorem State.setPlot_lastStart (s : State) (p : Nat) (x : Plot) : (s.setPlot p x).lastStart = s.lastStart := rfl
@[simp] theorem State.setPlot_failStep (s : State) (p : Nat) (x : Plot) : (s.setPlot p x).failStep = s.failStep := rfl
@[simp] theorem State.setPlot_starts (s : State) (p : Nat) (x : Plot) : (s.setPlot p x).starts = s.starts := rfl
@[simp] theorem State.setPlot_onFabric (s : State) (p : Nat) (x : Plot) : (s.setPlot p x).onFabric = s.onFabric := rfl
@[simp] theorem State.setPlot_patCount (s : State) (p : Nat) (x : Plot) : (s.setPlot p x).patCount = s.patCount := rfl
@[simp] theorem State.setPlot_patSpace (s : State) (p : Nat) (x : Plot) : (s.setPlot p x).patSpace = s.patSpace := rfl
@[simp] theorem State.setPlot_patAddr (s : State) (p : Nat) (x : Plot) : (s.setPlot p x).patAddr = s.patAddr := rfl
@[simp] theorem State.setPlot_vfEnable (s : State) (p : Nat) (x : Plot) : (s.setPlot p x).vfEnable = s.vfEnable := rfl
@[simp] theorem State.setPlot_vfOffAt (s : State) (p : Nat) (x : Plot) : (s.setPlot p x).vfOffAt = s.vfOffAt := rfl
@[simp] theorem State.setPlot_hostMsgs (s : State) (p : Nat) (x : Plot) : (s.setPlot p x).hostMsgs = s.hostMsgs := rfl
@[simp] theorem State.setPlot_hostData (s : State) (p : Nat) (x : Plot) : (s.setPlot p x).hostData = s.hostData := rfl
@[simp] theorem State.setPlot_free (s : State) (p : Nat) (x : Plot) : (s.setPlot p x).free = s.free := rfl
@[simp] theorem State.setPlot_iss (s : State) (p : Nat) (x : Plot) : (s.setPlot p x).iss = s.iss := rfl
@[simp] theorem State.setPlot_micro (s : State) (p : Nat) (x : Plot) : (s.setPlot p x).micro = s.micro := rfl
@[simp] theorem State.setPlot_sched (s : State) (p : Nat) (x : Plot) : (s.setPlot p x).sched = s.sched := rfl
@[simp] theorem State.setPlot_due (s : State) (p : Nat) (x : Plot) : (s.setPlot p x).due = s.due := rfl

/-! ### State.setEstate -/

@[simp] theorem State.setEstate_tick (s : State) (e : Nat) (x : Estate) : (s.setEstate e x).tick = s.tick := rfl
@[simp] theorem State.setEstate_devns (s : State) (e : Nat) (x : Estate) : (s.setEstate e x).devns = s.devns := rfl
@[simp] theorem State.setEstate_mem (s : State) (e : Nat) (x : Estate) : (s.setEstate e x).mem = s.mem := rfl
@[simp] theorem State.setEstate_full (s : State) (e : Nat) (x : Estate) : (s.setEstate e x).full = s.full := rfl
@[simp] theorem State.setEstate_ue (s : State) (e : Nat) (x : Estate) : (s.setEstate e x).ue = s.ue := rfl
@[simp] theorem State.setEstate_enc (s : State) (e : Nat) (x : Estate) : (s.setEstate e x).enc = s.enc := rfl
@[simp] theorem State.setEstate_lineSeq (s : State) (e : Nat) (x : Estate) : (s.setEstate e x).lineSeq = s.lineSeq := rfl
@[simp] theorem State.setEstate_dies (s : State) (e : Nat) (x : Estate) : (s.setEstate e x).dies = s.dies := rfl
@[simp] theorem State.setEstate_tlb (s : State) (e : Nat) (x : Estate) : (s.setEstate e x).tlb = s.tlb := rfl
@[simp] theorem State.setEstate_reads (s : State) (e : Nat) (x : Estate) : (s.setEstate e x).reads = s.reads := rfl
@[simp] theorem State.setEstate_cores (s : State) (e : Nat) (x : Estate) : (s.setEstate e x).cores = s.cores := rfl
@[simp] theorem State.setEstate_ctxs (s : State) (e : Nat) (x : Estate) : (s.setEstate e x).ctxs = s.ctxs := rfl
@[simp] theorem State.setEstate_groups (s : State) (e : Nat) (x : Estate) : (s.setEstate e x).groups = s.groups := rfl
@[simp] theorem State.setEstate_nextGroup (s : State) (e : Nat) (x : Estate) : (s.setEstate e x).nextGroup = s.nextGroup := rfl
@[simp] theorem State.setEstate_runq (s : State) (e : Nat) (x : Estate) : (s.setEstate e x).runq = s.runq := rfl
@[simp] theorem State.setEstate_restore (s : State) (e : Nat) (x : Estate) : (s.setEstate e x).restore = s.restore := rfl
@[simp] theorem State.setEstate_gangs (s : State) (e : Nat) (x : Estate) : (s.setEstate e x).gangs = s.gangs := rfl
@[simp] theorem State.setEstate_purses (s : State) (e : Nat) (x : Estate) : (s.setEstate e x).purses = s.purses := rfl
@[simp] theorem State.setEstate_purseNs (s : State) (e : Nat) (x : Estate) : (s.setEstate e x).purseNs = s.purseNs := rfl
@[simp] theorem State.setEstate_engines (s : State) (e : Nat) (x : Estate) : (s.setEstate e x).engines = s.engines := rfl
@[simp] theorem State.setEstate_nextEngine (s : State) (e : Nat) (x : Estate) : (s.setEstate e x).nextEngine = s.nextEngine := rfl
@[simp] theorem State.setEstate_launches (s : State) (e : Nat) (x : Estate) : (s.setEstate e x).launches = s.launches := rfl
@[simp] theorem State.setEstate_nextLaunch (s : State) (e : Nat) (x : Estate) : (s.setEstate e x).nextLaunch = s.nextLaunch := rfl
@[simp] theorem State.setEstate_plots (s : State) (e : Nat) (x : Estate) : (s.setEstate e x).plots = s.plots := rfl
@[simp] theorem State.setEstate_estates (s : State) (e : Nat) (x : Estate) : (s.setEstate e x).estates = s.estates.set e x := rfl
@[simp] theorem State.setEstate_ownerPage (s : State) (e : Nat) (x : Estate) : (s.setEstate e x).ownerPage = s.ownerPage := rfl
@[simp] theorem State.setEstate_cmds (s : State) (e : Nat) (x : Estate) : (s.setEstate e x).cmds = s.cmds := rfl
@[simp] theorem State.setEstate_ownerLog (s : State) (e : Nat) (x : Estate) : (s.setEstate e x).ownerLog = s.ownerLog := rfl
@[simp] theorem State.setEstate_ownerMsix (s : State) (e : Nat) (x : Estate) : (s.setEstate e x).ownerMsix = s.ownerMsix := rfl
@[simp] theorem State.setEstate_pairings (s : State) (e : Nat) (x : Estate) : (s.setEstate e x).pairings = s.pairings := rfl
@[simp] theorem State.setEstate_landed (s : State) (e : Nat) (x : Estate) : (s.setEstate e x).landed = s.landed := rfl
@[simp] theorem State.setEstate_nextSeq (s : State) (e : Nat) (x : Estate) : (s.setEstate e x).nextSeq = s.nextSeq := rfl
@[simp] theorem State.setEstate_fabric (s : State) (e : Nat) (x : Estate) : (s.setEstate e x).fabric = s.fabric := rfl
@[simp] theorem State.setEstate_refusedReplies (s : State) (e : Nat) (x : Estate) : (s.setEstate e x).refusedReplies = s.refusedReplies := rfl
@[simp] theorem State.setEstate_purseReg (s : State) (e : Nat) (x : Estate) : (s.setEstate e x).purseReg = s.purseReg := rfl
@[simp] theorem State.setEstate_spinReg (s : State) (e : Nat) (x : Estate) : (s.setEstate e x).spinReg = s.spinReg := rfl
@[simp] theorem State.setEstate_shareReg (s : State) (e : Nat) (x : Estate) : (s.setEstate e x).shareReg = s.shareReg := rfl
@[simp] theorem State.setEstate_agePeriod (s : State) (e : Nat) (x : Estate) : (s.setEstate e x).agePeriod = s.agePeriod := rfl
@[simp] theorem State.setEstate_winBase (s : State) (e : Nat) (x : Estate) : (s.setEstate e x).winBase = s.winBase := rfl
@[simp] theorem State.setEstate_keys (s : State) (e : Nat) (x : Estate) : (s.setEstate e x).keys = s.keys := rfl
@[simp] theorem State.setEstate_jobs (s : State) (e : Nat) (x : Estate) : (s.setEstate e x).jobs = s.jobs := rfl
@[simp] theorem State.setEstate_scrubPos (s : State) (e : Nat) (x : Estate) : (s.setEstate e x).scrubPos = s.scrubPos := rfl
@[simp] theorem State.setEstate_quarantine (s : State) (e : Nat) (x : Estate) : (s.setEstate e x).quarantine = s.quarantine := rfl
@[simp] theorem State.setEstate_unsettled (s : State) (e : Nat) (x : Estate) : (s.setEstate e x).unsettled = s.unsettled := rfl
@[simp] theorem State.setEstate_wfail (s : State) (e : Nat) (x : Estate) : (s.setEstate e x).wfail = s.wfail := rfl
@[simp] theorem State.setEstate_lastStart (s : State) (e : Nat) (x : Estate) : (s.setEstate e x).lastStart = s.lastStart := rfl
@[simp] theorem State.setEstate_failStep (s : State) (e : Nat) (x : Estate) : (s.setEstate e x).failStep = s.failStep := rfl
@[simp] theorem State.setEstate_starts (s : State) (e : Nat) (x : Estate) : (s.setEstate e x).starts = s.starts := rfl
@[simp] theorem State.setEstate_onFabric (s : State) (e : Nat) (x : Estate) : (s.setEstate e x).onFabric = s.onFabric := rfl
@[simp] theorem State.setEstate_patCount (s : State) (e : Nat) (x : Estate) : (s.setEstate e x).patCount = s.patCount := rfl
@[simp] theorem State.setEstate_patSpace (s : State) (e : Nat) (x : Estate) : (s.setEstate e x).patSpace = s.patSpace := rfl
@[simp] theorem State.setEstate_patAddr (s : State) (e : Nat) (x : Estate) : (s.setEstate e x).patAddr = s.patAddr := rfl
@[simp] theorem State.setEstate_vfEnable (s : State) (e : Nat) (x : Estate) : (s.setEstate e x).vfEnable = s.vfEnable := rfl
@[simp] theorem State.setEstate_vfOffAt (s : State) (e : Nat) (x : Estate) : (s.setEstate e x).vfOffAt = s.vfOffAt := rfl
@[simp] theorem State.setEstate_hostMsgs (s : State) (e : Nat) (x : Estate) : (s.setEstate e x).hostMsgs = s.hostMsgs := rfl
@[simp] theorem State.setEstate_hostData (s : State) (e : Nat) (x : Estate) : (s.setEstate e x).hostData = s.hostData := rfl
@[simp] theorem State.setEstate_free (s : State) (e : Nat) (x : Estate) : (s.setEstate e x).free = s.free := rfl
@[simp] theorem State.setEstate_iss (s : State) (e : Nat) (x : Estate) : (s.setEstate e x).iss = s.iss := rfl
@[simp] theorem State.setEstate_micro (s : State) (e : Nat) (x : Estate) : (s.setEstate e x).micro = s.micro := rfl
@[simp] theorem State.setEstate_sched (s : State) (e : Nat) (x : Estate) : (s.setEstate e x).sched = s.sched := rfl
@[simp] theorem State.setEstate_due (s : State) (e : Nat) (x : Estate) : (s.setEstate e x).due = s.due := rfl

/-! ### State.setCore -/

@[simp] theorem State.setCore_tick (s : State) (k : Nat) (x : Core) : (s.setCore k x).tick = s.tick := rfl
@[simp] theorem State.setCore_devns (s : State) (k : Nat) (x : Core) : (s.setCore k x).devns = s.devns := rfl
@[simp] theorem State.setCore_mem (s : State) (k : Nat) (x : Core) : (s.setCore k x).mem = s.mem := rfl
@[simp] theorem State.setCore_full (s : State) (k : Nat) (x : Core) : (s.setCore k x).full = s.full := rfl
@[simp] theorem State.setCore_ue (s : State) (k : Nat) (x : Core) : (s.setCore k x).ue = s.ue := rfl
@[simp] theorem State.setCore_enc (s : State) (k : Nat) (x : Core) : (s.setCore k x).enc = s.enc := rfl
@[simp] theorem State.setCore_lineSeq (s : State) (k : Nat) (x : Core) : (s.setCore k x).lineSeq = s.lineSeq := rfl
@[simp] theorem State.setCore_dies (s : State) (k : Nat) (x : Core) : (s.setCore k x).dies = s.dies := rfl
@[simp] theorem State.setCore_tlb (s : State) (k : Nat) (x : Core) : (s.setCore k x).tlb = s.tlb := rfl
@[simp] theorem State.setCore_reads (s : State) (k : Nat) (x : Core) : (s.setCore k x).reads = s.reads := rfl
@[simp] theorem State.setCore_cores (s : State) (k : Nat) (x : Core) : (s.setCore k x).cores = s.cores.set k x := rfl
@[simp] theorem State.setCore_ctxs (s : State) (k : Nat) (x : Core) : (s.setCore k x).ctxs = s.ctxs := rfl
@[simp] theorem State.setCore_groups (s : State) (k : Nat) (x : Core) : (s.setCore k x).groups = s.groups := rfl
@[simp] theorem State.setCore_nextGroup (s : State) (k : Nat) (x : Core) : (s.setCore k x).nextGroup = s.nextGroup := rfl
@[simp] theorem State.setCore_runq (s : State) (k : Nat) (x : Core) : (s.setCore k x).runq = s.runq := rfl
@[simp] theorem State.setCore_restore (s : State) (k : Nat) (x : Core) : (s.setCore k x).restore = s.restore := rfl
@[simp] theorem State.setCore_gangs (s : State) (k : Nat) (x : Core) : (s.setCore k x).gangs = s.gangs := rfl
@[simp] theorem State.setCore_purses (s : State) (k : Nat) (x : Core) : (s.setCore k x).purses = s.purses := rfl
@[simp] theorem State.setCore_purseNs (s : State) (k : Nat) (x : Core) : (s.setCore k x).purseNs = s.purseNs := rfl
@[simp] theorem State.setCore_engines (s : State) (k : Nat) (x : Core) : (s.setCore k x).engines = s.engines := rfl
@[simp] theorem State.setCore_nextEngine (s : State) (k : Nat) (x : Core) : (s.setCore k x).nextEngine = s.nextEngine := rfl
@[simp] theorem State.setCore_launches (s : State) (k : Nat) (x : Core) : (s.setCore k x).launches = s.launches := rfl
@[simp] theorem State.setCore_nextLaunch (s : State) (k : Nat) (x : Core) : (s.setCore k x).nextLaunch = s.nextLaunch := rfl
@[simp] theorem State.setCore_plots (s : State) (k : Nat) (x : Core) : (s.setCore k x).plots = s.plots := rfl
@[simp] theorem State.setCore_estates (s : State) (k : Nat) (x : Core) : (s.setCore k x).estates = s.estates := rfl
@[simp] theorem State.setCore_ownerPage (s : State) (k : Nat) (x : Core) : (s.setCore k x).ownerPage = s.ownerPage := rfl
@[simp] theorem State.setCore_cmds (s : State) (k : Nat) (x : Core) : (s.setCore k x).cmds = s.cmds := rfl
@[simp] theorem State.setCore_ownerLog (s : State) (k : Nat) (x : Core) : (s.setCore k x).ownerLog = s.ownerLog := rfl
@[simp] theorem State.setCore_ownerMsix (s : State) (k : Nat) (x : Core) : (s.setCore k x).ownerMsix = s.ownerMsix := rfl
@[simp] theorem State.setCore_pairings (s : State) (k : Nat) (x : Core) : (s.setCore k x).pairings = s.pairings := rfl
@[simp] theorem State.setCore_landed (s : State) (k : Nat) (x : Core) : (s.setCore k x).landed = s.landed := rfl
@[simp] theorem State.setCore_nextSeq (s : State) (k : Nat) (x : Core) : (s.setCore k x).nextSeq = s.nextSeq := rfl
@[simp] theorem State.setCore_fabric (s : State) (k : Nat) (x : Core) : (s.setCore k x).fabric = s.fabric := rfl
@[simp] theorem State.setCore_refusedReplies (s : State) (k : Nat) (x : Core) : (s.setCore k x).refusedReplies = s.refusedReplies := rfl
@[simp] theorem State.setCore_purseReg (s : State) (k : Nat) (x : Core) : (s.setCore k x).purseReg = s.purseReg := rfl
@[simp] theorem State.setCore_spinReg (s : State) (k : Nat) (x : Core) : (s.setCore k x).spinReg = s.spinReg := rfl
@[simp] theorem State.setCore_shareReg (s : State) (k : Nat) (x : Core) : (s.setCore k x).shareReg = s.shareReg := rfl
@[simp] theorem State.setCore_agePeriod (s : State) (k : Nat) (x : Core) : (s.setCore k x).agePeriod = s.agePeriod := rfl
@[simp] theorem State.setCore_winBase (s : State) (k : Nat) (x : Core) : (s.setCore k x).winBase = s.winBase := rfl
@[simp] theorem State.setCore_keys (s : State) (k : Nat) (x : Core) : (s.setCore k x).keys = s.keys := rfl
@[simp] theorem State.setCore_jobs (s : State) (k : Nat) (x : Core) : (s.setCore k x).jobs = s.jobs := rfl
@[simp] theorem State.setCore_scrubPos (s : State) (k : Nat) (x : Core) : (s.setCore k x).scrubPos = s.scrubPos := rfl
@[simp] theorem State.setCore_quarantine (s : State) (k : Nat) (x : Core) : (s.setCore k x).quarantine = s.quarantine := rfl
@[simp] theorem State.setCore_unsettled (s : State) (k : Nat) (x : Core) : (s.setCore k x).unsettled = s.unsettled := rfl
@[simp] theorem State.setCore_wfail (s : State) (k : Nat) (x : Core) : (s.setCore k x).wfail = s.wfail := rfl
@[simp] theorem State.setCore_lastStart (s : State) (k : Nat) (x : Core) : (s.setCore k x).lastStart = s.lastStart := rfl
@[simp] theorem State.setCore_failStep (s : State) (k : Nat) (x : Core) : (s.setCore k x).failStep = s.failStep := rfl
@[simp] theorem State.setCore_starts (s : State) (k : Nat) (x : Core) : (s.setCore k x).starts = s.starts := rfl
@[simp] theorem State.setCore_onFabric (s : State) (k : Nat) (x : Core) : (s.setCore k x).onFabric = s.onFabric := rfl
@[simp] theorem State.setCore_patCount (s : State) (k : Nat) (x : Core) : (s.setCore k x).patCount = s.patCount := rfl
@[simp] theorem State.setCore_patSpace (s : State) (k : Nat) (x : Core) : (s.setCore k x).patSpace = s.patSpace := rfl
@[simp] theorem State.setCore_patAddr (s : State) (k : Nat) (x : Core) : (s.setCore k x).patAddr = s.patAddr := rfl
@[simp] theorem State.setCore_vfEnable (s : State) (k : Nat) (x : Core) : (s.setCore k x).vfEnable = s.vfEnable := rfl
@[simp] theorem State.setCore_vfOffAt (s : State) (k : Nat) (x : Core) : (s.setCore k x).vfOffAt = s.vfOffAt := rfl
@[simp] theorem State.setCore_hostMsgs (s : State) (k : Nat) (x : Core) : (s.setCore k x).hostMsgs = s.hostMsgs := rfl
@[simp] theorem State.setCore_hostData (s : State) (k : Nat) (x : Core) : (s.setCore k x).hostData = s.hostData := rfl
@[simp] theorem State.setCore_free (s : State) (k : Nat) (x : Core) : (s.setCore k x).free = s.free := rfl
@[simp] theorem State.setCore_iss (s : State) (k : Nat) (x : Core) : (s.setCore k x).iss = s.iss := rfl
@[simp] theorem State.setCore_micro (s : State) (k : Nat) (x : Core) : (s.setCore k x).micro = s.micro := rfl
@[simp] theorem State.setCore_sched (s : State) (k : Nat) (x : Core) : (s.setCore k x).sched = s.sched := rfl
@[simp] theorem State.setCore_due (s : State) (k : Nat) (x : Core) : (s.setCore k x).due = s.due := rfl

/-! ### State.setDie -/

@[simp] theorem State.setDie_tick (s : State) (d : Nat) (x : Die) : (s.setDie d x).tick = s.tick := rfl
@[simp] theorem State.setDie_devns (s : State) (d : Nat) (x : Die) : (s.setDie d x).devns = s.devns := rfl
@[simp] theorem State.setDie_mem (s : State) (d : Nat) (x : Die) : (s.setDie d x).mem = s.mem := rfl
@[simp] theorem State.setDie_full (s : State) (d : Nat) (x : Die) : (s.setDie d x).full = s.full := rfl
@[simp] theorem State.setDie_ue (s : State) (d : Nat) (x : Die) : (s.setDie d x).ue = s.ue := rfl
@[simp] theorem State.setDie_enc (s : State) (d : Nat) (x : Die) : (s.setDie d x).enc = s.enc := rfl
@[simp] theorem State.setDie_lineSeq (s : State) (d : Nat) (x : Die) : (s.setDie d x).lineSeq = s.lineSeq := rfl
@[simp] theorem State.setDie_dies (s : State) (d : Nat) (x : Die) : (s.setDie d x).dies = s.dies.setIfInBounds d x := rfl
@[simp] theorem State.setDie_tlb (s : State) (d : Nat) (x : Die) : (s.setDie d x).tlb = s.tlb := rfl
@[simp] theorem State.setDie_reads (s : State) (d : Nat) (x : Die) : (s.setDie d x).reads = s.reads := rfl
@[simp] theorem State.setDie_cores (s : State) (d : Nat) (x : Die) : (s.setDie d x).cores = s.cores := rfl
@[simp] theorem State.setDie_ctxs (s : State) (d : Nat) (x : Die) : (s.setDie d x).ctxs = s.ctxs := rfl
@[simp] theorem State.setDie_groups (s : State) (d : Nat) (x : Die) : (s.setDie d x).groups = s.groups := rfl
@[simp] theorem State.setDie_nextGroup (s : State) (d : Nat) (x : Die) : (s.setDie d x).nextGroup = s.nextGroup := rfl
@[simp] theorem State.setDie_runq (s : State) (d : Nat) (x : Die) : (s.setDie d x).runq = s.runq := rfl
@[simp] theorem State.setDie_restore (s : State) (d : Nat) (x : Die) : (s.setDie d x).restore = s.restore := rfl
@[simp] theorem State.setDie_gangs (s : State) (d : Nat) (x : Die) : (s.setDie d x).gangs = s.gangs := rfl
@[simp] theorem State.setDie_purses (s : State) (d : Nat) (x : Die) : (s.setDie d x).purses = s.purses := rfl
@[simp] theorem State.setDie_purseNs (s : State) (d : Nat) (x : Die) : (s.setDie d x).purseNs = s.purseNs := rfl
@[simp] theorem State.setDie_engines (s : State) (d : Nat) (x : Die) : (s.setDie d x).engines = s.engines := rfl
@[simp] theorem State.setDie_nextEngine (s : State) (d : Nat) (x : Die) : (s.setDie d x).nextEngine = s.nextEngine := rfl
@[simp] theorem State.setDie_launches (s : State) (d : Nat) (x : Die) : (s.setDie d x).launches = s.launches := rfl
@[simp] theorem State.setDie_nextLaunch (s : State) (d : Nat) (x : Die) : (s.setDie d x).nextLaunch = s.nextLaunch := rfl
@[simp] theorem State.setDie_plots (s : State) (d : Nat) (x : Die) : (s.setDie d x).plots = s.plots := rfl
@[simp] theorem State.setDie_estates (s : State) (d : Nat) (x : Die) : (s.setDie d x).estates = s.estates := rfl
@[simp] theorem State.setDie_ownerPage (s : State) (d : Nat) (x : Die) : (s.setDie d x).ownerPage = s.ownerPage := rfl
@[simp] theorem State.setDie_cmds (s : State) (d : Nat) (x : Die) : (s.setDie d x).cmds = s.cmds := rfl
@[simp] theorem State.setDie_ownerLog (s : State) (d : Nat) (x : Die) : (s.setDie d x).ownerLog = s.ownerLog := rfl
@[simp] theorem State.setDie_ownerMsix (s : State) (d : Nat) (x : Die) : (s.setDie d x).ownerMsix = s.ownerMsix := rfl
@[simp] theorem State.setDie_pairings (s : State) (d : Nat) (x : Die) : (s.setDie d x).pairings = s.pairings := rfl
@[simp] theorem State.setDie_landed (s : State) (d : Nat) (x : Die) : (s.setDie d x).landed = s.landed := rfl
@[simp] theorem State.setDie_nextSeq (s : State) (d : Nat) (x : Die) : (s.setDie d x).nextSeq = s.nextSeq := rfl
@[simp] theorem State.setDie_fabric (s : State) (d : Nat) (x : Die) : (s.setDie d x).fabric = s.fabric := rfl
@[simp] theorem State.setDie_refusedReplies (s : State) (d : Nat) (x : Die) : (s.setDie d x).refusedReplies = s.refusedReplies := rfl
@[simp] theorem State.setDie_purseReg (s : State) (d : Nat) (x : Die) : (s.setDie d x).purseReg = s.purseReg := rfl
@[simp] theorem State.setDie_spinReg (s : State) (d : Nat) (x : Die) : (s.setDie d x).spinReg = s.spinReg := rfl
@[simp] theorem State.setDie_shareReg (s : State) (d : Nat) (x : Die) : (s.setDie d x).shareReg = s.shareReg := rfl
@[simp] theorem State.setDie_agePeriod (s : State) (d : Nat) (x : Die) : (s.setDie d x).agePeriod = s.agePeriod := rfl
@[simp] theorem State.setDie_winBase (s : State) (d : Nat) (x : Die) : (s.setDie d x).winBase = s.winBase := rfl
@[simp] theorem State.setDie_keys (s : State) (d : Nat) (x : Die) : (s.setDie d x).keys = s.keys := rfl
@[simp] theorem State.setDie_jobs (s : State) (d : Nat) (x : Die) : (s.setDie d x).jobs = s.jobs := rfl
@[simp] theorem State.setDie_scrubPos (s : State) (d : Nat) (x : Die) : (s.setDie d x).scrubPos = s.scrubPos := rfl
@[simp] theorem State.setDie_quarantine (s : State) (d : Nat) (x : Die) : (s.setDie d x).quarantine = s.quarantine := rfl
@[simp] theorem State.setDie_unsettled (s : State) (d : Nat) (x : Die) : (s.setDie d x).unsettled = s.unsettled := rfl
@[simp] theorem State.setDie_wfail (s : State) (d : Nat) (x : Die) : (s.setDie d x).wfail = s.wfail := rfl
@[simp] theorem State.setDie_lastStart (s : State) (d : Nat) (x : Die) : (s.setDie d x).lastStart = s.lastStart := rfl
@[simp] theorem State.setDie_failStep (s : State) (d : Nat) (x : Die) : (s.setDie d x).failStep = s.failStep := rfl
@[simp] theorem State.setDie_starts (s : State) (d : Nat) (x : Die) : (s.setDie d x).starts = s.starts := rfl
@[simp] theorem State.setDie_onFabric (s : State) (d : Nat) (x : Die) : (s.setDie d x).onFabric = s.onFabric := rfl
@[simp] theorem State.setDie_patCount (s : State) (d : Nat) (x : Die) : (s.setDie d x).patCount = s.patCount := rfl
@[simp] theorem State.setDie_patSpace (s : State) (d : Nat) (x : Die) : (s.setDie d x).patSpace = s.patSpace := rfl
@[simp] theorem State.setDie_patAddr (s : State) (d : Nat) (x : Die) : (s.setDie d x).patAddr = s.patAddr := rfl
@[simp] theorem State.setDie_vfEnable (s : State) (d : Nat) (x : Die) : (s.setDie d x).vfEnable = s.vfEnable := rfl
@[simp] theorem State.setDie_vfOffAt (s : State) (d : Nat) (x : Die) : (s.setDie d x).vfOffAt = s.vfOffAt := rfl
@[simp] theorem State.setDie_hostMsgs (s : State) (d : Nat) (x : Die) : (s.setDie d x).hostMsgs = s.hostMsgs := rfl
@[simp] theorem State.setDie_hostData (s : State) (d : Nat) (x : Die) : (s.setDie d x).hostData = s.hostData := rfl
@[simp] theorem State.setDie_free (s : State) (d : Nat) (x : Die) : (s.setDie d x).free = s.free := rfl
@[simp] theorem State.setDie_iss (s : State) (d : Nat) (x : Die) : (s.setDie d x).iss = s.iss := rfl
@[simp] theorem State.setDie_micro (s : State) (d : Nat) (x : Die) : (s.setDie d x).micro = s.micro := rfl
@[simp] theorem State.setDie_sched (s : State) (d : Nat) (x : Die) : (s.setDie d x).sched = s.sched := rfl
@[simp] theorem State.setDie_due (s : State) (d : Nat) (x : Die) : (s.setDie d x).due = s.due := rfl

/-! ### State.setGroup -/

@[simp] theorem State.setGroup_tick (s : State) (g : Nat) (x : Group) : (s.setGroup g x).tick = s.tick := rfl
@[simp] theorem State.setGroup_devns (s : State) (g : Nat) (x : Group) : (s.setGroup g x).devns = s.devns := rfl
@[simp] theorem State.setGroup_mem (s : State) (g : Nat) (x : Group) : (s.setGroup g x).mem = s.mem := rfl
@[simp] theorem State.setGroup_full (s : State) (g : Nat) (x : Group) : (s.setGroup g x).full = s.full := rfl
@[simp] theorem State.setGroup_ue (s : State) (g : Nat) (x : Group) : (s.setGroup g x).ue = s.ue := rfl
@[simp] theorem State.setGroup_enc (s : State) (g : Nat) (x : Group) : (s.setGroup g x).enc = s.enc := rfl
@[simp] theorem State.setGroup_lineSeq (s : State) (g : Nat) (x : Group) : (s.setGroup g x).lineSeq = s.lineSeq := rfl
@[simp] theorem State.setGroup_dies (s : State) (g : Nat) (x : Group) : (s.setGroup g x).dies = s.dies := rfl
@[simp] theorem State.setGroup_tlb (s : State) (g : Nat) (x : Group) : (s.setGroup g x).tlb = s.tlb := rfl
@[simp] theorem State.setGroup_reads (s : State) (g : Nat) (x : Group) : (s.setGroup g x).reads = s.reads := rfl
@[simp] theorem State.setGroup_cores (s : State) (g : Nat) (x : Group) : (s.setGroup g x).cores = s.cores := rfl
@[simp] theorem State.setGroup_ctxs (s : State) (g : Nat) (x : Group) : (s.setGroup g x).ctxs = s.ctxs := rfl
@[simp] theorem State.setGroup_groups (s : State) (g : Nat) (x : Group) : (s.setGroup g x).groups = s.groups.set g x := rfl
@[simp] theorem State.setGroup_nextGroup (s : State) (g : Nat) (x : Group) : (s.setGroup g x).nextGroup = s.nextGroup := rfl
@[simp] theorem State.setGroup_runq (s : State) (g : Nat) (x : Group) : (s.setGroup g x).runq = s.runq := rfl
@[simp] theorem State.setGroup_restore (s : State) (g : Nat) (x : Group) : (s.setGroup g x).restore = s.restore := rfl
@[simp] theorem State.setGroup_gangs (s : State) (g : Nat) (x : Group) : (s.setGroup g x).gangs = s.gangs := rfl
@[simp] theorem State.setGroup_purses (s : State) (g : Nat) (x : Group) : (s.setGroup g x).purses = s.purses := rfl
@[simp] theorem State.setGroup_purseNs (s : State) (g : Nat) (x : Group) : (s.setGroup g x).purseNs = s.purseNs := rfl
@[simp] theorem State.setGroup_engines (s : State) (g : Nat) (x : Group) : (s.setGroup g x).engines = s.engines := rfl
@[simp] theorem State.setGroup_nextEngine (s : State) (g : Nat) (x : Group) : (s.setGroup g x).nextEngine = s.nextEngine := rfl
@[simp] theorem State.setGroup_launches (s : State) (g : Nat) (x : Group) : (s.setGroup g x).launches = s.launches := rfl
@[simp] theorem State.setGroup_nextLaunch (s : State) (g : Nat) (x : Group) : (s.setGroup g x).nextLaunch = s.nextLaunch := rfl
@[simp] theorem State.setGroup_plots (s : State) (g : Nat) (x : Group) : (s.setGroup g x).plots = s.plots := rfl
@[simp] theorem State.setGroup_estates (s : State) (g : Nat) (x : Group) : (s.setGroup g x).estates = s.estates := rfl
@[simp] theorem State.setGroup_ownerPage (s : State) (g : Nat) (x : Group) : (s.setGroup g x).ownerPage = s.ownerPage := rfl
@[simp] theorem State.setGroup_cmds (s : State) (g : Nat) (x : Group) : (s.setGroup g x).cmds = s.cmds := rfl
@[simp] theorem State.setGroup_ownerLog (s : State) (g : Nat) (x : Group) : (s.setGroup g x).ownerLog = s.ownerLog := rfl
@[simp] theorem State.setGroup_ownerMsix (s : State) (g : Nat) (x : Group) : (s.setGroup g x).ownerMsix = s.ownerMsix := rfl
@[simp] theorem State.setGroup_pairings (s : State) (g : Nat) (x : Group) : (s.setGroup g x).pairings = s.pairings := rfl
@[simp] theorem State.setGroup_landed (s : State) (g : Nat) (x : Group) : (s.setGroup g x).landed = s.landed := rfl
@[simp] theorem State.setGroup_nextSeq (s : State) (g : Nat) (x : Group) : (s.setGroup g x).nextSeq = s.nextSeq := rfl
@[simp] theorem State.setGroup_fabric (s : State) (g : Nat) (x : Group) : (s.setGroup g x).fabric = s.fabric := rfl
@[simp] theorem State.setGroup_refusedReplies (s : State) (g : Nat) (x : Group) : (s.setGroup g x).refusedReplies = s.refusedReplies := rfl
@[simp] theorem State.setGroup_purseReg (s : State) (g : Nat) (x : Group) : (s.setGroup g x).purseReg = s.purseReg := rfl
@[simp] theorem State.setGroup_spinReg (s : State) (g : Nat) (x : Group) : (s.setGroup g x).spinReg = s.spinReg := rfl
@[simp] theorem State.setGroup_shareReg (s : State) (g : Nat) (x : Group) : (s.setGroup g x).shareReg = s.shareReg := rfl
@[simp] theorem State.setGroup_agePeriod (s : State) (g : Nat) (x : Group) : (s.setGroup g x).agePeriod = s.agePeriod := rfl
@[simp] theorem State.setGroup_winBase (s : State) (g : Nat) (x : Group) : (s.setGroup g x).winBase = s.winBase := rfl
@[simp] theorem State.setGroup_keys (s : State) (g : Nat) (x : Group) : (s.setGroup g x).keys = s.keys := rfl
@[simp] theorem State.setGroup_jobs (s : State) (g : Nat) (x : Group) : (s.setGroup g x).jobs = s.jobs := rfl
@[simp] theorem State.setGroup_scrubPos (s : State) (g : Nat) (x : Group) : (s.setGroup g x).scrubPos = s.scrubPos := rfl
@[simp] theorem State.setGroup_quarantine (s : State) (g : Nat) (x : Group) : (s.setGroup g x).quarantine = s.quarantine := rfl
@[simp] theorem State.setGroup_unsettled (s : State) (g : Nat) (x : Group) : (s.setGroup g x).unsettled = s.unsettled := rfl
@[simp] theorem State.setGroup_wfail (s : State) (g : Nat) (x : Group) : (s.setGroup g x).wfail = s.wfail := rfl
@[simp] theorem State.setGroup_lastStart (s : State) (g : Nat) (x : Group) : (s.setGroup g x).lastStart = s.lastStart := rfl
@[simp] theorem State.setGroup_failStep (s : State) (g : Nat) (x : Group) : (s.setGroup g x).failStep = s.failStep := rfl
@[simp] theorem State.setGroup_starts (s : State) (g : Nat) (x : Group) : (s.setGroup g x).starts = s.starts := rfl
@[simp] theorem State.setGroup_onFabric (s : State) (g : Nat) (x : Group) : (s.setGroup g x).onFabric = s.onFabric := rfl
@[simp] theorem State.setGroup_patCount (s : State) (g : Nat) (x : Group) : (s.setGroup g x).patCount = s.patCount := rfl
@[simp] theorem State.setGroup_patSpace (s : State) (g : Nat) (x : Group) : (s.setGroup g x).patSpace = s.patSpace := rfl
@[simp] theorem State.setGroup_patAddr (s : State) (g : Nat) (x : Group) : (s.setGroup g x).patAddr = s.patAddr := rfl
@[simp] theorem State.setGroup_vfEnable (s : State) (g : Nat) (x : Group) : (s.setGroup g x).vfEnable = s.vfEnable := rfl
@[simp] theorem State.setGroup_vfOffAt (s : State) (g : Nat) (x : Group) : (s.setGroup g x).vfOffAt = s.vfOffAt := rfl
@[simp] theorem State.setGroup_hostMsgs (s : State) (g : Nat) (x : Group) : (s.setGroup g x).hostMsgs = s.hostMsgs := rfl
@[simp] theorem State.setGroup_hostData (s : State) (g : Nat) (x : Group) : (s.setGroup g x).hostData = s.hostData := rfl
@[simp] theorem State.setGroup_free (s : State) (g : Nat) (x : Group) : (s.setGroup g x).free = s.free := rfl
@[simp] theorem State.setGroup_iss (s : State) (g : Nat) (x : Group) : (s.setGroup g x).iss = s.iss := rfl
@[simp] theorem State.setGroup_micro (s : State) (g : Nat) (x : Group) : (s.setGroup g x).micro = s.micro := rfl
@[simp] theorem State.setGroup_sched (s : State) (g : Nat) (x : Group) : (s.setGroup g x).sched = s.sched := rfl
@[simp] theorem State.setGroup_due (s : State) (g : Nat) (x : Group) : (s.setGroup g x).due = s.due := rfl

/-! ### State.setGranules -/

@[simp] theorem State.setGranules_tick (s : State) (k a n : Nat) (v : Bool) : (s.setGranules k a n v).tick = s.tick := rfl
@[simp] theorem State.setGranules_devns (s : State) (k a n : Nat) (v : Bool) : (s.setGranules k a n v).devns = s.devns := rfl
@[simp] theorem State.setGranules_mem (s : State) (k a n : Nat) (v : Bool) : (s.setGranules k a n v).mem = s.mem := rfl
@[simp] theorem State.setGranules_full (s : State) (k a n : Nat) (v : Bool) : (s.setGranules k a n v).full = setFull s.full (spadBase k + a / 16 * 16) n v := rfl
@[simp] theorem State.setGranules_ue (s : State) (k a n : Nat) (v : Bool) : (s.setGranules k a n v).ue = s.ue := rfl
@[simp] theorem State.setGranules_enc (s : State) (k a n : Nat) (v : Bool) : (s.setGranules k a n v).enc = s.enc := rfl
@[simp] theorem State.setGranules_lineSeq (s : State) (k a n : Nat) (v : Bool) : (s.setGranules k a n v).lineSeq = s.lineSeq := rfl
@[simp] theorem State.setGranules_dies (s : State) (k a n : Nat) (v : Bool) : (s.setGranules k a n v).dies = s.dies := rfl
@[simp] theorem State.setGranules_tlb (s : State) (k a n : Nat) (v : Bool) : (s.setGranules k a n v).tlb = s.tlb := rfl
@[simp] theorem State.setGranules_reads (s : State) (k a n : Nat) (v : Bool) : (s.setGranules k a n v).reads = s.reads := rfl
@[simp] theorem State.setGranules_cores (s : State) (k a n : Nat) (v : Bool) : (s.setGranules k a n v).cores = s.cores := rfl
@[simp] theorem State.setGranules_ctxs (s : State) (k a n : Nat) (v : Bool) : (s.setGranules k a n v).ctxs = s.ctxs := rfl
@[simp] theorem State.setGranules_groups (s : State) (k a n : Nat) (v : Bool) : (s.setGranules k a n v).groups = s.groups := rfl
@[simp] theorem State.setGranules_nextGroup (s : State) (k a n : Nat) (v : Bool) : (s.setGranules k a n v).nextGroup = s.nextGroup := rfl
@[simp] theorem State.setGranules_runq (s : State) (k a n : Nat) (v : Bool) : (s.setGranules k a n v).runq = s.runq := rfl
@[simp] theorem State.setGranules_restore (s : State) (k a n : Nat) (v : Bool) : (s.setGranules k a n v).restore = s.restore := rfl
@[simp] theorem State.setGranules_gangs (s : State) (k a n : Nat) (v : Bool) : (s.setGranules k a n v).gangs = s.gangs := rfl
@[simp] theorem State.setGranules_purses (s : State) (k a n : Nat) (v : Bool) : (s.setGranules k a n v).purses = s.purses := rfl
@[simp] theorem State.setGranules_purseNs (s : State) (k a n : Nat) (v : Bool) : (s.setGranules k a n v).purseNs = s.purseNs := rfl
@[simp] theorem State.setGranules_engines (s : State) (k a n : Nat) (v : Bool) : (s.setGranules k a n v).engines = s.engines := rfl
@[simp] theorem State.setGranules_nextEngine (s : State) (k a n : Nat) (v : Bool) : (s.setGranules k a n v).nextEngine = s.nextEngine := rfl
@[simp] theorem State.setGranules_launches (s : State) (k a n : Nat) (v : Bool) : (s.setGranules k a n v).launches = s.launches := rfl
@[simp] theorem State.setGranules_nextLaunch (s : State) (k a n : Nat) (v : Bool) : (s.setGranules k a n v).nextLaunch = s.nextLaunch := rfl
@[simp] theorem State.setGranules_plots (s : State) (k a n : Nat) (v : Bool) : (s.setGranules k a n v).plots = s.plots := rfl
@[simp] theorem State.setGranules_estates (s : State) (k a n : Nat) (v : Bool) : (s.setGranules k a n v).estates = s.estates := rfl
@[simp] theorem State.setGranules_ownerPage (s : State) (k a n : Nat) (v : Bool) : (s.setGranules k a n v).ownerPage = s.ownerPage := rfl
@[simp] theorem State.setGranules_cmds (s : State) (k a n : Nat) (v : Bool) : (s.setGranules k a n v).cmds = s.cmds := rfl
@[simp] theorem State.setGranules_ownerLog (s : State) (k a n : Nat) (v : Bool) : (s.setGranules k a n v).ownerLog = s.ownerLog := rfl
@[simp] theorem State.setGranules_ownerMsix (s : State) (k a n : Nat) (v : Bool) : (s.setGranules k a n v).ownerMsix = s.ownerMsix := rfl
@[simp] theorem State.setGranules_pairings (s : State) (k a n : Nat) (v : Bool) : (s.setGranules k a n v).pairings = s.pairings := rfl
@[simp] theorem State.setGranules_landed (s : State) (k a n : Nat) (v : Bool) : (s.setGranules k a n v).landed = s.landed := rfl
@[simp] theorem State.setGranules_nextSeq (s : State) (k a n : Nat) (v : Bool) : (s.setGranules k a n v).nextSeq = s.nextSeq := rfl
@[simp] theorem State.setGranules_fabric (s : State) (k a n : Nat) (v : Bool) : (s.setGranules k a n v).fabric = s.fabric := rfl
@[simp] theorem State.setGranules_refusedReplies (s : State) (k a n : Nat) (v : Bool) : (s.setGranules k a n v).refusedReplies = s.refusedReplies := rfl
@[simp] theorem State.setGranules_purseReg (s : State) (k a n : Nat) (v : Bool) : (s.setGranules k a n v).purseReg = s.purseReg := rfl
@[simp] theorem State.setGranules_spinReg (s : State) (k a n : Nat) (v : Bool) : (s.setGranules k a n v).spinReg = s.spinReg := rfl
@[simp] theorem State.setGranules_shareReg (s : State) (k a n : Nat) (v : Bool) : (s.setGranules k a n v).shareReg = s.shareReg := rfl
@[simp] theorem State.setGranules_agePeriod (s : State) (k a n : Nat) (v : Bool) : (s.setGranules k a n v).agePeriod = s.agePeriod := rfl
@[simp] theorem State.setGranules_winBase (s : State) (k a n : Nat) (v : Bool) : (s.setGranules k a n v).winBase = s.winBase := rfl
@[simp] theorem State.setGranules_keys (s : State) (k a n : Nat) (v : Bool) : (s.setGranules k a n v).keys = s.keys := rfl
@[simp] theorem State.setGranules_jobs (s : State) (k a n : Nat) (v : Bool) : (s.setGranules k a n v).jobs = s.jobs := rfl
@[simp] theorem State.setGranules_scrubPos (s : State) (k a n : Nat) (v : Bool) : (s.setGranules k a n v).scrubPos = s.scrubPos := rfl
@[simp] theorem State.setGranules_quarantine (s : State) (k a n : Nat) (v : Bool) : (s.setGranules k a n v).quarantine = s.quarantine := rfl
@[simp] theorem State.setGranules_unsettled (s : State) (k a n : Nat) (v : Bool) : (s.setGranules k a n v).unsettled = s.unsettled := rfl
@[simp] theorem State.setGranules_wfail (s : State) (k a n : Nat) (v : Bool) : (s.setGranules k a n v).wfail = s.wfail := rfl
@[simp] theorem State.setGranules_lastStart (s : State) (k a n : Nat) (v : Bool) : (s.setGranules k a n v).lastStart = s.lastStart := rfl
@[simp] theorem State.setGranules_failStep (s : State) (k a n : Nat) (v : Bool) : (s.setGranules k a n v).failStep = s.failStep := rfl
@[simp] theorem State.setGranules_starts (s : State) (k a n : Nat) (v : Bool) : (s.setGranules k a n v).starts = s.starts := rfl
@[simp] theorem State.setGranules_onFabric (s : State) (k a n : Nat) (v : Bool) : (s.setGranules k a n v).onFabric = s.onFabric := rfl
@[simp] theorem State.setGranules_patCount (s : State) (k a n : Nat) (v : Bool) : (s.setGranules k a n v).patCount = s.patCount := rfl
@[simp] theorem State.setGranules_patSpace (s : State) (k a n : Nat) (v : Bool) : (s.setGranules k a n v).patSpace = s.patSpace := rfl
@[simp] theorem State.setGranules_patAddr (s : State) (k a n : Nat) (v : Bool) : (s.setGranules k a n v).patAddr = s.patAddr := rfl
@[simp] theorem State.setGranules_vfEnable (s : State) (k a n : Nat) (v : Bool) : (s.setGranules k a n v).vfEnable = s.vfEnable := rfl
@[simp] theorem State.setGranules_vfOffAt (s : State) (k a n : Nat) (v : Bool) : (s.setGranules k a n v).vfOffAt = s.vfOffAt := rfl
@[simp] theorem State.setGranules_hostMsgs (s : State) (k a n : Nat) (v : Bool) : (s.setGranules k a n v).hostMsgs = s.hostMsgs := rfl
@[simp] theorem State.setGranules_hostData (s : State) (k a n : Nat) (v : Bool) : (s.setGranules k a n v).hostData = s.hostData := rfl
@[simp] theorem State.setGranules_free (s : State) (k a n : Nat) (v : Bool) : (s.setGranules k a n v).free = s.free := rfl
@[simp] theorem State.setGranules_iss (s : State) (k a n : Nat) (v : Bool) : (s.setGranules k a n v).iss = s.iss := rfl
@[simp] theorem State.setGranules_micro (s : State) (k a n : Nat) (v : Bool) : (s.setGranules k a n v).micro = s.micro := rfl
@[simp] theorem State.setGranules_sched (s : State) (k a n : Nat) (v : Bool) : (s.setGranules k a n v).sched = s.sched := rfl
@[simp] theorem State.setGranules_due (s : State) (k a n : Nat) (v : Bool) : (s.setGranules k a n v).due = s.due := rfl

/-! ### State.ueClear -/

@[simp] theorem State.ueClear_tick (s : State) (a n : Nat) : (s.ueClear a n).tick = s.tick := rfl
@[simp] theorem State.ueClear_devns (s : State) (a n : Nat) : (s.ueClear a n).devns = s.devns := rfl
@[simp] theorem State.ueClear_mem (s : State) (a n : Nat) : (s.ueClear a n).mem = s.mem := rfl
@[simp] theorem State.ueClear_full (s : State) (a n : Nat) : (s.ueClear a n).full = s.full := rfl
@[simp] theorem State.ueClear_ue (s : State) (a n : Nat) : (s.ueClear a n).ue = s.ue.filter fun w => !(decide (a % 2 ^ 48 ≤ w) && decide (w + 8 ≤ a % 2 ^ 48 + n)) := rfl
@[simp] theorem State.ueClear_enc (s : State) (a n : Nat) : (s.ueClear a n).enc = s.enc := rfl
@[simp] theorem State.ueClear_lineSeq (s : State) (a n : Nat) : (s.ueClear a n).lineSeq = s.lineSeq := rfl
@[simp] theorem State.ueClear_dies (s : State) (a n : Nat) : (s.ueClear a n).dies = s.dies := rfl
@[simp] theorem State.ueClear_tlb (s : State) (a n : Nat) : (s.ueClear a n).tlb = s.tlb := rfl
@[simp] theorem State.ueClear_reads (s : State) (a n : Nat) : (s.ueClear a n).reads = s.reads := rfl
@[simp] theorem State.ueClear_cores (s : State) (a n : Nat) : (s.ueClear a n).cores = s.cores := rfl
@[simp] theorem State.ueClear_ctxs (s : State) (a n : Nat) : (s.ueClear a n).ctxs = s.ctxs := rfl
@[simp] theorem State.ueClear_groups (s : State) (a n : Nat) : (s.ueClear a n).groups = s.groups := rfl
@[simp] theorem State.ueClear_nextGroup (s : State) (a n : Nat) : (s.ueClear a n).nextGroup = s.nextGroup := rfl
@[simp] theorem State.ueClear_runq (s : State) (a n : Nat) : (s.ueClear a n).runq = s.runq := rfl
@[simp] theorem State.ueClear_restore (s : State) (a n : Nat) : (s.ueClear a n).restore = s.restore := rfl
@[simp] theorem State.ueClear_gangs (s : State) (a n : Nat) : (s.ueClear a n).gangs = s.gangs := rfl
@[simp] theorem State.ueClear_purses (s : State) (a n : Nat) : (s.ueClear a n).purses = s.purses := rfl
@[simp] theorem State.ueClear_purseNs (s : State) (a n : Nat) : (s.ueClear a n).purseNs = s.purseNs := rfl
@[simp] theorem State.ueClear_engines (s : State) (a n : Nat) : (s.ueClear a n).engines = s.engines := rfl
@[simp] theorem State.ueClear_nextEngine (s : State) (a n : Nat) : (s.ueClear a n).nextEngine = s.nextEngine := rfl
@[simp] theorem State.ueClear_launches (s : State) (a n : Nat) : (s.ueClear a n).launches = s.launches := rfl
@[simp] theorem State.ueClear_nextLaunch (s : State) (a n : Nat) : (s.ueClear a n).nextLaunch = s.nextLaunch := rfl
@[simp] theorem State.ueClear_plots (s : State) (a n : Nat) : (s.ueClear a n).plots = s.plots := rfl
@[simp] theorem State.ueClear_estates (s : State) (a n : Nat) : (s.ueClear a n).estates = s.estates := rfl
@[simp] theorem State.ueClear_ownerPage (s : State) (a n : Nat) : (s.ueClear a n).ownerPage = s.ownerPage := rfl
@[simp] theorem State.ueClear_cmds (s : State) (a n : Nat) : (s.ueClear a n).cmds = s.cmds := rfl
@[simp] theorem State.ueClear_ownerLog (s : State) (a n : Nat) : (s.ueClear a n).ownerLog = s.ownerLog := rfl
@[simp] theorem State.ueClear_ownerMsix (s : State) (a n : Nat) : (s.ueClear a n).ownerMsix = s.ownerMsix := rfl
@[simp] theorem State.ueClear_pairings (s : State) (a n : Nat) : (s.ueClear a n).pairings = s.pairings := rfl
@[simp] theorem State.ueClear_landed (s : State) (a n : Nat) : (s.ueClear a n).landed = s.landed := rfl
@[simp] theorem State.ueClear_nextSeq (s : State) (a n : Nat) : (s.ueClear a n).nextSeq = s.nextSeq := rfl
@[simp] theorem State.ueClear_fabric (s : State) (a n : Nat) : (s.ueClear a n).fabric = s.fabric := rfl
@[simp] theorem State.ueClear_refusedReplies (s : State) (a n : Nat) : (s.ueClear a n).refusedReplies = s.refusedReplies := rfl
@[simp] theorem State.ueClear_purseReg (s : State) (a n : Nat) : (s.ueClear a n).purseReg = s.purseReg := rfl
@[simp] theorem State.ueClear_spinReg (s : State) (a n : Nat) : (s.ueClear a n).spinReg = s.spinReg := rfl
@[simp] theorem State.ueClear_shareReg (s : State) (a n : Nat) : (s.ueClear a n).shareReg = s.shareReg := rfl
@[simp] theorem State.ueClear_agePeriod (s : State) (a n : Nat) : (s.ueClear a n).agePeriod = s.agePeriod := rfl
@[simp] theorem State.ueClear_winBase (s : State) (a n : Nat) : (s.ueClear a n).winBase = s.winBase := rfl
@[simp] theorem State.ueClear_keys (s : State) (a n : Nat) : (s.ueClear a n).keys = s.keys := rfl
@[simp] theorem State.ueClear_jobs (s : State) (a n : Nat) : (s.ueClear a n).jobs = s.jobs := rfl
@[simp] theorem State.ueClear_scrubPos (s : State) (a n : Nat) : (s.ueClear a n).scrubPos = s.scrubPos := rfl
@[simp] theorem State.ueClear_quarantine (s : State) (a n : Nat) : (s.ueClear a n).quarantine = s.quarantine := rfl
@[simp] theorem State.ueClear_unsettled (s : State) (a n : Nat) : (s.ueClear a n).unsettled = s.unsettled := rfl
@[simp] theorem State.ueClear_wfail (s : State) (a n : Nat) : (s.ueClear a n).wfail = s.wfail := rfl
@[simp] theorem State.ueClear_lastStart (s : State) (a n : Nat) : (s.ueClear a n).lastStart = s.lastStart := rfl
@[simp] theorem State.ueClear_failStep (s : State) (a n : Nat) : (s.ueClear a n).failStep = s.failStep := rfl
@[simp] theorem State.ueClear_starts (s : State) (a n : Nat) : (s.ueClear a n).starts = s.starts := rfl
@[simp] theorem State.ueClear_onFabric (s : State) (a n : Nat) : (s.ueClear a n).onFabric = s.onFabric := rfl
@[simp] theorem State.ueClear_patCount (s : State) (a n : Nat) : (s.ueClear a n).patCount = s.patCount := rfl
@[simp] theorem State.ueClear_patSpace (s : State) (a n : Nat) : (s.ueClear a n).patSpace = s.patSpace := rfl
@[simp] theorem State.ueClear_patAddr (s : State) (a n : Nat) : (s.ueClear a n).patAddr = s.patAddr := rfl
@[simp] theorem State.ueClear_vfEnable (s : State) (a n : Nat) : (s.ueClear a n).vfEnable = s.vfEnable := rfl
@[simp] theorem State.ueClear_vfOffAt (s : State) (a n : Nat) : (s.ueClear a n).vfOffAt = s.vfOffAt := rfl
@[simp] theorem State.ueClear_hostMsgs (s : State) (a n : Nat) : (s.ueClear a n).hostMsgs = s.hostMsgs := rfl
@[simp] theorem State.ueClear_hostData (s : State) (a n : Nat) : (s.ueClear a n).hostData = s.hostData := rfl
@[simp] theorem State.ueClear_free (s : State) (a n : Nat) : (s.ueClear a n).free = s.free := rfl
@[simp] theorem State.ueClear_iss (s : State) (a n : Nat) : (s.ueClear a n).iss = s.iss := rfl
@[simp] theorem State.ueClear_micro (s : State) (a n : Nat) : (s.ueClear a n).micro = s.micro := rfl
@[simp] theorem State.ueClear_sched (s : State) (a n : Nat) : (s.ueClear a n).sched = s.sched := rfl
@[simp] theorem State.ueClear_due (s : State) (a n : Nat) : (s.ueClear a n).due = s.due := rfl

/-! ### State.atSlot -/

@[simp] theorem State.atSlot_tick (s : State) (k : Nat) : (s.atSlot k).tick = s.tick := rfl
@[simp] theorem State.atSlot_devns (s : State) (k : Nat) : (s.atSlot k).devns = s.devns := rfl
@[simp] theorem State.atSlot_mem (s : State) (k : Nat) : (s.atSlot k).mem = s.mem := rfl
@[simp] theorem State.atSlot_full (s : State) (k : Nat) : (s.atSlot k).full = s.full := rfl
@[simp] theorem State.atSlot_ue (s : State) (k : Nat) : (s.atSlot k).ue = s.ue := rfl
@[simp] theorem State.atSlot_enc (s : State) (k : Nat) : (s.atSlot k).enc = s.enc := rfl
@[simp] theorem State.atSlot_lineSeq (s : State) (k : Nat) : (s.atSlot k).lineSeq = s.lineSeq := rfl
@[simp] theorem State.atSlot_dies (s : State) (k : Nat) : (s.atSlot k).dies = s.dies := rfl
@[simp] theorem State.atSlot_tlb (s : State) (k : Nat) : (s.atSlot k).tlb = s.tlb := rfl
@[simp] theorem State.atSlot_reads (s : State) (k : Nat) : (s.atSlot k).reads = s.reads := rfl
@[simp] theorem State.atSlot_cores (s : State) (k : Nat) : (s.atSlot k).cores = s.cores := rfl
@[simp] theorem State.atSlot_ctxs (s : State) (k : Nat) : (s.atSlot k).ctxs = s.ctxs := rfl
@[simp] theorem State.atSlot_groups (s : State) (k : Nat) : (s.atSlot k).groups = s.groups := rfl
@[simp] theorem State.atSlot_nextGroup (s : State) (k : Nat) : (s.atSlot k).nextGroup = s.nextGroup := rfl
@[simp] theorem State.atSlot_runq (s : State) (k : Nat) : (s.atSlot k).runq = s.runq := rfl
@[simp] theorem State.atSlot_restore (s : State) (k : Nat) : (s.atSlot k).restore = s.restore := rfl
@[simp] theorem State.atSlot_gangs (s : State) (k : Nat) : (s.atSlot k).gangs = s.gangs := rfl
@[simp] theorem State.atSlot_purses (s : State) (k : Nat) : (s.atSlot k).purses = s.purses := rfl
@[simp] theorem State.atSlot_purseNs (s : State) (k : Nat) : (s.atSlot k).purseNs = s.purseNs := rfl
@[simp] theorem State.atSlot_engines (s : State) (k : Nat) : (s.atSlot k).engines = s.engines := rfl
@[simp] theorem State.atSlot_nextEngine (s : State) (k : Nat) : (s.atSlot k).nextEngine = s.nextEngine := rfl
@[simp] theorem State.atSlot_launches (s : State) (k : Nat) : (s.atSlot k).launches = s.launches := rfl
@[simp] theorem State.atSlot_nextLaunch (s : State) (k : Nat) : (s.atSlot k).nextLaunch = s.nextLaunch := rfl
@[simp] theorem State.atSlot_plots (s : State) (k : Nat) : (s.atSlot k).plots = s.plots := rfl
@[simp] theorem State.atSlot_estates (s : State) (k : Nat) : (s.atSlot k).estates = s.estates := rfl
@[simp] theorem State.atSlot_ownerPage (s : State) (k : Nat) : (s.atSlot k).ownerPage = s.ownerPage := rfl
@[simp] theorem State.atSlot_cmds (s : State) (k : Nat) : (s.atSlot k).cmds = s.cmds := rfl
@[simp] theorem State.atSlot_ownerLog (s : State) (k : Nat) : (s.atSlot k).ownerLog = s.ownerLog := rfl
@[simp] theorem State.atSlot_ownerMsix (s : State) (k : Nat) : (s.atSlot k).ownerMsix = s.ownerMsix := rfl
@[simp] theorem State.atSlot_pairings (s : State) (k : Nat) : (s.atSlot k).pairings = s.pairings := rfl
@[simp] theorem State.atSlot_landed (s : State) (k : Nat) : (s.atSlot k).landed = s.landed := rfl
@[simp] theorem State.atSlot_nextSeq (s : State) (k : Nat) : (s.atSlot k).nextSeq = s.nextSeq := rfl
@[simp] theorem State.atSlot_fabric (s : State) (k : Nat) : (s.atSlot k).fabric = s.fabric := rfl
@[simp] theorem State.atSlot_refusedReplies (s : State) (k : Nat) : (s.atSlot k).refusedReplies = s.refusedReplies := rfl
@[simp] theorem State.atSlot_purseReg (s : State) (k : Nat) : (s.atSlot k).purseReg = s.purseReg := rfl
@[simp] theorem State.atSlot_spinReg (s : State) (k : Nat) : (s.atSlot k).spinReg = s.spinReg := rfl
@[simp] theorem State.atSlot_shareReg (s : State) (k : Nat) : (s.atSlot k).shareReg = s.shareReg := rfl
@[simp] theorem State.atSlot_agePeriod (s : State) (k : Nat) : (s.atSlot k).agePeriod = s.agePeriod := rfl
@[simp] theorem State.atSlot_winBase (s : State) (k : Nat) : (s.atSlot k).winBase = s.winBase := rfl
@[simp] theorem State.atSlot_keys (s : State) (k : Nat) : (s.atSlot k).keys = s.keys := rfl
@[simp] theorem State.atSlot_jobs (s : State) (k : Nat) : (s.atSlot k).jobs = s.jobs := rfl
@[simp] theorem State.atSlot_scrubPos (s : State) (k : Nat) : (s.atSlot k).scrubPos = s.scrubPos := rfl
@[simp] theorem State.atSlot_quarantine (s : State) (k : Nat) : (s.atSlot k).quarantine = s.quarantine := rfl
@[simp] theorem State.atSlot_unsettled (s : State) (k : Nat) : (s.atSlot k).unsettled = s.unsettled := rfl
@[simp] theorem State.atSlot_wfail (s : State) (k : Nat) : (s.atSlot k).wfail = s.wfail := rfl
@[simp] theorem State.atSlot_lastStart (s : State) (k : Nat) : (s.atSlot k).lastStart = s.lastStart := rfl
@[simp] theorem State.atSlot_failStep (s : State) (k : Nat) : (s.atSlot k).failStep = s.failStep := rfl
@[simp] theorem State.atSlot_starts (s : State) (k : Nat) : (s.atSlot k).starts = s.starts := rfl
@[simp] theorem State.atSlot_onFabric (s : State) (k : Nat) : (s.atSlot k).onFabric = s.onFabric := rfl
@[simp] theorem State.atSlot_patCount (s : State) (k : Nat) : (s.atSlot k).patCount = s.patCount := rfl
@[simp] theorem State.atSlot_patSpace (s : State) (k : Nat) : (s.atSlot k).patSpace = s.patSpace := rfl
@[simp] theorem State.atSlot_patAddr (s : State) (k : Nat) : (s.atSlot k).patAddr = s.patAddr := rfl
@[simp] theorem State.atSlot_vfEnable (s : State) (k : Nat) : (s.atSlot k).vfEnable = s.vfEnable := rfl
@[simp] theorem State.atSlot_vfOffAt (s : State) (k : Nat) : (s.atSlot k).vfOffAt = s.vfOffAt := rfl
@[simp] theorem State.atSlot_hostMsgs (s : State) (k : Nat) : (s.atSlot k).hostMsgs = s.hostMsgs := rfl
@[simp] theorem State.atSlot_hostData (s : State) (k : Nat) : (s.atSlot k).hostData = s.hostData := rfl
@[simp] theorem State.atSlot_free (s : State) (k : Nat) : (s.atSlot k).free = s.free := rfl
@[simp] theorem State.atSlot_iss (s : State) (k : Nat) : (s.atSlot k).iss = { s.iss with slot := k } := rfl
@[simp] theorem State.atSlot_micro (s : State) (k : Nat) : (s.atSlot k).micro = s.micro := rfl
@[simp] theorem State.atSlot_sched (s : State) (k : Nat) : (s.atSlot k).sched = s.sched := rfl
@[simp] theorem State.atSlot_due (s : State) (k : Nat) : (s.atSlot k).due = s.due := rfl

/-! ### State.enterRestore -/

@[simp] theorem State.enterRestore_tick (s : State) (k : Nat) (x : Saved) : (s.enterRestore k x).tick = s.tick := rfl
@[simp] theorem State.enterRestore_devns (s : State) (k : Nat) (x : Saved) : (s.enterRestore k x).devns = s.devns := rfl
@[simp] theorem State.enterRestore_mem (s : State) (k : Nat) (x : Saved) : (s.enterRestore k x).mem = s.mem := rfl
@[simp] theorem State.enterRestore_full (s : State) (k : Nat) (x : Saved) : (s.enterRestore k x).full = s.full := rfl
@[simp] theorem State.enterRestore_ue (s : State) (k : Nat) (x : Saved) : (s.enterRestore k x).ue = s.ue := rfl
@[simp] theorem State.enterRestore_enc (s : State) (k : Nat) (x : Saved) : (s.enterRestore k x).enc = s.enc := rfl
@[simp] theorem State.enterRestore_lineSeq (s : State) (k : Nat) (x : Saved) : (s.enterRestore k x).lineSeq = s.lineSeq := rfl
@[simp] theorem State.enterRestore_dies (s : State) (k : Nat) (x : Saved) : (s.enterRestore k x).dies = s.dies := rfl
@[simp] theorem State.enterRestore_tlb (s : State) (k : Nat) (x : Saved) : (s.enterRestore k x).tlb = s.tlb := rfl
@[simp] theorem State.enterRestore_reads (s : State) (k : Nat) (x : Saved) : (s.enterRestore k x).reads = s.reads := rfl
@[simp] theorem State.enterRestore_cores (s : State) (k : Nat) (x : Saved) : (s.enterRestore k x).cores = s.cores := rfl
@[simp] theorem State.enterRestore_ctxs (s : State) (k : Nat) (x : Saved) : (s.enterRestore k x).ctxs = s.ctxs := rfl
@[simp] theorem State.enterRestore_groups (s : State) (k : Nat) (x : Saved) : (s.enterRestore k x).groups = s.groups := rfl
@[simp] theorem State.enterRestore_nextGroup (s : State) (k : Nat) (x : Saved) : (s.enterRestore k x).nextGroup = s.nextGroup := rfl
@[simp] theorem State.enterRestore_runq (s : State) (k : Nat) (x : Saved) : (s.enterRestore k x).runq = s.runq := rfl
@[simp] theorem State.enterRestore_restore (s : State) (k : Nat) (x : Saved) : (s.enterRestore k x).restore = s.restore.set k (s.restore.get k [] ++ [x]) := rfl
@[simp] theorem State.enterRestore_gangs (s : State) (k : Nat) (x : Saved) : (s.enterRestore k x).gangs = s.gangs := rfl
@[simp] theorem State.enterRestore_purses (s : State) (k : Nat) (x : Saved) : (s.enterRestore k x).purses = s.purses := rfl
@[simp] theorem State.enterRestore_purseNs (s : State) (k : Nat) (x : Saved) : (s.enterRestore k x).purseNs = s.purseNs := rfl
@[simp] theorem State.enterRestore_engines (s : State) (k : Nat) (x : Saved) : (s.enterRestore k x).engines = s.engines := rfl
@[simp] theorem State.enterRestore_nextEngine (s : State) (k : Nat) (x : Saved) : (s.enterRestore k x).nextEngine = s.nextEngine := rfl
@[simp] theorem State.enterRestore_launches (s : State) (k : Nat) (x : Saved) : (s.enterRestore k x).launches = s.launches := rfl
@[simp] theorem State.enterRestore_nextLaunch (s : State) (k : Nat) (x : Saved) : (s.enterRestore k x).nextLaunch = s.nextLaunch := rfl
@[simp] theorem State.enterRestore_plots (s : State) (k : Nat) (x : Saved) : (s.enterRestore k x).plots = s.plots := rfl
@[simp] theorem State.enterRestore_estates (s : State) (k : Nat) (x : Saved) : (s.enterRestore k x).estates = s.estates := rfl
@[simp] theorem State.enterRestore_ownerPage (s : State) (k : Nat) (x : Saved) : (s.enterRestore k x).ownerPage = s.ownerPage := rfl
@[simp] theorem State.enterRestore_cmds (s : State) (k : Nat) (x : Saved) : (s.enterRestore k x).cmds = s.cmds := rfl
@[simp] theorem State.enterRestore_ownerLog (s : State) (k : Nat) (x : Saved) : (s.enterRestore k x).ownerLog = s.ownerLog := rfl
@[simp] theorem State.enterRestore_ownerMsix (s : State) (k : Nat) (x : Saved) : (s.enterRestore k x).ownerMsix = s.ownerMsix := rfl
@[simp] theorem State.enterRestore_pairings (s : State) (k : Nat) (x : Saved) : (s.enterRestore k x).pairings = s.pairings := rfl
@[simp] theorem State.enterRestore_landed (s : State) (k : Nat) (x : Saved) : (s.enterRestore k x).landed = s.landed := rfl
@[simp] theorem State.enterRestore_nextSeq (s : State) (k : Nat) (x : Saved) : (s.enterRestore k x).nextSeq = s.nextSeq := rfl
@[simp] theorem State.enterRestore_fabric (s : State) (k : Nat) (x : Saved) : (s.enterRestore k x).fabric = s.fabric := rfl
@[simp] theorem State.enterRestore_refusedReplies (s : State) (k : Nat) (x : Saved) : (s.enterRestore k x).refusedReplies = s.refusedReplies := rfl
@[simp] theorem State.enterRestore_purseReg (s : State) (k : Nat) (x : Saved) : (s.enterRestore k x).purseReg = s.purseReg := rfl
@[simp] theorem State.enterRestore_spinReg (s : State) (k : Nat) (x : Saved) : (s.enterRestore k x).spinReg = s.spinReg := rfl
@[simp] theorem State.enterRestore_shareReg (s : State) (k : Nat) (x : Saved) : (s.enterRestore k x).shareReg = s.shareReg := rfl
@[simp] theorem State.enterRestore_agePeriod (s : State) (k : Nat) (x : Saved) : (s.enterRestore k x).agePeriod = s.agePeriod := rfl
@[simp] theorem State.enterRestore_winBase (s : State) (k : Nat) (x : Saved) : (s.enterRestore k x).winBase = s.winBase := rfl
@[simp] theorem State.enterRestore_keys (s : State) (k : Nat) (x : Saved) : (s.enterRestore k x).keys = s.keys := rfl
@[simp] theorem State.enterRestore_jobs (s : State) (k : Nat) (x : Saved) : (s.enterRestore k x).jobs = s.jobs := rfl
@[simp] theorem State.enterRestore_scrubPos (s : State) (k : Nat) (x : Saved) : (s.enterRestore k x).scrubPos = s.scrubPos := rfl
@[simp] theorem State.enterRestore_quarantine (s : State) (k : Nat) (x : Saved) : (s.enterRestore k x).quarantine = s.quarantine := rfl
@[simp] theorem State.enterRestore_unsettled (s : State) (k : Nat) (x : Saved) : (s.enterRestore k x).unsettled = s.unsettled := rfl
@[simp] theorem State.enterRestore_wfail (s : State) (k : Nat) (x : Saved) : (s.enterRestore k x).wfail = s.wfail := rfl
@[simp] theorem State.enterRestore_lastStart (s : State) (k : Nat) (x : Saved) : (s.enterRestore k x).lastStart = s.lastStart := rfl
@[simp] theorem State.enterRestore_failStep (s : State) (k : Nat) (x : Saved) : (s.enterRestore k x).failStep = s.failStep := rfl
@[simp] theorem State.enterRestore_starts (s : State) (k : Nat) (x : Saved) : (s.enterRestore k x).starts = s.starts := rfl
@[simp] theorem State.enterRestore_onFabric (s : State) (k : Nat) (x : Saved) : (s.enterRestore k x).onFabric = s.onFabric := rfl
@[simp] theorem State.enterRestore_patCount (s : State) (k : Nat) (x : Saved) : (s.enterRestore k x).patCount = s.patCount := rfl
@[simp] theorem State.enterRestore_patSpace (s : State) (k : Nat) (x : Saved) : (s.enterRestore k x).patSpace = s.patSpace := rfl
@[simp] theorem State.enterRestore_patAddr (s : State) (k : Nat) (x : Saved) : (s.enterRestore k x).patAddr = s.patAddr := rfl
@[simp] theorem State.enterRestore_vfEnable (s : State) (k : Nat) (x : Saved) : (s.enterRestore k x).vfEnable = s.vfEnable := rfl
@[simp] theorem State.enterRestore_vfOffAt (s : State) (k : Nat) (x : Saved) : (s.enterRestore k x).vfOffAt = s.vfOffAt := rfl
@[simp] theorem State.enterRestore_hostMsgs (s : State) (k : Nat) (x : Saved) : (s.enterRestore k x).hostMsgs = s.hostMsgs := rfl
@[simp] theorem State.enterRestore_hostData (s : State) (k : Nat) (x : Saved) : (s.enterRestore k x).hostData = s.hostData := rfl
@[simp] theorem State.enterRestore_free (s : State) (k : Nat) (x : Saved) : (s.enterRestore k x).free = s.free := rfl
@[simp] theorem State.enterRestore_iss (s : State) (k : Nat) (x : Saved) : (s.enterRestore k x).iss = s.iss := rfl
@[simp] theorem State.enterRestore_micro (s : State) (k : Nat) (x : Saved) : (s.enterRestore k x).micro = s.micro := rfl
@[simp] theorem State.enterRestore_sched (s : State) (k : Nat) (x : Saved) : (s.enterRestore k x).sched = s.sched := rfl
@[simp] theorem State.enterRestore_due (s : State) (k : Nat) (x : Saved) : (s.enterRestore k x).due = s.due := rfl

/-! ### Context.flyAdd -/

@[simp] theorem Context.flyAdd_st (s : State) (lat : Nat) (ws : List Wr) (c : Context) : (c.flyAdd s lat ws).st = c.st := rfl
@[simp] theorem Context.flyAdd_w (s : State) (lat : Nat) (ws : List Wr) (c : Context) : (c.flyAdd s lat ws).w = c.w := rfl
@[simp] theorem Context.flyAdd_sh (s : State) (lat : Nat) (ws : List Wr) (c : Context) : (c.flyAdd s lat ws).sh = c.sh := rfl
@[simp] theorem Context.flyAdd_shadowErr (s : State) (lat : Nat) (ws : List Wr) (c : Context) : (c.flyAdd s lat ws).shadowErr = c.shadowErr := rfl
@[simp] theorem Context.flyAdd_latch (s : State) (lat : Nat) (ws : List Wr) (c : Context) : (c.flyAdd s lat ws).latch = c.latch := rfl
@[simp] theorem Context.flyAdd_vlatch (s : State) (lat : Nat) (ws : List Wr) (c : Context) : (c.flyAdd s lat ws).vlatch = c.vlatch := rfl
@[simp] theorem Context.flyAdd_taskid (s : State) (lat : Nat) (ws : List Wr) (c : Context) : (c.flyAdd s lat ws).taskid = c.taskid := rfl
@[simp] theorem Context.flyAdd_kslot (s : State) (lat : Nat) (ws : List Wr) (c : Context) : (c.flyAdd s lat ws).kslot = c.kslot := rfl
@[simp] theorem Context.flyAdd_plot (s : State) (lat : Nat) (ws : List Wr) (c : Context) : (c.flyAdd s lat ws).plot = c.plot := rfl
@[simp] theorem Context.flyAdd_gen (s : State) (lat : Nat) (ws : List Wr) (c : Context) : (c.flyAdd s lat ws).gen = c.gen := rfl
@[simp] theorem Context.flyAdd_cycle (s : State) (lat : Nat) (ws : List Wr) (c : Context) : (c.flyAdd s lat ws).cycle = c.cycle := rfl
@[simp] theorem Context.flyAdd_frzcyc (s : State) (lat : Nat) (ws : List Wr) (c : Context) : (c.flyAdd s lat ws).frzcyc = c.frzcyc := rfl
@[simp] theorem Context.flyAdd_cstat (s : State) (lat : Nat) (ws : List Wr) (c : Context) : (c.flyAdd s lat ws).cstat = c.cstat := rfl
@[simp] theorem Context.flyAdd_flags (s : State) (lat : Nat) (ws : List Wr) (c : Context) : (c.flyAdd s lat ws).flags = c.flags := rfl
@[simp] theorem Context.flyAdd_fixcnt (s : State) (lat : Nat) (ws : List Wr) (c : Context) : (c.flyAdd s lat ws).fixcnt = c.fixcnt := rfl
@[simp] theorem Context.flyAdd_live (s : State) (lat : Nat) (ws : List Wr) (c : Context) : (c.flyAdd s lat ws).live = c.live := rfl
@[simp] theorem Context.flyAdd_fly (s : State) (lat : Nat) (ws : List Wr) (c : Context) : (c.flyAdd s lat ws).fly = c.fly ++ [⟨lat, s.iss.slot, s.iss.caddr, false, false, ws⟩] := rfl
@[simp] theorem Context.flyAdd_loads (s : State) (lat : Nat) (ws : List Wr) (c : Context) : (c.flyAdd s lat ws).loads = c.loads := rfl
@[simp] theorem Context.flyAdd_buf (s : State) (lat : Nat) (ws : List Wr) (c : Context) : (c.flyAdd s lat ws).buf = c.buf := rfl
@[simp] theorem Context.flyAdd_cq (s : State) (lat : Nat) (ws : List Wr) (c : Context) : (c.flyAdd s lat ws).cq = c.cq := rfl
@[simp] theorem Context.flyAdd_bind (s : State) (lat : Nat) (ws : List Wr) (c : Context) : (c.flyAdd s lat ws).bind = c.bind := rfl
@[simp] theorem Context.flyAdd_chan (s : State) (lat : Nat) (ws : List Wr) (c : Context) : (c.flyAdd s lat ws).chan = c.chan := rfl
@[simp] theorem Context.flyAdd_strides (s : State) (lat : Nat) (ws : List Wr) (c : Context) : (c.flyAdd s lat ws).strides = c.strides := rfl
@[simp] theorem Context.flyAdd_br (s : State) (lat : Nat) (ws : List Wr) (c : Context) : (c.flyAdd s lat ws).br = c.br := rfl
@[simp] theorem Context.flyAdd_post (s : State) (lat : Nat) (ws : List Wr) (c : Context) : (c.flyAdd s lat ws).post = c.post := rfl
@[simp] theorem Context.flyAdd_raised (s : State) (lat : Nat) (ws : List Wr) (c : Context) : (c.flyAdd s lat ws).raised = c.raised := rfl
@[simp] theorem Context.flyAdd_frozenFor (s : State) (lat : Nat) (ws : List Wr) (c : Context) : (c.flyAdd s lat ws).frozenFor = c.frozenFor := rfl
@[simp] theorem Context.flyAdd_parkOn (s : State) (lat : Nat) (ws : List Wr) (c : Context) : (c.flyAdd s lat ws).parkOn = c.parkOn := rfl
@[simp] theorem Context.flyAdd_readyAt (s : State) (lat : Nat) (ws : List Wr) (c : Context) : (c.flyAdd s lat ws).readyAt = c.readyAt := rfl
@[simp] theorem Context.flyAdd_fresh (s : State) (lat : Nat) (ws : List Wr) (c : Context) : (c.flyAdd s lat ws).fresh = c.fresh := rfl
@[simp] theorem Context.flyAdd_group (s : State) (lat : Nat) (ws : List Wr) (c : Context) : (c.flyAdd s lat ws).group = c.group := rfl
@[simp] theorem Context.flyAdd_sent (s : State) (lat : Nat) (ws : List Wr) (c : Context) : (c.flyAdd s lat ws).sent = c.sent := rfl
@[simp] theorem Context.flyAdd_firstSent (s : State) (lat : Nat) (ws : List Wr) (c : Context) : (c.flyAdd s lat ws).firstSent = c.firstSent := rfl
@[simp] theorem Context.flyAdd_unacked (s : State) (lat : Nat) (ws : List Wr) (c : Context) : (c.flyAdd s lat ws).unacked = c.unacked := rfl
@[simp] theorem Context.flyAdd_wseq (s : State) (lat : Nat) (ws : List Wr) (c : Context) : (c.flyAdd s lat ws).wseq = c.wseq := rfl
@[simp] theorem Context.flyAdd_nextStore (s : State) (lat : Nat) (ws : List Wr) (c : Context) : (c.flyAdd s lat ws).nextStore = c.nextStore := rfl
@[simp] theorem Context.flyAdd_handed (s : State) (lat : Nat) (ws : List Wr) (c : Context) : (c.flyAdd s lat ws).handed = c.handed := rfl
@[simp] theorem Context.flyAdd_copying (s : State) (lat : Nat) (ws : List Wr) (c : Context) : (c.flyAdd s lat ws).copying = c.copying := rfl
@[simp] theorem Context.flyAdd_fenceWaits (s : State) (lat : Nat) (ws : List Wr) (c : Context) : (c.flyAdd s lat ws).fenceWaits = c.fenceWaits := rfl
@[simp] theorem Context.flyAdd_trapped (s : State) (lat : Nat) (ws : List Wr) (c : Context) : (c.flyAdd s lat ws).trapped = c.trapped := rfl
@[simp] theorem Context.flyAdd_since (s : State) (lat : Nat) (ws : List Wr) (c : Context) : (c.flyAdd s lat ws).since = c.since := rfl
@[simp] theorem Context.flyAdd_migrate (s : State) (lat : Nat) (ws : List Wr) (c : Context) : (c.flyAdd s lat ws).migrate = c.migrate := rfl
@[simp] theorem Context.flyAdd_releasing (s : State) (lat : Nat) (ws : List Wr) (c : Context) : (c.flyAdd s lat ws).releasing = c.releasing := rfl
@[simp] theorem Context.flyAdd_failure (s : State) (lat : Nat) (ws : List Wr) (c : Context) : (c.flyAdd s lat ws).failure = c.failure := rfl
@[simp] theorem Context.flyAdd_ver (s : State) (lat : Nat) (ws : List Wr) (c : Context) : (c.flyAdd s lat ws).ver = c.ver := rfl
@[simp] theorem Context.flyAdd_nextLoad (s : State) (lat : Nat) (ws : List Wr) (c : Context) : (c.flyAdd s lat ws).nextLoad = c.nextLoad := rfl

/-! ### Context.takeIn -/

@[simp] theorem Context.takeIn_st (l : List W64) (c : Context) : (c.takeIn l).st = c.st := rfl
@[simp] theorem Context.takeIn_w (l : List W64) (c : Context) : (c.takeIn l).w = c.w := rfl
@[simp] theorem Context.takeIn_sh (l : List W64) (c : Context) : (c.takeIn l).sh = c.sh := rfl
@[simp] theorem Context.takeIn_shadowErr (l : List W64) (c : Context) : (c.takeIn l).shadowErr = c.shadowErr := rfl
@[simp] theorem Context.takeIn_latch (l : List W64) (c : Context) : (c.takeIn l).latch = c.latch := rfl
@[simp] theorem Context.takeIn_vlatch (l : List W64) (c : Context) : (c.takeIn l).vlatch = c.vlatch := rfl
@[simp] theorem Context.takeIn_taskid (l : List W64) (c : Context) : (c.takeIn l).taskid = c.taskid := rfl
@[simp] theorem Context.takeIn_kslot (l : List W64) (c : Context) : (c.takeIn l).kslot = c.kslot := rfl
@[simp] theorem Context.takeIn_plot (l : List W64) (c : Context) : (c.takeIn l).plot = c.plot := rfl
@[simp] theorem Context.takeIn_gen (l : List W64) (c : Context) : (c.takeIn l).gen = c.gen := rfl
@[simp] theorem Context.takeIn_cycle (l : List W64) (c : Context) : (c.takeIn l).cycle = c.cycle := rfl
@[simp] theorem Context.takeIn_frzcyc (l : List W64) (c : Context) : (c.takeIn l).frzcyc = c.frzcyc := rfl
@[simp] theorem Context.takeIn_cstat (l : List W64) (c : Context) : (c.takeIn l).cstat = c.cstat := rfl
@[simp] theorem Context.takeIn_flags (l : List W64) (c : Context) : (c.takeIn l).flags = c.flags := rfl
@[simp] theorem Context.takeIn_fixcnt (l : List W64) (c : Context) : (c.takeIn l).fixcnt = c.fixcnt := rfl
@[simp] theorem Context.takeIn_live (l : List W64) (c : Context) : (c.takeIn l).live = c.live := rfl
@[simp] theorem Context.takeIn_fly (l : List W64) (c : Context) : (c.takeIn l).fly = c.fly := rfl
@[simp] theorem Context.takeIn_loads (l : List W64) (c : Context) : (c.takeIn l).loads = c.loads := rfl
@[simp] theorem Context.takeIn_buf (l : List W64) (c : Context) : (c.takeIn l).buf = c.buf := rfl
@[simp] theorem Context.takeIn_cq (l : List W64) (c : Context) : (c.takeIn l).cq = c.cq := rfl
@[simp] theorem Context.takeIn_bind (l : List W64) (c : Context) : (c.takeIn l).bind = c.bind := rfl
@[simp] theorem Context.takeIn_chan (l : List W64) (c : Context) : (c.takeIn l).chan = c.chan := rfl
@[simp] theorem Context.takeIn_strides (l : List W64) (c : Context) : (c.takeIn l).strides = c.strides := rfl
@[simp] theorem Context.takeIn_br (l : List W64) (c : Context) : (c.takeIn l).br = c.br := rfl
@[simp] theorem Context.takeIn_post (l : List W64) (c : Context) : (c.takeIn l).post = c.post := rfl
@[simp] theorem Context.takeIn_raised (l : List W64) (c : Context) : (c.takeIn l).raised = c.raised := rfl
@[simp] theorem Context.takeIn_frozenFor (l : List W64) (c : Context) : (c.takeIn l).frozenFor = c.frozenFor := rfl
@[simp] theorem Context.takeIn_parkOn (l : List W64) (c : Context) : (c.takeIn l).parkOn = c.parkOn := rfl
@[simp] theorem Context.takeIn_readyAt (l : List W64) (c : Context) : (c.takeIn l).readyAt = c.readyAt := rfl
@[simp] theorem Context.takeIn_fresh (l : List W64) (c : Context) : (c.takeIn l).fresh = c.fresh := rfl
@[simp] theorem Context.takeIn_group (l : List W64) (c : Context) : (c.takeIn l).group = c.group := rfl
@[simp] theorem Context.takeIn_sent (l : List W64) (c : Context) : (c.takeIn l).sent = c.sent := rfl
@[simp] theorem Context.takeIn_firstSent (l : List W64) (c : Context) : (c.takeIn l).firstSent = c.firstSent := rfl
@[simp] theorem Context.takeIn_unacked (l : List W64) (c : Context) : (c.takeIn l).unacked = c.unacked := rfl
@[simp] theorem Context.takeIn_wseq (l : List W64) (c : Context) : (c.takeIn l).wseq = c.wseq := rfl
@[simp] theorem Context.takeIn_nextStore (l : List W64) (c : Context) : (c.takeIn l).nextStore = c.nextStore := rfl
@[simp] theorem Context.takeIn_handed (l : List W64) (c : Context) : (c.takeIn l).handed = c.handed := rfl
@[simp] theorem Context.takeIn_copying (l : List W64) (c : Context) : (c.takeIn l).copying = c.copying := rfl
@[simp] theorem Context.takeIn_fenceWaits (l : List W64) (c : Context) : (c.takeIn l).fenceWaits = c.fenceWaits := rfl
@[simp] theorem Context.takeIn_trapped (l : List W64) (c : Context) : (c.takeIn l).trapped = c.trapped := rfl
@[simp] theorem Context.takeIn_since (l : List W64) (c : Context) : (c.takeIn l).since = c.since := rfl
@[simp] theorem Context.takeIn_migrate (l : List W64) (c : Context) : (c.takeIn l).migrate = c.migrate := rfl
@[simp] theorem Context.takeIn_releasing (l : List W64) (c : Context) : (c.takeIn l).releasing = c.releasing := rfl
@[simp] theorem Context.takeIn_failure (l : List W64) (c : Context) : (c.takeIn l).failure = c.failure := rfl
@[simp] theorem Context.takeIn_nextLoad (l : List W64) (c : Context) : (c.takeIn l).nextLoad = c.nextLoad := rfl

/-! ### Context.giveOut -/

@[simp] theorem Context.giveOut_st (l : List W64) (c : Context) : (c.giveOut l).st = c.st := rfl
@[simp] theorem Context.giveOut_w (l : List W64) (c : Context) : (c.giveOut l).w = c.w := rfl
@[simp] theorem Context.giveOut_sh (l : List W64) (c : Context) : (c.giveOut l).sh = c.sh := rfl
@[simp] theorem Context.giveOut_shadowErr (l : List W64) (c : Context) : (c.giveOut l).shadowErr = c.shadowErr := rfl
@[simp] theorem Context.giveOut_latch (l : List W64) (c : Context) : (c.giveOut l).latch = c.latch := rfl
@[simp] theorem Context.giveOut_vlatch (l : List W64) (c : Context) : (c.giveOut l).vlatch = c.vlatch := rfl
@[simp] theorem Context.giveOut_taskid (l : List W64) (c : Context) : (c.giveOut l).taskid = c.taskid := rfl
@[simp] theorem Context.giveOut_kslot (l : List W64) (c : Context) : (c.giveOut l).kslot = c.kslot := rfl
@[simp] theorem Context.giveOut_plot (l : List W64) (c : Context) : (c.giveOut l).plot = c.plot := rfl
@[simp] theorem Context.giveOut_gen (l : List W64) (c : Context) : (c.giveOut l).gen = c.gen := rfl
@[simp] theorem Context.giveOut_cycle (l : List W64) (c : Context) : (c.giveOut l).cycle = c.cycle := rfl
@[simp] theorem Context.giveOut_frzcyc (l : List W64) (c : Context) : (c.giveOut l).frzcyc = c.frzcyc := rfl
@[simp] theorem Context.giveOut_cstat (l : List W64) (c : Context) : (c.giveOut l).cstat = c.cstat := rfl
@[simp] theorem Context.giveOut_flags (l : List W64) (c : Context) : (c.giveOut l).flags = c.flags := rfl
@[simp] theorem Context.giveOut_fixcnt (l : List W64) (c : Context) : (c.giveOut l).fixcnt = c.fixcnt := rfl
@[simp] theorem Context.giveOut_live (l : List W64) (c : Context) : (c.giveOut l).live = c.live := rfl
@[simp] theorem Context.giveOut_fly (l : List W64) (c : Context) : (c.giveOut l).fly = c.fly := rfl
@[simp] theorem Context.giveOut_loads (l : List W64) (c : Context) : (c.giveOut l).loads = c.loads := rfl
@[simp] theorem Context.giveOut_buf (l : List W64) (c : Context) : (c.giveOut l).buf = c.buf := rfl
@[simp] theorem Context.giveOut_cq (l : List W64) (c : Context) : (c.giveOut l).cq = c.cq := rfl
@[simp] theorem Context.giveOut_bind (l : List W64) (c : Context) : (c.giveOut l).bind = c.bind := rfl
@[simp] theorem Context.giveOut_chan (l : List W64) (c : Context) : (c.giveOut l).chan = c.chan := rfl
@[simp] theorem Context.giveOut_strides (l : List W64) (c : Context) : (c.giveOut l).strides = c.strides := rfl
@[simp] theorem Context.giveOut_br (l : List W64) (c : Context) : (c.giveOut l).br = c.br := rfl
@[simp] theorem Context.giveOut_post (l : List W64) (c : Context) : (c.giveOut l).post = c.post := rfl
@[simp] theorem Context.giveOut_raised (l : List W64) (c : Context) : (c.giveOut l).raised = c.raised := rfl
@[simp] theorem Context.giveOut_frozenFor (l : List W64) (c : Context) : (c.giveOut l).frozenFor = c.frozenFor := rfl
@[simp] theorem Context.giveOut_parkOn (l : List W64) (c : Context) : (c.giveOut l).parkOn = c.parkOn := rfl
@[simp] theorem Context.giveOut_readyAt (l : List W64) (c : Context) : (c.giveOut l).readyAt = c.readyAt := rfl
@[simp] theorem Context.giveOut_fresh (l : List W64) (c : Context) : (c.giveOut l).fresh = c.fresh := rfl
@[simp] theorem Context.giveOut_group (l : List W64) (c : Context) : (c.giveOut l).group = c.group := rfl
@[simp] theorem Context.giveOut_sent (l : List W64) (c : Context) : (c.giveOut l).sent = c.sent := rfl
@[simp] theorem Context.giveOut_firstSent (l : List W64) (c : Context) : (c.giveOut l).firstSent = c.firstSent := rfl
@[simp] theorem Context.giveOut_unacked (l : List W64) (c : Context) : (c.giveOut l).unacked = c.unacked := rfl
@[simp] theorem Context.giveOut_wseq (l : List W64) (c : Context) : (c.giveOut l).wseq = c.wseq := rfl
@[simp] theorem Context.giveOut_nextStore (l : List W64) (c : Context) : (c.giveOut l).nextStore = c.nextStore := rfl
@[simp] theorem Context.giveOut_handed (l : List W64) (c : Context) : (c.giveOut l).handed = c.handed := rfl
@[simp] theorem Context.giveOut_copying (l : List W64) (c : Context) : (c.giveOut l).copying = c.copying := rfl
@[simp] theorem Context.giveOut_fenceWaits (l : List W64) (c : Context) : (c.giveOut l).fenceWaits = c.fenceWaits := rfl
@[simp] theorem Context.giveOut_trapped (l : List W64) (c : Context) : (c.giveOut l).trapped = c.trapped := rfl
@[simp] theorem Context.giveOut_since (l : List W64) (c : Context) : (c.giveOut l).since = c.since := rfl
@[simp] theorem Context.giveOut_migrate (l : List W64) (c : Context) : (c.giveOut l).migrate = c.migrate := rfl
@[simp] theorem Context.giveOut_releasing (l : List W64) (c : Context) : (c.giveOut l).releasing = c.releasing := rfl
@[simp] theorem Context.giveOut_failure (l : List W64) (c : Context) : (c.giveOut l).failure = c.failure := rfl
@[simp] theorem Context.giveOut_nextLoad (l : List W64) (c : Context) : (c.giveOut l).nextLoad = c.nextLoad := rfl

/-! ### Context.withhold -/

@[simp] theorem Context.withhold_st (st : Store) (c : Context) : (c.withhold st).st = c.st := rfl
@[simp] theorem Context.withhold_w (st : Store) (c : Context) : (c.withhold st).w = c.w := rfl
@[simp] theorem Context.withhold_sh (st : Store) (c : Context) : (c.withhold st).sh = c.sh := rfl
@[simp] theorem Context.withhold_shadowErr (st : Store) (c : Context) : (c.withhold st).shadowErr = c.shadowErr := rfl
@[simp] theorem Context.withhold_latch (st : Store) (c : Context) : (c.withhold st).latch = c.latch := rfl
@[simp] theorem Context.withhold_vlatch (st : Store) (c : Context) : (c.withhold st).vlatch = c.vlatch := rfl
@[simp] theorem Context.withhold_taskid (st : Store) (c : Context) : (c.withhold st).taskid = c.taskid := rfl
@[simp] theorem Context.withhold_kslot (st : Store) (c : Context) : (c.withhold st).kslot = c.kslot := rfl
@[simp] theorem Context.withhold_plot (st : Store) (c : Context) : (c.withhold st).plot = c.plot := rfl
@[simp] theorem Context.withhold_gen (st : Store) (c : Context) : (c.withhold st).gen = c.gen := rfl
@[simp] theorem Context.withhold_cycle (st : Store) (c : Context) : (c.withhold st).cycle = c.cycle := rfl
@[simp] theorem Context.withhold_frzcyc (st : Store) (c : Context) : (c.withhold st).frzcyc = c.frzcyc := rfl
@[simp] theorem Context.withhold_cstat (st : Store) (c : Context) : (c.withhold st).cstat = c.cstat := rfl
@[simp] theorem Context.withhold_flags (st : Store) (c : Context) : (c.withhold st).flags = c.flags := rfl
@[simp] theorem Context.withhold_fixcnt (st : Store) (c : Context) : (c.withhold st).fixcnt = c.fixcnt := rfl
@[simp] theorem Context.withhold_live (st : Store) (c : Context) : (c.withhold st).live = c.live := rfl
@[simp] theorem Context.withhold_fly (st : Store) (c : Context) : (c.withhold st).fly = c.fly := rfl
@[simp] theorem Context.withhold_loads (st : Store) (c : Context) : (c.withhold st).loads = c.loads := rfl
@[simp] theorem Context.withhold_buf (st : Store) (c : Context) : (c.withhold st).buf = c.buf ++ [{ st with num := c.nextStore, sent := c.sent }] := rfl
@[simp] theorem Context.withhold_cq (st : Store) (c : Context) : (c.withhold st).cq = c.cq := rfl
@[simp] theorem Context.withhold_bind (st : Store) (c : Context) : (c.withhold st).bind = c.bind := rfl
@[simp] theorem Context.withhold_chan (st : Store) (c : Context) : (c.withhold st).chan = c.chan := rfl
@[simp] theorem Context.withhold_strides (st : Store) (c : Context) : (c.withhold st).strides = c.strides := rfl
@[simp] theorem Context.withhold_br (st : Store) (c : Context) : (c.withhold st).br = c.br := rfl
@[simp] theorem Context.withhold_post (st : Store) (c : Context) : (c.withhold st).post = c.post := rfl
@[simp] theorem Context.withhold_raised (st : Store) (c : Context) : (c.withhold st).raised = c.raised := rfl
@[simp] theorem Context.withhold_frozenFor (st : Store) (c : Context) : (c.withhold st).frozenFor = c.frozenFor := rfl
@[simp] theorem Context.withhold_parkOn (st : Store) (c : Context) : (c.withhold st).parkOn = c.parkOn := rfl
@[simp] theorem Context.withhold_readyAt (st : Store) (c : Context) : (c.withhold st).readyAt = c.readyAt := rfl
@[simp] theorem Context.withhold_fresh (st : Store) (c : Context) : (c.withhold st).fresh = c.fresh := rfl
@[simp] theorem Context.withhold_group (st : Store) (c : Context) : (c.withhold st).group = c.group := rfl
@[simp] theorem Context.withhold_sent (st : Store) (c : Context) : (c.withhold st).sent = c.sent := rfl
@[simp] theorem Context.withhold_firstSent (st : Store) (c : Context) : (c.withhold st).firstSent = c.firstSent := rfl
@[simp] theorem Context.withhold_unacked (st : Store) (c : Context) : (c.withhold st).unacked = c.unacked := rfl
@[simp] theorem Context.withhold_wseq (st : Store) (c : Context) : (c.withhold st).wseq = c.wseq := rfl
@[simp] theorem Context.withhold_nextStore (st : Store) (c : Context) : (c.withhold st).nextStore = c.nextStore + 1 := rfl
@[simp] theorem Context.withhold_handed (st : Store) (c : Context) : (c.withhold st).handed = c.handed := rfl
@[simp] theorem Context.withhold_copying (st : Store) (c : Context) : (c.withhold st).copying = c.copying := rfl
@[simp] theorem Context.withhold_fenceWaits (st : Store) (c : Context) : (c.withhold st).fenceWaits = c.fenceWaits := rfl
@[simp] theorem Context.withhold_trapped (st : Store) (c : Context) : (c.withhold st).trapped = c.trapped := rfl
@[simp] theorem Context.withhold_since (st : Store) (c : Context) : (c.withhold st).since = c.since := rfl
@[simp] theorem Context.withhold_migrate (st : Store) (c : Context) : (c.withhold st).migrate = c.migrate := rfl
@[simp] theorem Context.withhold_releasing (st : Store) (c : Context) : (c.withhold st).releasing = c.releasing := rfl
@[simp] theorem Context.withhold_failure (st : Store) (c : Context) : (c.withhold st).failure = c.failure := rfl
@[simp] theorem Context.withhold_nextLoad (st : Store) (c : Context) : (c.withhold st).nextLoad = c.nextLoad := rfl

/-! ### Context.addLoad -/

@[simp] theorem Context.addLoad_st (l : Load) (c : Context) : (c.addLoad l).st = c.st := rfl
@[simp] theorem Context.addLoad_w (l : Load) (c : Context) : (c.addLoad l).w = c.w := rfl
@[simp] theorem Context.addLoad_sh (l : Load) (c : Context) : (c.addLoad l).sh = c.sh := rfl
@[simp] theorem Context.addLoad_shadowErr (l : Load) (c : Context) : (c.addLoad l).shadowErr = c.shadowErr := rfl
@[simp] theorem Context.addLoad_latch (l : Load) (c : Context) : (c.addLoad l).latch = c.latch := rfl
@[simp] theorem Context.addLoad_vlatch (l : Load) (c : Context) : (c.addLoad l).vlatch = c.vlatch := rfl
@[simp] theorem Context.addLoad_taskid (l : Load) (c : Context) : (c.addLoad l).taskid = c.taskid := rfl
@[simp] theorem Context.addLoad_kslot (l : Load) (c : Context) : (c.addLoad l).kslot = c.kslot := rfl
@[simp] theorem Context.addLoad_plot (l : Load) (c : Context) : (c.addLoad l).plot = c.plot := rfl
@[simp] theorem Context.addLoad_gen (l : Load) (c : Context) : (c.addLoad l).gen = c.gen := rfl
@[simp] theorem Context.addLoad_cycle (l : Load) (c : Context) : (c.addLoad l).cycle = c.cycle := rfl
@[simp] theorem Context.addLoad_frzcyc (l : Load) (c : Context) : (c.addLoad l).frzcyc = c.frzcyc := rfl
@[simp] theorem Context.addLoad_cstat (l : Load) (c : Context) : (c.addLoad l).cstat = c.cstat := rfl
@[simp] theorem Context.addLoad_flags (l : Load) (c : Context) : (c.addLoad l).flags = c.flags := rfl
@[simp] theorem Context.addLoad_fixcnt (l : Load) (c : Context) : (c.addLoad l).fixcnt = c.fixcnt := rfl
@[simp] theorem Context.addLoad_live (l : Load) (c : Context) : (c.addLoad l).live = c.live := rfl
@[simp] theorem Context.addLoad_fly (l : Load) (c : Context) : (c.addLoad l).fly = c.fly := rfl
@[simp] theorem Context.addLoad_buf (l : Load) (c : Context) : (c.addLoad l).buf = c.buf := rfl
@[simp] theorem Context.addLoad_cq (l : Load) (c : Context) : (c.addLoad l).cq = c.cq := rfl
@[simp] theorem Context.addLoad_bind (l : Load) (c : Context) : (c.addLoad l).bind = c.bind := rfl
@[simp] theorem Context.addLoad_chan (l : Load) (c : Context) : (c.addLoad l).chan = c.chan := rfl
@[simp] theorem Context.addLoad_strides (l : Load) (c : Context) : (c.addLoad l).strides = c.strides := rfl
@[simp] theorem Context.addLoad_br (l : Load) (c : Context) : (c.addLoad l).br = c.br := rfl
@[simp] theorem Context.addLoad_post (l : Load) (c : Context) : (c.addLoad l).post = c.post := rfl
@[simp] theorem Context.addLoad_raised (l : Load) (c : Context) : (c.addLoad l).raised = c.raised := rfl
@[simp] theorem Context.addLoad_frozenFor (l : Load) (c : Context) : (c.addLoad l).frozenFor = c.frozenFor := rfl
@[simp] theorem Context.addLoad_parkOn (l : Load) (c : Context) : (c.addLoad l).parkOn = c.parkOn := rfl
@[simp] theorem Context.addLoad_readyAt (l : Load) (c : Context) : (c.addLoad l).readyAt = c.readyAt := rfl
@[simp] theorem Context.addLoad_fresh (l : Load) (c : Context) : (c.addLoad l).fresh = c.fresh := rfl
@[simp] theorem Context.addLoad_group (l : Load) (c : Context) : (c.addLoad l).group = c.group := rfl
@[simp] theorem Context.addLoad_sent (l : Load) (c : Context) : (c.addLoad l).sent = c.sent := rfl
@[simp] theorem Context.addLoad_firstSent (l : Load) (c : Context) : (c.addLoad l).firstSent = c.firstSent := rfl
@[simp] theorem Context.addLoad_unacked (l : Load) (c : Context) : (c.addLoad l).unacked = c.unacked := rfl
@[simp] theorem Context.addLoad_wseq (l : Load) (c : Context) : (c.addLoad l).wseq = c.wseq := rfl
@[simp] theorem Context.addLoad_nextStore (l : Load) (c : Context) : (c.addLoad l).nextStore = c.nextStore := rfl
@[simp] theorem Context.addLoad_handed (l : Load) (c : Context) : (c.addLoad l).handed = c.handed := rfl
@[simp] theorem Context.addLoad_copying (l : Load) (c : Context) : (c.addLoad l).copying = c.copying := rfl
@[simp] theorem Context.addLoad_fenceWaits (l : Load) (c : Context) : (c.addLoad l).fenceWaits = c.fenceWaits := rfl
@[simp] theorem Context.addLoad_trapped (l : Load) (c : Context) : (c.addLoad l).trapped = c.trapped := rfl
@[simp] theorem Context.addLoad_since (l : Load) (c : Context) : (c.addLoad l).since = c.since := rfl
@[simp] theorem Context.addLoad_migrate (l : Load) (c : Context) : (c.addLoad l).migrate = c.migrate := rfl
@[simp] theorem Context.addLoad_releasing (l : Load) (c : Context) : (c.addLoad l).releasing = c.releasing := rfl
@[simp] theorem Context.addLoad_failure (l : Load) (c : Context) : (c.addLoad l).failure = c.failure := rfl
@[simp] theorem Context.addLoad_ver (l : Load) (c : Context) : (c.addLoad l).ver = c.ver := rfl
@[simp] theorem Context.addLoad_nextLoad (l : Load) (c : Context) : (c.addLoad l).nextLoad = c.nextLoad + 1 := rfl

/-! ### Context.rollback -/

@[simp] theorem Context.rollback_st (c : Context) : (c.rollback).st = c.st := rfl
@[simp] theorem Context.rollback_w (c : Context) : (c.rollback).w = c.sh := rfl
@[simp] theorem Context.rollback_sh (c : Context) : (c.rollback).sh = c.sh := rfl
@[simp] theorem Context.rollback_shadowErr (c : Context) : (c.rollback).shadowErr = c.shadowErr := rfl
@[simp] theorem Context.rollback_latch (c : Context) : (c.rollback).latch = .replicate 16 0 := rfl
@[simp] theorem Context.rollback_vlatch (c : Context) : (c.rollback).vlatch = .replicate 16 0 := rfl
@[simp] theorem Context.rollback_taskid (c : Context) : (c.rollback).taskid = c.taskid := rfl
@[simp] theorem Context.rollback_kslot (c : Context) : (c.rollback).kslot = c.kslot := rfl
@[simp] theorem Context.rollback_plot (c : Context) : (c.rollback).plot = c.plot := rfl
@[simp] theorem Context.rollback_gen (c : Context) : (c.rollback).gen = c.gen := rfl
@[simp] theorem Context.rollback_cycle (c : Context) : (c.rollback).cycle = c.cycle := rfl
@[simp] theorem Context.rollback_frzcyc (c : Context) : (c.rollback).frzcyc = c.frzcyc := rfl
@[simp] theorem Context.rollback_cstat (c : Context) : (c.rollback).cstat = c.cstat := rfl
@[simp] theorem Context.rollback_flags (c : Context) : (c.rollback).flags = c.flags := rfl
@[simp] theorem Context.rollback_fixcnt (c : Context) : (c.rollback).fixcnt = c.fixcnt := rfl
@[simp] theorem Context.rollback_live (c : Context) : (c.rollback).live = c.live := rfl
@[simp] theorem Context.rollback_fly (c : Context) : (c.rollback).fly = c.fly.filter Fly.covered := rfl
@[simp] theorem Context.rollback_loads (c : Context) : (c.rollback).loads = c.loads.filterMap Load.rolledBack := rfl
@[simp] theorem Context.rollback_buf (c : Context) : (c.rollback).buf = [] := rfl
@[simp] theorem Context.rollback_cq (c : Context) : (c.rollback).cq = c.cq := rfl
@[simp] theorem Context.rollback_bind (c : Context) : (c.rollback).bind = dropBufs c.bind := rfl
@[simp] theorem Context.rollback_chan (c : Context) : (c.rollback).chan = c.chan := rfl
@[simp] theorem Context.rollback_strides (c : Context) : (c.rollback).strides = c.strides.filter Prod.snd := rfl
@[simp] theorem Context.rollback_br (c : Context) : (c.rollback).br = .none := rfl
@[simp] theorem Context.rollback_post (c : Context) : (c.rollback).post = [] := rfl
@[simp] theorem Context.rollback_raised (c : Context) : (c.rollback).raised = none := rfl
@[simp] theorem Context.rollback_frozenFor (c : Context) : (c.rollback).frozenFor = 0 := rfl
@[simp] theorem Context.rollback_parkOn (c : Context) : (c.rollback).parkOn = none := rfl
@[simp] theorem Context.rollback_readyAt (c : Context) : (c.rollback).readyAt = c.readyAt := rfl
@[simp] theorem Context.rollback_fresh (c : Context) : (c.rollback).fresh = c.fresh := rfl
@[simp] theorem Context.rollback_group (c : Context) : (c.rollback).group = c.group := rfl
@[simp] theorem Context.rollback_sent (c : Context) : (c.rollback).sent = c.sent := rfl
@[simp] theorem Context.rollback_firstSent (c : Context) : (c.rollback).firstSent = c.firstSent := rfl
@[simp] theorem Context.rollback_unacked (c : Context) : (c.rollback).unacked = c.unacked := rfl
@[simp] theorem Context.rollback_wseq (c : Context) : (c.rollback).wseq = c.wseq := rfl
@[simp] theorem Context.rollback_nextStore (c : Context) : (c.rollback).nextStore = c.nextStore := rfl
@[simp] theorem Context.rollback_handed (c : Context) : (c.rollback).handed = false := rfl
@[simp] theorem Context.rollback_copying (c : Context) : (c.rollback).copying = none := rfl
@[simp] theorem Context.rollback_fenceWaits (c : Context) : (c.rollback).fenceWaits = none := rfl
@[simp] theorem Context.rollback_trapped (c : Context) : (c.rollback).trapped = c.trapped := rfl
@[simp] theorem Context.rollback_since (c : Context) : (c.rollback).since = c.since := rfl
@[simp] theorem Context.rollback_migrate (c : Context) : (c.rollback).migrate = c.migrate := rfl
@[simp] theorem Context.rollback_releasing (c : Context) : (c.rollback).releasing = c.releasing := rfl
@[simp] theorem Context.rollback_failure (c : Context) : (c.rollback).failure = c.failure := rfl
@[simp] theorem Context.rollback_ver (c : Context) : (c.rollback).ver = c.ver := rfl
@[simp] theorem Context.rollback_nextLoad (c : Context) : (c.rollback).nextLoad = c.nextLoad := rfl

/-! ### Context.commitShadow -/

@[simp] theorem Context.commitShadow_st (cover : Load → Load) (live : Fin 64) (c : Context) : (c.commitShadow cover live).st = c.st := rfl
@[simp] theorem Context.commitShadow_sh (cover : Load → Load) (live : Fin 64) (c : Context) : (c.commitShadow cover live).sh = (c.commitShadow cover live).w := rfl
@[simp] theorem Context.commitShadow_shadowErr (cover : Load → Load) (live : Fin 64) (c : Context) : (c.commitShadow cover live).shadowErr = c.shadowErr := rfl
@[simp] theorem Context.commitShadow_latch (cover : Load → Load) (live : Fin 64) (c : Context) : (c.commitShadow cover live).latch = c.latch := rfl
@[simp] theorem Context.commitShadow_vlatch (cover : Load → Load) (live : Fin 64) (c : Context) : (c.commitShadow cover live).vlatch = c.vlatch := rfl
@[simp] theorem Context.commitShadow_taskid (cover : Load → Load) (live : Fin 64) (c : Context) : (c.commitShadow cover live).taskid = c.taskid := rfl
@[simp] theorem Context.commitShadow_kslot (cover : Load → Load) (live : Fin 64) (c : Context) : (c.commitShadow cover live).kslot = c.kslot := rfl
@[simp] theorem Context.commitShadow_plot (cover : Load → Load) (live : Fin 64) (c : Context) : (c.commitShadow cover live).plot = c.plot := rfl
@[simp] theorem Context.commitShadow_gen (cover : Load → Load) (live : Fin 64) (c : Context) : (c.commitShadow cover live).gen = c.gen := rfl
@[simp] theorem Context.commitShadow_cycle (cover : Load → Load) (live : Fin 64) (c : Context) : (c.commitShadow cover live).cycle = c.cycle := rfl
@[simp] theorem Context.commitShadow_frzcyc (cover : Load → Load) (live : Fin 64) (c : Context) : (c.commitShadow cover live).frzcyc = c.frzcyc := rfl
@[simp] theorem Context.commitShadow_cstat (cover : Load → Load) (live : Fin 64) (c : Context) : (c.commitShadow cover live).cstat = c.cstat := rfl
@[simp] theorem Context.commitShadow_flags (cover : Load → Load) (live : Fin 64) (c : Context) : (c.commitShadow cover live).flags = c.flags := rfl
@[simp] theorem Context.commitShadow_fixcnt (cover : Load → Load) (live : Fin 64) (c : Context) : (c.commitShadow cover live).fixcnt = c.fixcnt := rfl
@[simp] theorem Context.commitShadow_live (cover : Load → Load) (live : Fin 64) (c : Context) : (c.commitShadow cover live).live = live := rfl
@[simp] theorem Context.commitShadow_fly (cover : Load → Load) (live : Fin 64) (c : Context) : (c.commitShadow cover live).fly = c.fly.map fun f => { f with covered := true } := rfl
@[simp] theorem Context.commitShadow_loads (cover : Load → Load) (live : Fin 64) (c : Context) : (c.commitShadow cover live).loads = c.loads.map cover := rfl
@[simp] theorem Context.commitShadow_buf (cover : Load → Load) (live : Fin 64) (c : Context) : (c.commitShadow cover live).buf = [] := rfl
@[simp] theorem Context.commitShadow_cq (cover : Load → Load) (live : Fin 64) (c : Context) : (c.commitShadow cover live).cq = c.cq := rfl
@[simp] theorem Context.commitShadow_bind (cover : Load → Load) (live : Fin 64) (c : Context) : (c.commitShadow cover live).bind = c.bind := rfl
@[simp] theorem Context.commitShadow_chan (cover : Load → Load) (live : Fin 64) (c : Context) : (c.commitShadow cover live).chan = c.chan := rfl
@[simp] theorem Context.commitShadow_strides (cover : Load → Load) (live : Fin 64) (c : Context) : (c.commitShadow cover live).strides = c.strides.map fun st => (st.1, true) := rfl
@[simp] theorem Context.commitShadow_br (cover : Load → Load) (live : Fin 64) (c : Context) : (c.commitShadow cover live).br = c.br := rfl
@[simp] theorem Context.commitShadow_post (cover : Load → Load) (live : Fin 64) (c : Context) : (c.commitShadow cover live).post = c.post := rfl
@[simp] theorem Context.commitShadow_raised (cover : Load → Load) (live : Fin 64) (c : Context) : (c.commitShadow cover live).raised = c.raised := rfl
@[simp] theorem Context.commitShadow_frozenFor (cover : Load → Load) (live : Fin 64) (c : Context) : (c.commitShadow cover live).frozenFor = c.frozenFor := rfl
@[simp] theorem Context.commitShadow_parkOn (cover : Load → Load) (live : Fin 64) (c : Context) : (c.commitShadow cover live).parkOn = c.parkOn := rfl
@[simp] theorem Context.commitShadow_readyAt (cover : Load → Load) (live : Fin 64) (c : Context) : (c.commitShadow cover live).readyAt = c.readyAt := rfl
@[simp] theorem Context.commitShadow_fresh (cover : Load → Load) (live : Fin 64) (c : Context) : (c.commitShadow cover live).fresh = c.fresh := rfl
@[simp] theorem Context.commitShadow_group (cover : Load → Load) (live : Fin 64) (c : Context) : (c.commitShadow cover live).group = c.group := rfl
@[simp] theorem Context.commitShadow_sent (cover : Load → Load) (live : Fin 64) (c : Context) : (c.commitShadow cover live).sent = c.sent := rfl
@[simp] theorem Context.commitShadow_firstSent (cover : Load → Load) (live : Fin 64) (c : Context) : (c.commitShadow cover live).firstSent = c.firstSent := rfl
@[simp] theorem Context.commitShadow_unacked (cover : Load → Load) (live : Fin 64) (c : Context) : (c.commitShadow cover live).unacked = c.unacked := rfl
@[simp] theorem Context.commitShadow_wseq (cover : Load → Load) (live : Fin 64) (c : Context) : (c.commitShadow cover live).wseq = c.wseq := rfl
@[simp] theorem Context.commitShadow_nextStore (cover : Load → Load) (live : Fin 64) (c : Context) : (c.commitShadow cover live).nextStore = c.nextStore := rfl
@[simp] theorem Context.commitShadow_handed (cover : Load → Load) (live : Fin 64) (c : Context) : (c.commitShadow cover live).handed = c.handed := rfl
@[simp] theorem Context.commitShadow_copying (cover : Load → Load) (live : Fin 64) (c : Context) : (c.commitShadow cover live).copying = c.copying := rfl
@[simp] theorem Context.commitShadow_fenceWaits (cover : Load → Load) (live : Fin 64) (c : Context) : (c.commitShadow cover live).fenceWaits = c.fenceWaits := rfl
@[simp] theorem Context.commitShadow_trapped (cover : Load → Load) (live : Fin 64) (c : Context) : (c.commitShadow cover live).trapped = c.trapped := rfl
@[simp] theorem Context.commitShadow_since (cover : Load → Load) (live : Fin 64) (c : Context) : (c.commitShadow cover live).since = c.since := rfl
@[simp] theorem Context.commitShadow_migrate (cover : Load → Load) (live : Fin 64) (c : Context) : (c.commitShadow cover live).migrate = c.migrate := rfl
@[simp] theorem Context.commitShadow_releasing (cover : Load → Load) (live : Fin 64) (c : Context) : (c.commitShadow cover live).releasing = c.releasing := rfl
@[simp] theorem Context.commitShadow_failure (cover : Load → Load) (live : Fin 64) (c : Context) : (c.commitShadow cover live).failure = c.failure := rfl
@[simp] theorem Context.commitShadow_ver (cover : Load → Load) (live : Fin 64) (c : Context) : (c.commitShadow cover live).ver = c.ver := rfl
@[simp] theorem Context.commitShadow_nextLoad (cover : Load → Load) (live : Fin 64) (c : Context) : (c.commitShadow cover live).nextLoad = c.nextLoad := rfl

/-! ### Arch.putA -/

@[simp] theorem Arch.putA_g (a : Arch) (r : AReg) (v : W32) : (a.putA r v).g = a.g := rfl
@[simp] theorem Arch.putA_a (a : Arch) (r : AReg) (v : W32) : (a.putA r v).a = a.a.set r v := rfl
@[simp] theorem Arch.putA_m (a : Arch) (r : AReg) (v : W32) : (a.putA r v).m = a.m := rfl
@[simp] theorem Arch.putA_levels (a : Arch) (r : AReg) (v : W32) : (a.putA r v).levels = a.levels := rfl
@[simp] theorem Arch.putA_lstride (a : Arch) (r : AReg) (v : W32) : (a.putA r v).lstride = a.lstride := rfl
@[simp] theorem Arch.putA_sp (a : Arch) (r : AReg) (v : W32) : (a.putA r v).sp = a.sp := rfl
@[simp] theorem Arch.putA_pc (a : Arch) (r : AReg) (v : W32) : (a.putA r v).pc = a.pc := rfl
@[simp] theorem Arch.putA_npc (a : Arch) (r : AReg) (v : W32) : (a.putA r v).npc = a.npc := rfl
@[simp] theorem Arch.putA_nnpc (a : Arch) (r : AReg) (v : W32) : (a.putA r v).nnpc = a.nnpc := rfl
@[simp] theorem Arch.putA_rmode (a : Arch) (r : AReg) (v : W32) : (a.putA r v).rmode = a.rmode := rfl
@[simp] theorem Arch.putA_seed (a : Arch) (r : AReg) (v : W32) : (a.putA r v).seed = a.seed := rfl
@[simp] theorem Arch.putA_tole (a : Arch) (r : AReg) (v : W32) : (a.putA r v).tole = a.tole := rfl
@[simp] theorem Arch.putA_t0 (a : Arch) (r : AReg) (v : W32) : (a.putA r v).t0 = a.t0 := rfl
@[simp] theorem Arch.putA_t1 (a : Arch) (r : AReg) (v : W32) : (a.putA r v).t1 = a.t1 := rfl
@[simp] theorem Arch.putA_work (a : Arch) (r : AReg) (v : W32) : (a.putA r v).work = a.work := rfl
@[simp] theorem Arch.putA_drain (a : Arch) (r : AReg) (v : W32) : (a.putA r v).drain = a.drain := rfl
@[simp] theorem Arch.putA_pa (a : Arch) (r : AReg) (v : W32) : (a.putA r v).pa = a.pa := rfl
@[simp] theorem Arch.putA_pb (a : Arch) (r : AReg) (v : W32) : (a.putA r v).pb = a.pb := rfl
@[simp] theorem Arch.putA_tt (a : Arch) (r : AReg) (v : W32) : (a.putA r v).tt = a.tt := rfl
@[simp] theorem Arch.putA_tun (a : Arch) (r : AReg) (v : W32) : (a.putA r v).tun = a.tun := rfl
@[simp] theorem Arch.putA_spos (a : Arch) (r : AReg) (v : W32) : (a.putA r v).spos = a.spos := rfl
@[simp] theorem Arch.putA_wc (a : Arch) (r : AReg) (v : W32) : (a.putA r v).wc = a.wc := rfl

/-! ### Arch.putM -/

@[simp] theorem Arch.putM_g (a : Arch) (r : MReg) (v : W64) : (a.putM r v).g = a.g := rfl
@[simp] theorem Arch.putM_a (a : Arch) (r : MReg) (v : W64) : (a.putM r v).a = a.a := rfl
@[simp] theorem Arch.putM_m (a : Arch) (r : MReg) (v : W64) : (a.putM r v).m = a.m.set r v := rfl
@[simp] theorem Arch.putM_levels (a : Arch) (r : MReg) (v : W64) : (a.putM r v).levels = a.levels := rfl
@[simp] theorem Arch.putM_lstride (a : Arch) (r : MReg) (v : W64) : (a.putM r v).lstride = a.lstride := rfl
@[simp] theorem Arch.putM_sp (a : Arch) (r : MReg) (v : W64) : (a.putM r v).sp = a.sp := rfl
@[simp] theorem Arch.putM_pc (a : Arch) (r : MReg) (v : W64) : (a.putM r v).pc = a.pc := rfl
@[simp] theorem Arch.putM_npc (a : Arch) (r : MReg) (v : W64) : (a.putM r v).npc = a.npc := rfl
@[simp] theorem Arch.putM_nnpc (a : Arch) (r : MReg) (v : W64) : (a.putM r v).nnpc = a.nnpc := rfl
@[simp] theorem Arch.putM_rmode (a : Arch) (r : MReg) (v : W64) : (a.putM r v).rmode = a.rmode := rfl
@[simp] theorem Arch.putM_seed (a : Arch) (r : MReg) (v : W64) : (a.putM r v).seed = a.seed := rfl
@[simp] theorem Arch.putM_tole (a : Arch) (r : MReg) (v : W64) : (a.putM r v).tole = a.tole := rfl
@[simp] theorem Arch.putM_t0 (a : Arch) (r : MReg) (v : W64) : (a.putM r v).t0 = a.t0 := rfl
@[simp] theorem Arch.putM_t1 (a : Arch) (r : MReg) (v : W64) : (a.putM r v).t1 = a.t1 := rfl
@[simp] theorem Arch.putM_work (a : Arch) (r : MReg) (v : W64) : (a.putM r v).work = a.work := rfl
@[simp] theorem Arch.putM_drain (a : Arch) (r : MReg) (v : W64) : (a.putM r v).drain = a.drain := rfl
@[simp] theorem Arch.putM_pa (a : Arch) (r : MReg) (v : W64) : (a.putM r v).pa = a.pa := rfl
@[simp] theorem Arch.putM_pb (a : Arch) (r : MReg) (v : W64) : (a.putM r v).pb = a.pb := rfl
@[simp] theorem Arch.putM_tt (a : Arch) (r : MReg) (v : W64) : (a.putM r v).tt = a.tt := rfl
@[simp] theorem Arch.putM_tun (a : Arch) (r : MReg) (v : W64) : (a.putM r v).tun = a.tun := rfl
@[simp] theorem Arch.putM_spos (a : Arch) (r : MReg) (v : W64) : (a.putM r v).spos = a.spos := rfl
@[simp] theorem Arch.putM_wc (a : Arch) (r : MReg) (v : W64) : (a.putM r v).wc = a.wc := rfl

/-! ### Register files -/

/-- g0 takes no value (R15). -/
@[simp] theorem Arch.putG_zero (a : Arch) (v : W64) : a.putG 0 v = a := rfl

/-- A general register other than g0 takes the value. -/
theorem Arch.putG_g (a : Arch) (r : GReg) (v : W64) (h : r ≠ 0) : (a.putG r v).g = a.g.set r v := by
  simp [Arch.putG, h]

/-- A write of a general register is read back; g0 reads 0. -/
theorem Arch.gval_putG (a : Arch) (r : GReg) (v : W64) : (a.putG r v).gval r = if r = 0 then 0 else v := by
  by_cases h : r = 0
  · simp [Arch.gval, h]
  · simp [Arch.gval, Arch.putG, h]

/-- A write of a general register leaves the others. -/
theorem Arch.gval_putG_ne (a : Arch) (r q : GReg) (v : W64) (h : q ≠ r) : (a.putG r v).gval q = a.gval q := by
  have hv : r.val ≠ q.val := fun e => h (Fin.ext e.symm)
  by_cases h0 : r = 0
  · subst h0; rfl
  · by_cases hq : q = 0
    · simp [Arch.gval, hq]
    · simp [Arch.gval, Arch.putG, h0, hq, Vector.getElem_set_ne, hv]

/-! ### Contexts in the table -/

theorem Tab.find_set_self {α : Type} (t : Tab α) (n : Nat) (x : α) : Tab.find (Tab.set t n x) n = some x := by
  induction t with
  | nil => simp [Tab.set, Tab.find]
  | cons e t ih =>
    obtain ⟨k, v⟩ := e
    simp only [Tab.set]
    split_ifs with h1 h2
    · simp [Tab.find]
    · simp [Tab.find]
    · simp [Tab.find, h2, ih]

theorem Tab.find_set_ne {α : Type} (t : Tab α) (n m : Nat) (x : α) (h : m ≠ n) : Tab.find (Tab.set t n x) m = Tab.find t m := by
  induction t with
  | nil => simp [Tab.set, Tab.find, h]
  | cons e t ih =>
    obtain ⟨k, v⟩ := e
    simp only [Tab.set]
    split_ifs with h1 h2
    · simp [Tab.find, h]
    · subst h2; simp [Tab.find, h]
    · by_cases hk : m = k
      · simp [Tab.find, hk]
      · simp [Tab.find, hk, ih]

@[simp] theorem State.ctx_setCtx (s : State) (x : Nat) (c : Context) : (s.setCtx x c).ctx x = c := by
  simp [State.ctx, Tab.get, Tab.find_set_self]

theorem State.ctx_setCtx_ne (s : State) (x y : Nat) (c : Context) (h : y ≠ x) : (s.setCtx x c).ctx y = s.ctx y := by
  simp [State.ctx, Tab.get, Tab.find_set_ne _ _ _ _ h]

@[simp] theorem State.plot_setPlot (s : State) (p : Nat) (x : Plot) : (s.setPlot p x).plot p = x := by
  simp [State.plot, Tab.get, Tab.find_set_self]

theorem State.plot_setPlot_ne (s : State) (p q : Nat) (x : Plot) (h : q ≠ p) : (s.setPlot p x).plot q = s.plot q := by
  simp [State.plot, Tab.get, Tab.find_set_ne _ _ _ _ h]

@[simp] theorem State.estate_setEstate (s : State) (e : Nat) (x : Estate) : (s.setEstate e x).estate e = x := by
  simp [State.estate, Tab.get, Tab.find_set_self]

@[simp] theorem State.core_setCore (s : State) (k : Nat) (x : Core) : (s.setCore k x).core k = x := by
  simp [State.core, Tab.get, Tab.find_set_self]

@[simp] theorem State.group_setGroup (s : State) (g : Nat) (x : Group) : (s.setGroup g x).group g = some x := by
  simp [State.group, Tab.find_set_self]

theorem State.group_setGroup_ne (s : State) (g k : Nat) (x : Group) (h : k ≠ g) : (s.setGroup g x).group k = s.group k := by
  simp [State.group, Tab.find_set_ne _ _ _ _ h]

@[simp] theorem State.ctx_setPlot (s : State) (p x : Nat) (v : Plot) : (s.setPlot p v).ctx x = s.ctx x := rfl
@[simp] theorem State.ctx_setCore (s : State) (k x : Nat) (v : Core) : (s.setCore k v).ctx x = s.ctx x := rfl
@[simp] theorem State.ctx_setGroup (s : State) (g x : Nat) (v : Group) : (s.setGroup g v).ctx x = s.ctx x := rfl
@[simp] theorem State.plot_setCtx (s : State) (p x : Nat) (c : Context) : (s.setCtx x c).plot p = s.plot p := rfl
@[simp] theorem State.core_setCtx (s : State) (k x : Nat) (c : Context) : (s.setCtx x c).core k = s.core k := rfl
@[simp] theorem State.group_setCtx (s : State) (g x : Nat) (c : Context) : (s.setCtx x c).group g = s.group g := rfl
@[simp] theorem State.die_setCtx (s : State) (d x : Nat) (c : Context) : (s.setCtx x c).die d = s.die d := rfl
@[simp] theorem State.log_setCtx (s : State) (l : LogLevel) (x : Nat) (c : Context) : (s.setCtx x c).log l = s.log l := by
  cases l <;> rfl

end Sys2Proof.Machine
end

