-- ==== Sys2Proof/Laws/Memory.lean ====
section
/-!
SUPPORT. Memory: reads after writes, writes elsewhere, and that every operation keeps the canonical form.
-/
namespace Sys2Proof.Machine

/-! ### One byte -/

theorem Memory.get_set_ne (m : Memory) (a x : Nat) (b : Byte) (h : x ≠ a) : Memory.get (Memory.set m a b) x = Memory.get m x := by
  induction m with
  | nil => simp only [Memory.set]; split_ifs <;> simp [Memory.get, h]
  | cons c t ih =>
    obtain ⟨k, v⟩ := c
    simp only [Memory.set]
    split_ifs with h1 h2 h3 h4
    · rfl
    · simp [Memory.get, h]
    · subst h3; simp [Memory.get, h]
    · subst h3; simp [Memory.get, h]
    · by_cases hk : x = k <;> simp [Memory.get, hk, ih]

/-- An address below every listed one reads 0. -/
theorem Memory.get_below (m : Memory) (x : Nat) (h : ∀ c ∈ m, x < c.1) : Memory.get m x = 0 := by
  induction m with
  | nil => rfl
  | cons c t ih =>
    obtain ⟨k, v⟩ := c
    have hk : x < k := h (k, v) (by simp)
    simp [Memory.get, Nat.ne_of_lt hk, ih fun c hc => h c (by simp [hc])]

/-- The tail of a canonical memory is canonical, and its addresses are above the first. -/
theorem Memory.wf_cons (k : Nat) (v : Byte) (t : Memory) :
    Memory.wf ((k, v) :: t) ↔ (∀ c ∈ t, k < c.1) ∧ v ≠ 0 ∧ Memory.wf t := by
  simp only [Memory.wf, List.map_cons, List.pairwise_cons, List.mem_map, List.forall_mem_cons]
  constructor
  · rintro ⟨⟨h1, h2⟩, h3, h4⟩
    exact ⟨fun c hc => h1 _ ⟨c, hc, rfl⟩, h3, h2, h4⟩
  · rintro ⟨h1, h3, h2, h4⟩
    refine ⟨⟨?_, h2⟩, h3, h4⟩
    rintro _ ⟨c, hc, rfl⟩
    exact h1 c hc

theorem Memory.get_set_self (m : Memory) (a : Nat) (b : Byte) (h : Memory.wf m) : Memory.get (Memory.set m a b) a = b := by
  induction m with
  | nil => simp only [Memory.set]; split_ifs with hb <;> simp [Memory.get, hb]
  | cons c t ih =>
    obtain ⟨k, v⟩ := c
    obtain ⟨h1, h2, h3⟩ := (Memory.wf_cons k v t).1 h
    simp only [Memory.set]
    split_ifs with h4 h5 h6 h7
    · rw [h5]
      refine Memory.get_below _ _ fun c hc => ?_
      rcases List.mem_cons.1 hc with rfl | hc
      · exact h4
      · exact h4.trans (h1 c hc)
    · simp [Memory.get]
    · rw [h7, h6]; exact Memory.get_below _ _ h1
    · simp [Memory.get]
    · simp [Memory.get, h6, ih h3]

/-- Addresses listed after a write are the old ones and the one written. -/
theorem Memory.mem_set (m : Memory) (a : Nat) (b : Byte) (c : Host.Cell) (h : c ∈ Memory.set m a b) :
    c ∈ m ∨ (c = (a, b) ∧ b ≠ 0) := by
  induction m with
  | nil =>
    by_cases hb : b = 0
    · simp [Memory.set, hb] at h
    · simp only [Memory.set, hb, if_false, List.mem_singleton] at h
      exact .inr ⟨h, hb⟩
  | cons x t ih =>
    obtain ⟨k, v⟩ := x
    simp only [Memory.set] at h
    split_ifs at h with h1 h2 h3 h4
    · exact .inl h
    · rcases List.mem_cons.1 h with h | h
      · exact .inr ⟨h, h2⟩
      · exact .inl h
    · exact .inl (List.mem_cons_of_mem _ h)
    · rcases List.mem_cons.1 h with h | h
      · exact .inr ⟨h, h4⟩
      · exact .inl (List.mem_cons_of_mem _ h)
    · rcases List.mem_cons.1 h with h | h
      · exact .inl (h ▸ List.mem_cons_self)
      · rcases ih h with h | h
        · exact .inl (List.mem_cons_of_mem _ h)
        · exact .inr h

/-- Writing a byte keeps the canonical form. -/
theorem Memory.wf_set (m : Memory) (a : Nat) (b : Byte) (h : Memory.wf m) : Memory.wf (Memory.set m a b) := by
  induction m with
  | nil =>
    simp only [Memory.set]
    split_ifs with hb
    · exact ⟨by simp, by simp⟩
    · exact ⟨by simp, by simpa using hb⟩
  | cons x t ih =>
    obtain ⟨k, v⟩ := x
    obtain ⟨h1, h2, h3⟩ := (Memory.wf_cons k v t).1 h
    simp only [Memory.set]
    split_ifs with h4 h5 h6 h7
    · exact h
    · refine (Memory.wf_cons _ _ _).2 ⟨fun c hc => ?_, h5, h⟩
      rcases List.mem_cons.1 hc with rfl | hc
      · exact h4
      · exact h4.trans (h1 c hc)
    · exact h3
    · exact (Memory.wf_cons _ _ _).2 ⟨fun c hc => h6 ▸ h1 c hc, h7, h3⟩
    · refine (Memory.wf_cons _ _ _).2 ⟨fun c hc => ?_, h2, ih h3⟩
      rcases Memory.mem_set t a b c hc with hc | ⟨rfl, _⟩
      · exact h1 c hc
      · exact lt_of_le_of_ne (Nat.le_of_not_lt h4) fun e => h6 e.symm

/-! ### Several bytes -/

/-- Writing bytes keeps the canonical form. -/
theorem Memory.wf_write (m : Memory) (a : Nat) (bs : List Byte) (h : Memory.wf m) : Memory.wf (Memory.write m a bs) := by
  induction bs generalizing m a with
  | nil => exact h
  | cons b bs ih => exact ih _ _ (Memory.wf_set m a b h)

/-- A part of a canonical memory is canonical. -/
theorem Memory.wf_filter (m : Memory) (p : Host.Cell → Bool) (h : Memory.wf m) : Memory.wf (m.filter p) := by
  refine ⟨?_, fun c hc => h.2 c (List.mem_of_mem_filter hc)⟩
  exact List.Pairwise.sublist (List.Sublist.map _ List.filter_sublist) h.1

/-- Clearing a range keeps the canonical form. -/
theorem Memory.wf_clear (m : Memory) (a n : Nat) (h : Memory.wf m) : Memory.wf (Memory.clear m a n) := Memory.wf_filter m _ h

theorem Memory.wf_nil : Memory.wf ([] : Memory) := by simp [Memory.wf]

/-- A write leaves every byte outside its range. -/
theorem Memory.get_write_outside (m : Memory) (a : Nat) (bs : List Byte) (x : Nat) (h : x < a ∨ a + bs.length ≤ x) :
    Memory.get (Memory.write m a bs) x = Memory.get m x := by
  induction bs generalizing m a with
  | nil => rfl
  | cons b bs ih =>
    simp only [List.length_cons] at h
    rw [Memory.write, ih _ _ (by omega), Memory.get_set_ne _ _ _ _ (by omega)]

/-- A write is read back. -/
theorem Memory.get_write_inside (m : Memory) (a : Nat) (bs : List Byte) (i : Nat) (hw : Memory.wf m) (h : i < bs.length) :
    Memory.get (Memory.write m a bs) (a + i) = bs[i] := by
  induction bs generalizing m a i with
  | nil => simp at h
  | cons b bs ih =>
    cases i with
    | zero =>
      rw [Memory.write, Memory.get_write_outside _ _ _ _ (by omega)]
      exact Memory.get_set_self _ _ _ hw
    | succ i =>
      rw [Memory.write, show a + (i + 1) = a + 1 + i by omega]
      rw [ih _ _ _ (Memory.wf_set m a b hw) (by simpa using h)]
      rfl

@[simp] theorem Memory.length_read (m : Memory) (a n : Nat) : (Memory.read m a n).length = n := by
  induction n generalizing a with
  | zero => rfl
  | succ n ih => simp [Memory.read, ih]

/-- Byte i of a read. -/
theorem Memory.getElem_read (m : Memory) (a n i : Nat) (h : i < n) :
    (Memory.read m a n)[i]'(by simpa using h) = Memory.get m (a + i) := by
  induction n generalizing a i with
  | zero => omega
  | succ n ih =>
    cases i with
    | zero => rfl
    | succ i =>
      simp only [Memory.read, List.getElem_cons_succ]
      rw [ih (a + 1) i (by omega), show a + 1 + i = a + (i + 1) by omega]

/-- What was written is read. -/
theorem Memory.read_write (m : Memory) (a : Nat) (bs : List Byte) (hw : Memory.wf m) :
    Memory.read (Memory.write m a bs) a bs.length = bs := by
  apply List.ext_getElem (by simp)
  intro i h1 h2
  rw [Memory.getElem_read _ _ _ _ h2, Memory.get_write_inside _ _ _ _ hw h2]

/-! ### The operations of the machine on memory -/

/-- A change made entry by entry keeps what every single change keeps. -/
theorem foldl_keeps {α β : Type} (p : α → Prop) (f : α → β → α) (h : ∀ a b, p a → p (f a b)) (l : List β) (a : α) (ha : p a) :
    p (l.foldl f a) := by
  induction l generalizing a with
  | nil => exact ha
  | cons b l ih => exact ih _ (h a b ha)

theorem sumsOfEntry_wf (base : Nat) (old new : Memory) (e : TileEntry) (a n : Nat) (h : Memory.wf new) :
    Memory.wf (sumsOfEntry base old new e a n) := by
  unfold sumsOfEntry
  refine foldl_keeps Memory.wf _ (fun m i hm => ?_) _ _ h
  refine Memory.wf_write _ _ _ (Memory.wf_write _ _ _ ?_)
  exact foldl_keeps Memory.wf _ (fun m p hm => Memory.wf_write _ _ _ hm) _ _ hm

/-- A scratchpad write with its tile sums keeps the canonical form. -/
theorem spadWrite_wf (m : Memory) (base a : Nat) (bs : List Byte) (ents : List TileEntry) (h : Memory.wf m) :
    Memory.wf (spadWrite m base a bs ents) := by
  unfold spadWrite
  exact foldl_keeps Memory.wf _ (fun acc e hacc => sumsOfEntry_wf base m acc e a _ hacc) _ _ (Memory.wf_write _ _ _ h)

/-- A withheld store applied to memory keeps the canonical form. -/
theorem applyStore_wf (core : Nat) (m : Memory) (st : Store) (h : Memory.wf m) : Memory.wf (applyStore core m st) := by
  unfold applyStore
  cases st.space
  · exact spadWrite_wf _ _ _ _ _ h
  · exact h

theorem engineSpadWrite_wf (s : State) (core a : Nat) (bs : List Byte) (h : Memory.wf s.mem) :
    Memory.wf (s.engineSpadWrite core a bs).mem := spadWrite_wf _ _ _ _ _ h

theorem lineAs_mem (s : State) (m : Memory) (a : Nat) (bs : List Byte) : (s.lineAs m a bs).2.2.mem = s.mem := by
  unfold State.lineAs
  split_ifs <;> rfl

theorem lineWrite_mem (s : State) (d a : Nat) (bs : List Byte) : (s.lineWrite d a bs).mem = s.mem := lineAs_mem _ _ _ _

/-- A die's write of HBM changes no byte of the module's own copy: the home stack performs it later (R399). -/
theorem hbmWrite_mem (s : State) (d a : Nat) (bs : List Byte) : (s.hbmWrite d a bs).mem = s.mem := by
  unfold State.hbmWrite
  exact foldl_keeps (fun t : State => t.mem = s.mem) _ (fun t p ht => (lineWrite_mem t d p.1 p.2).trans ht) _ _ rfl

theorem devWrite_wf (s : State) (d da : Nat) (bs : List Byte) (h : Memory.wf s.mem) : Memory.wf (s.devWrite d da bs).mem := by
  unfold State.devWrite
  split
  · rw [hbmWrite_mem]; exact h
  · exact engineSpadWrite_wf _ _ _ _ h
  · exact Memory.wf_write _ _ _ h
  · exact h

theorem homeWrite_wf (s : State) (own : Nat) (clk : List Nat) (a : Nat) (bs : List Byte) (h : Memory.wf s.mem) :
    Memory.wf (s.homeWrite own clk a bs).2.mem := Memory.wf_write _ _ _ h

theorem sysLine_wf (s : State) (a : Nat) (bs : List Byte) (h : Memory.wf s.mem) : Memory.wf (s.sysLine a bs).mem := by
  simp only [State.sysLine, State.ueClear_mem]
  exact Memory.wf_write _ _ _ ((lineAs_mem s s.mem a bs).symm ▸ h)

theorem sysWrite_wf (s : State) (da : Nat) (bs : List Byte) (h : Memory.wf s.mem) : Memory.wf (s.sysWrite da bs).mem := by
  unfold State.sysWrite
  split
  · exact foldl_keeps (fun t : State => Memory.wf t.mem) _ (fun t p ht => sysLine_wf t p.1 p.2 ht) _ _ h
  · exact devWrite_wf _ _ _ _ h

theorem sysPlotWrite_wf (s t : State) (d plot va : Nat) (bs : List Byte) (h : Memory.wf s.mem)
    (ht : s.sysPlotWrite d plot va bs = some t) : Memory.wf t.mem := by
  unfold State.sysPlotWrite at ht
  cases hw : s.walkRange d plot false true va bs.length with
  | none => simp [hw] at ht
  | some l =>
    simp only [hw, Option.map_some, Option.some.injEq] at ht
    subst ht
    exact foldl_keeps (fun x : State × List Byte => Memory.wf x.1.mem) _ (fun x p hx => sysWrite_wf _ _ _ hx) _ _ h

theorem writePieces_mem (s : State) (d : Nat) (l : List (Nat × Nat)) (bs : List Byte) : (s.writePieces d l bs).mem = s.mem := by
  induction l generalizing s bs with
  | nil => rfl
  | cons p l ih => obtain ⟨a, n⟩ := p; rw [State.writePieces, ih, hbmWrite_mem]

/-- Memory after a cold start is canonical. -/
theorem reset_mem_wf : Memory.wf State.reset.mem := Memory.wf_nil

end Sys2Proof.Machine
end

