-- ==== Sys2Proof/Laws/PerInstr.lean ====
section
/-!
SUPPORT. Family Sized: the encoding of a well-formed instruction fits the bits of its slot (R57, R66 to R80), constructor by constructor;
a machine step has no slot and no encoding.
-/
namespace Sys2Proof.Laws.Sized

/-- The word of a well-formed instruction fits its slot. -/
def Statement (i : Instr) : Prop := i.wellFormed = true → ∀ k, i.slotClass = some k → encode i < 2 ^ k.bits

theorem bnop : Statement (.bnop) := fun _ k h => by cases h; exact eB0_lt (by decide)
theorem b (cr : GReg) (cb : BitNo) (cs : Bool) (off : Off15) : Statement (.b cr cb cs off) := fun _ k h => by cases h; exact eBC_lt (by decide) _ _ _ _
theorem bA (cr : GReg) (cb : BitNo) (cs : Bool) (off : Off15) : Statement (.bA cr cb cs off) := fun _ k h => by cases h; exact eBC_lt (by decide) _ _ _ _
theorem br (cr : GReg) (cb : BitNo) (cs : Bool) (tr : GReg) : Statement (.br cr cb cs tr) := fun _ k h => by cases h; exact eBCR_lt (by decide) _ _ _ _
theorem brA (cr : GReg) (cb : BitNo) (cs : Bool) (tr : GReg) : Statement (.brA cr cb cs tr) := fun _ k h => by cases h; exact eBCR_lt (by decide) _ _ _ _
theorem call (lr : GReg) (off : Off15) : Statement (.call lr off) := fun _ k h => by cases h; exact eBCALL_lt (by decide) _ _
theorem callr (lr : GReg) (tr : GReg) : Statement (.callr lr tr) := fun _ k h => by cases h; exact eBCALLR_lt (by decide) _ _
theorem bvu (vr : VReg) (cs : Bool) (off : Off15) : Statement (.bvu vr cs off) := fun _ k h => by cases h; exact eBV_lt (by decide) _ _ _
theorem bvuA (vr : VReg) (cs : Bool) (off : Off15) : Statement (.bvuA vr cs off) := fun _ k h => by cases h; exact eBV_lt (by decide) _ _ _
theorem loop (tg : GReg) (off : Off15) : Statement (.loop tg off) := fun _ k h => by cases h; exact eBLOOP_lt (by decide) _ _
theorem loopi (trip : Trip) (off : Off15) : Statement (.loopi trip off) := fun _ k h => by cases h; exact eBLOOPI_lt (by decide) _ _
theorem loopm (tg : GReg) (ii : Ii) (sc : Sc) : Statement (.loopm tg ii sc) := fun _ k h => by cases h; exact eBLOOPM_lt (by decide) _ _ _
theorem loopmi (trip : Trip) (ii : Ii) (sc : Sc) : Statement (.loopmi trip ii sc) := fun _ k h => by cases h; exact eBLOOPMI_lt (by decide) _ _ _
theorem lexit (cr : GReg) (cb : BitNo) (cs : Bool) : Statement (.lexit cr cb cs) := fun _ k h => by cases h; exact eBLX_lt (by decide) _ _ _
theorem exit : Statement (.exit) := fun _ k h => by cases h; exact eB0_lt (by decide)
theorem trap (code : Imm16) : Statement (.trap code) := fun _ k h => by cases h; exact eBTRAP_lt (by decide) _
theorem snop : Statement (.snop) := fun _ k h => by cases h; exact eSNOP_lt (by decide)
theorem add (g : Guard) (d : Dst) (a : Src) (b : Src) : Statement (.add g d a b) := fun _ k h => by cases h; exact eS2_lt (by decide) _ _ _ _
theorem sub (g : Guard) (d : Dst) (a : Src) (b : Src) : Statement (.sub g d a b) := fun _ k h => by cases h; exact eS2_lt (by decide) _ _ _ _
theorem adds (g : Guard) (d : Dst) (a : Src) (b : Src) : Statement (.adds g d a b) := fun _ k h => by cases h; exact eS2_lt (by decide) _ _ _ _
theorem subs (g : Guard) (d : Dst) (a : Src) (b : Src) : Statement (.subs g d a b) := fun _ k h => by cases h; exact eS2_lt (by decide) _ _ _ _
theorem addus (g : Guard) (d : Dst) (a : Src) (b : Src) : Statement (.addus g d a b) := fun _ k h => by cases h; exact eS2_lt (by decide) _ _ _ _
theorem subus (g : Guard) (d : Dst) (a : Src) (b : Src) : Statement (.subus g d a b) := fun _ k h => by cases h; exact eS2_lt (by decide) _ _ _ _
theorem adc (g : Guard) (d : GReg) (a : GReg) (b : GReg) (cy : CarryReg) (p : BitNo) (z : Bool) : Statement (.adc g d a b cy p z) := fun _ k h => by cases h; exact eSCAR_lt (by decide) _ _ _ _ _ _ _
theorem sbc (g : Guard) (d : GReg) (a : GReg) (b : GReg) (cy : CarryReg) (p : BitNo) (z : Bool) : Statement (.sbc g d a b cy p z) := fun _ k h => by cases h; exact eSCAR_lt (by decide) _ _ _ _ _ _ _
theorem mul (g : Guard) (d : Dst) (a : Src) (b : Src) : Statement (.mul g d a b) := fun _ k h => by cases h; exact eS2_lt (by decide) _ _ _ _
theorem mulh (g : Guard) (d : Dst) (a : Src) (b : Src) : Statement (.mulh g d a b) := fun _ k h => by cases h; exact eS2_lt (by decide) _ _ _ _
theorem mulhu (g : Guard) (d : Dst) (a : Src) (b : Src) : Statement (.mulhu g d a b) := fun _ k h => by cases h; exact eS2_lt (by decide) _ _ _ _
theorem madc (g : Guard) (d : GReg) (a : GReg) (b : GReg) (cy : CarryReg) (p : BitNo) (z : Bool) : Statement (.madc g d a b cy p z) := fun _ k h => by cases h; exact eSMADC_lt (by decide) _ _ _ _ _ _ _
theorem div (g : Guard) (d : Dst) (a : Src) (b : Src) : Statement (.div g d a b) := fun _ k h => by cases h; exact eS2_lt (by decide) _ _ _ _
theorem divu (g : Guard) (d : Dst) (a : Src) (b : Src) : Statement (.divu g d a b) := fun _ k h => by cases h; exact eS2_lt (by decide) _ _ _ _
theorem rem (g : Guard) (d : Dst) (a : Src) (b : Src) : Statement (.rem g d a b) := fun _ k h => by cases h; exact eS2_lt (by decide) _ _ _ _
theorem remu (g : Guard) (d : Dst) (a : Src) (b : Src) : Statement (.remu g d a b) := fun _ k h => by cases h; exact eS2_lt (by decide) _ _ _ _
theorem and (g : Guard) (d : Dst) (a : Src) (b : Src) : Statement (.and g d a b) := fun _ k h => by cases h; exact eS2_lt (by decide) _ _ _ _
theorem or (g : Guard) (d : Dst) (a : Src) (b : Src) : Statement (.or g d a b) := fun _ k h => by cases h; exact eS2_lt (by decide) _ _ _ _
theorem xor (g : Guard) (d : Dst) (a : Src) (b : Src) : Statement (.xor g d a b) := fun _ k h => by cases h; exact eS2_lt (by decide) _ _ _ _
theorem andn (g : Guard) (d : Dst) (a : Src) (b : Src) : Statement (.andn g d a b) := fun _ k h => by cases h; exact eS2_lt (by decide) _ _ _ _
theorem orn (g : Guard) (d : Dst) (a : Src) (b : Src) : Statement (.orn g d a b) := fun _ k h => by cases h; exact eS2_lt (by decide) _ _ _ _
theorem shl (g : Guard) (d : Dst) (a : Src) (b : Src) : Statement (.shl g d a b) := fun _ k h => by cases h; exact eS2_lt (by decide) _ _ _ _
theorem shr (g : Guard) (d : Dst) (a : Src) (b : Src) : Statement (.shr g d a b) := fun _ k h => by cases h; exact eS2_lt (by decide) _ _ _ _
theorem sra (g : Guard) (d : Dst) (a : Src) (b : Src) : Statement (.sra g d a b) := fun _ k h => by cases h; exact eS2_lt (by decide) _ _ _ _
theorem rol (g : Guard) (d : Dst) (a : Src) (b : Src) : Statement (.rol g d a b) := fun _ k h => by cases h; exact eS2_lt (by decide) _ _ _ _
theorem clz (g : Guard) (d : Dst) (a : Src) : Statement (.clz g d a) := fun _ k h => by cases h; exact eS1_lt (by decide) _ _ _
theorem ctz (g : Guard) (d : Dst) (a : Src) : Statement (.ctz g d a) := fun _ k h => by cases h; exact eS1_lt (by decide) _ _ _
theorem popc (g : Guard) (d : Dst) (a : Src) : Statement (.popc g d a) := fun _ k h => by cases h; exact eS1_lt (by decide) _ _ _
theorem bext (g : Guard) (d : Dst) (a : Src) (b : Src) (f : BitNo) : Statement (.bext g d a b f) := fun _ k h => by cases h; exact eSBEXT_lt (by decide) _ _ _ _ _
theorem bins (g : Guard) (d : GReg) (a : Src) (b : Src) (f : BitNo) : Statement (.bins g d a b f) := fun _ k h => by cases h; exact eSBINS_lt (by decide) _ _ _ _ _
theorem sext (g : Guard) (d : Dst) (a : Src) (f : BitNo) : Statement (.sext g d a f) := fun _ k h => by cases h; exact eSEXF_lt (by decide) _ _ _ _
theorem zext (g : Guard) (d : Dst) (a : Src) (f : BitNo) : Statement (.zext g d a f) := fun _ k h => by cases h; exact eSEXF_lt (by decide) _ _ _ _
theorem cmpeq (g : Guard) (d : GReg) (n : BitNo) (a : Src) (b : Src) : Statement (.cmpeq g d n a b) := fun _ k h => by cases h; exact eSCMP_lt (by decide) _ _ _ _ _
theorem cmpne (g : Guard) (d : GReg) (n : BitNo) (a : Src) (b : Src) : Statement (.cmpne g d n a b) := fun _ k h => by cases h; exact eSCMP_lt (by decide) _ _ _ _ _
theorem cmplt (g : Guard) (d : GReg) (n : BitNo) (a : Src) (b : Src) : Statement (.cmplt g d n a b) := fun _ k h => by cases h; exact eSCMP_lt (by decide) _ _ _ _ _
theorem cmple (g : Guard) (d : GReg) (n : BitNo) (a : Src) (b : Src) : Statement (.cmple g d n a b) := fun _ k h => by cases h; exact eSCMP_lt (by decide) _ _ _ _ _
theorem cmpltu (g : Guard) (d : GReg) (n : BitNo) (a : Src) (b : Src) : Statement (.cmpltu g d n a b) := fun _ k h => by cases h; exact eSCMP_lt (by decide) _ _ _ _ _
theorem cmpleu (g : Guard) (d : GReg) (n : BitNo) (a : Src) (b : Src) : Statement (.cmpleu g d n a b) := fun _ k h => by cases h; exact eSCMP_lt (by decide) _ _ _ _ _
theorem min (g : Guard) (d : Dst) (a : Src) (b : Src) : Statement (.min g d a b) := fun _ k h => by cases h; exact eS2_lt (by decide) _ _ _ _
theorem max (g : Guard) (d : Dst) (a : Src) (b : Src) : Statement (.max g d a b) := fun _ k h => by cases h; exact eS2_lt (by decide) _ _ _ _
theorem minu (g : Guard) (d : Dst) (a : Src) (b : Src) : Statement (.minu g d a b) := fun _ k h => by cases h; exact eS2_lt (by decide) _ _ _ _
theorem maxu (g : Guard) (d : Dst) (a : Src) (b : Src) : Statement (.maxu g d a b) := fun _ k h => by cases h; exact eS2_lt (by decide) _ _ _ _
theorem movi (g : Guard) (d : Dst) (imm : Imm21) : Statement (.movi g d imm) := fun _ k h => by cases h; exact eSMOVI_lt (by decide) _ _ _
theorem movk (g : Guard) (d : GReg) (hw : Code4) (imm : Imm16) : Statement (.movk g d hw imm) := fun w k h => by
  cases h; exact eSMOVK_lt (by decide) _ _ _ _ (by simpa [Instr.wellFormed] using w)
theorem mfs (g : Guard) (d : Dst) (csr : CsrNo) : Statement (.mfs g d csr) := fun _ k h => by cases h; exact eSMFS_lt (by decide) _ _ _
theorem mts (g : Guard) (a : Src) (csr : CsrNo) : Statement (.mts g a csr) := fun _ k h => by cases h; exact eSMTS_lt (by decide) _ _ _
theorem movb (g : Guard) (d : GReg) (n : BitNo) (inv : Bool) (a : Src) (bit : BitNo) : Statement (.movb g d n inv a bit) := fun _ k h => by cases h; exact eSMOVB_lt (by decide) _ _ _ _ _ _
theorem fadd (g : Guard) (d : Dst) (a : Src) (b : Src) (r : Rnd) : Statement (.fadd g d a b r) := fun _ k h => by cases h; exact eSF2_lt (by decide) _ _ _ _ _
theorem fsub (g : Guard) (d : Dst) (a : Src) (b : Src) (r : Rnd) : Statement (.fsub g d a b r) := fun _ k h => by cases h; exact eSF2_lt (by decide) _ _ _ _ _
theorem fmul (g : Guard) (d : Dst) (a : Src) (b : Src) (r : Rnd) : Statement (.fmul g d a b r) := fun _ k h => by cases h; exact eSF2_lt (by decide) _ _ _ _ _
theorem fma (g : Guard) (d : GReg) (a : Src) (b : Src) (r : Rnd) : Statement (.fma g d a b r) := fun _ k h => by cases h; exact eSFMA_lt (by decide) _ _ _ _ _
theorem fmin (g : Guard) (d : Dst) (a : Src) (b : Src) (r : Rnd) : Statement (.fmin g d a b r) := fun _ k h => by cases h; exact eSF2_lt (by decide) _ _ _ _ _
theorem fmax (g : Guard) (d : Dst) (a : Src) (b : Src) (r : Rnd) : Statement (.fmax g d a b r) := fun _ k h => by cases h; exact eSF2_lt (by decide) _ _ _ _ _
theorem fminnum (g : Guard) (d : Dst) (a : Src) (b : Src) (r : Rnd) : Statement (.fminnum g d a b r) := fun _ k h => by cases h; exact eSF2_lt (by decide) _ _ _ _ _
theorem fmaxnum (g : Guard) (d : Dst) (a : Src) (b : Src) (r : Rnd) : Statement (.fmaxnum g d a b r) := fun _ k h => by cases h; exact eSF2_lt (by decide) _ _ _ _ _
theorem fcmpeq (g : Guard) (d : GReg) (n : BitNo) (a : Src) (b : Src) : Statement (.fcmpeq g d n a b) := fun _ k h => by cases h; exact eSCMP_lt (by decide) _ _ _ _ _
theorem fcmplt (g : Guard) (d : GReg) (n : BitNo) (a : Src) (b : Src) : Statement (.fcmplt g d n a b) := fun _ k h => by cases h; exact eSCMP_lt (by decide) _ _ _ _ _
theorem fcmple (g : Guard) (d : GReg) (n : BitNo) (a : Src) (b : Src) : Statement (.fcmple g d n a b) := fun _ k h => by cases h; exact eSCMP_lt (by decide) _ _ _ _ _
theorem fcmpun (g : Guard) (d : GReg) (n : BitNo) (a : Src) (b : Src) : Statement (.fcmpun g d n a b) := fun _ k h => by cases h; exact eSCMP_lt (by decide) _ _ _ _ _
theorem fcvtif (g : Guard) (d : Dst) (a : Src) (r : Rnd) : Statement (.fcvtif g d a r) := fun _ k h => by cases h; exact eSF1_lt (by decide) _ _ _ _
theorem fcvtfi (g : Guard) (d : Dst) (a : Src) (r : Rnd) : Statement (.fcvtfi g d a r) := fun _ k h => by cases h; exact eSF1_lt (by decide) _ _ _ _
theorem fcvtf (g : Guard) (d : Dst) (a : Src) (k : Code4) (r : Rnd) : Statement (.fcvtf g d a k r) := fun _ k h => by cases h; exact eSFCVTF_lt (by decide) _ _ _ _ _
theorem fclass (g : Guard) (d : Dst) (a : Src) : Statement (.fclass g d a) := fun _ k h => by cases h; exact eS1_lt (by decide) _ _ _
theorem anop : Statement (.anop) := fun _ k h => by cases h; exact eANOP_lt (by decide)
theorem lds (g : Guard) (d : Dst) (a : AReg) (m : AMode) : Statement (.lds g d a m) := fun _ k h => by cases h; exact eALD_lt (by decide) _ _ _ _
theorem ldw (g : Guard) (d : Dst) (a : AReg) (m : AMode) : Statement (.ldw g d a m) := fun _ k h => by cases h; exact eALD_lt (by decide) _ _ _ _
theorem ldwu (g : Guard) (d : Dst) (a : AReg) (m : AMode) : Statement (.ldwu g d a m) := fun _ k h => by cases h; exact eALD_lt (by decide) _ _ _ _
theorem ldh (g : Guard) (d : Dst) (a : AReg) (m : AMode) : Statement (.ldh g d a m) := fun _ k h => by cases h; exact eALD_lt (by decide) _ _ _ _
theorem ldhu (g : Guard) (d : Dst) (a : AReg) (m : AMode) : Statement (.ldhu g d a m) := fun _ k h => by cases h; exact eALD_lt (by decide) _ _ _ _
theorem ldb (g : Guard) (d : Dst) (a : AReg) (m : AMode) : Statement (.ldb g d a m) := fun _ k h => by cases h; exact eALD_lt (by decide) _ _ _ _
theorem ldbu (g : Guard) (d : Dst) (a : AReg) (m : AMode) : Statement (.ldbu g d a m) := fun _ k h => by cases h; exact eALD_lt (by decide) _ _ _ _
theorem sts (g : Guard) (x : Src) (a : AReg) (m : AMode) : Statement (.sts g x a m) := fun _ k h => by cases h; exact eAST_lt (by decide) _ _ _ _
theorem stw (g : Guard) (x : Src) (a : AReg) (m : AMode) : Statement (.stw g x a m) := fun _ k h => by cases h; exact eAST_lt (by decide) _ _ _ _
theorem sth (g : Guard) (x : Src) (a : AReg) (m : AMode) : Statement (.sth g x a m) := fun _ k h => by cases h; exact eAST_lt (by decide) _ _ _ _
theorem stb (g : Guard) (x : Src) (a : AReg) (m : AMode) : Statement (.stb g x a m) := fun _ k h => by cases h; exact eAST_lt (by decide) _ _ _ _
theorem ldv (g : Guard) (v : VReg) (a : AReg) (m : AMode) : Statement (.ldv g v a m) := fun _ k h => by cases h; exact eAVL_lt (by decide) _ _ _ _
theorem stv (g : Guard) (v : VReg) (a : AReg) (m : AMode) : Statement (.stv g v a m) := fun _ k h => by cases h; exact eAVS_lt (by decide) _ _ _ _
theorem wlds (g : Guard) (d : Dst) (a : AReg) (m : AMode) : Statement (.wlds g d a m) := fun _ k h => by cases h; exact eALD_lt (by decide) _ _ _ _
theorem wldv (g : Guard) (v : VReg) (a : AReg) (m : AMode) : Statement (.wldv g v a m) := fun _ k h => by cases h; exact eAVL_lt (by decide) _ _ _ _
theorem aadd (g : Guard) (a : AReg) (x : Src) : Statement (.aadd g a x) := fun _ k h => by cases h; exact eAAX_lt (by decide) _ _ _
theorem amov (g : Guard) (a : AReg) (x : Src) : Statement (.amov g a x) := fun _ k h => by cases h; exact eAAX_lt (by decide) _ _ _
theorem aget (g : Guard) (d : Dst) (a : AReg) : Statement (.aget g d a) := fun _ k h => by cases h; exact eAGETS_lt (by decide) _ _ _
theorem mset (g : Guard) (m : MReg) (x : Src) : Statement (.mset g m x) := fun _ k h => by cases h; exact eAMSET_lt (by decide) _ _ _
theorem mget (g : Guard) (d : Dst) (m : MReg) : Statement (.mget g d m) := fun _ k h => by cases h; exact eAMGET_lt (by decide) _ _ _
theorem lea (g : Guard) (d : Dst) (a : AReg) (m : AMode) : Statement (.lea g d a m) := fun _ k h => by cases h; exact eALD_lt (by decide) _ _ _ _
theorem acmplt (g : Guard) (d : GReg) (n : BitNo) (a : AReg) : Statement (.acmplt g d n a) := fun _ k h => by cases h; exact eACMP_lt (by decide) _ _ _ _
theorem clrv (g : Guard) (a : AReg) (m : AMode) : Statement (.clrv g a m) := fun _ k h => by cases h; exact eACLR_lt (by decide) _ _ _
theorem vnop : Statement (.vnop) := fun _ k h => by cases h; exact eVNOP_lt (by decide)
theorem vmov (g : Guard) (d : VDst) (a : VSrc) : Statement (.vmov g d a) := fun _ k h => by cases h; exact eV1_lt (by decide) _ _ _
theorem vadd (g : Guard) (d : VDst) (a : VSrc) (b : VSrc) : Statement (.vadd g d a b) := fun _ k h => by cases h; exact eV2_lt (by decide) _ _ _ _
theorem vsub (g : Guard) (d : VDst) (a : VSrc) (b : VSrc) : Statement (.vsub g d a b) := fun _ k h => by cases h; exact eV2_lt (by decide) _ _ _ _
theorem vadds (g : Guard) (d : VDst) (a : VSrc) (b : VSrc) : Statement (.vadds g d a b) := fun _ k h => by cases h; exact eV2_lt (by decide) _ _ _ _
theorem vsubs (g : Guard) (d : VDst) (a : VSrc) (b : VSrc) : Statement (.vsubs g d a b) := fun _ k h => by cases h; exact eV2_lt (by decide) _ _ _ _
theorem vaddus (g : Guard) (d : VDst) (a : VSrc) (b : VSrc) : Statement (.vaddus g d a b) := fun _ k h => by cases h; exact eV2_lt (by decide) _ _ _ _
theorem vsubus (g : Guard) (d : VDst) (a : VSrc) (b : VSrc) : Statement (.vsubus g d a b) := fun _ k h => by cases h; exact eV2_lt (by decide) _ _ _ _
theorem vmul (g : Guard) (d : VDst) (a : VSrc) (b : VSrc) (sat : Bool) : Statement (.vmul g d a b sat) := fun _ k h => by cases h; exact eV2S_lt (by decide) _ _ _ _ _
theorem vmulh (g : Guard) (d : VDst) (a : VSrc) (b : VSrc) : Statement (.vmulh g d a b) := fun _ k h => by cases h; exact eV2_lt (by decide) _ _ _ _
theorem vmulhu (g : Guard) (d : VDst) (a : VSrc) (b : VSrc) : Statement (.vmulhu g d a b) := fun _ k h => by cases h; exact eV2_lt (by decide) _ _ _ _
theorem vmulw (g : Guard) (d : VDst) (a : VSrc) (b : VSrc) (h : Bool) (u : Bool) : Statement (.vmulw g d a b h u) := fun _ k h => by cases h; exact eVMULWS_lt (by decide) _ _ _ _ _ _
theorem vmacw (g : Guard) (d : VReg) (a : VSrc) (b : VSrc) (h : Bool) (u : Bool) (sat : Bool) : Statement (.vmacw g d a b h u sat) := fun _ k h => by cases h; exact eVMACWS_lt (by decide) _ _ _ _ _ _ _
theorem vdot4 (g : Guard) (d : VReg) (a : VSrc) (b : VSrc) (h : Bool) (u : Bool) (sat : Bool) : Statement (.vdot4 g d a b h u sat) := fun _ k h => by cases h; exact eVMACWS_lt (by decide) _ _ _ _ _ _ _
theorem vmadc (g : Guard) (d : VReg) (a : VSrc) (b : VSrc) (cy : VReg) (z : Bool) : Statement (.vmadc g d a b cy z) := fun _ k h => by cases h; exact eVMADCS_lt (by decide) _ _ _ _ _ _
theorem vadc (g : Guard) (d : VDst) (a : VSrc) (b : VSrc) (cy : VReg) (z : Bool) : Statement (.vadc g d a b cy z) := fun _ k h => by cases h; exact eVCAR_lt (by decide) _ _ _ _ _ _
theorem vsbc (g : Guard) (d : VDst) (a : VSrc) (b : VSrc) (cy : VReg) (z : Bool) : Statement (.vsbc g d a b cy z) := fun _ k h => by cases h; exact eVCAR_lt (by decide) _ _ _ _ _ _
theorem vabs (g : Guard) (d : VDst) (a : VSrc) (sat : Bool) : Statement (.vabs g d a sat) := fun _ k h => by cases h; exact eV1S_lt (by decide) _ _ _ _
theorem vneg (g : Guard) (d : VDst) (a : VSrc) (sat : Bool) : Statement (.vneg g d a sat) := fun _ k h => by cases h; exact eV1S_lt (by decide) _ _ _ _
theorem vmini (g : Guard) (d : VDst) (a : VSrc) (b : VSrc) : Statement (.vmini g d a b) := fun _ k h => by cases h; exact eV2_lt (by decide) _ _ _ _
theorem vmaxi (g : Guard) (d : VDst) (a : VSrc) (b : VSrc) : Statement (.vmaxi g d a b) := fun _ k h => by cases h; exact eV2_lt (by decide) _ _ _ _
theorem vminu (g : Guard) (d : VDst) (a : VSrc) (b : VSrc) : Statement (.vminu g d a b) := fun _ k h => by cases h; exact eV2_lt (by decide) _ _ _ _
theorem vmaxu (g : Guard) (d : VDst) (a : VSrc) (b : VSrc) : Statement (.vmaxu g d a b) := fun _ k h => by cases h; exact eV2_lt (by decide) _ _ _ _
theorem vclamp (g : Guard) (d : VDst) (a : VSrc) (b : VSrc) : Statement (.vclamp g d a b) := fun _ k h => by cases h; exact eV2_lt (by decide) _ _ _ _
theorem vavg (g : Guard) (d : VDst) (a : VSrc) (b : VSrc) : Statement (.vavg g d a b) := fun _ k h => by cases h; exact eV2_lt (by decide) _ _ _ _
theorem vavgu (g : Guard) (d : VDst) (a : VSrc) (b : VSrc) : Statement (.vavgu g d a b) := fun _ k h => by cases h; exact eV2_lt (by decide) _ _ _ _
theorem vabd (g : Guard) (d : VDst) (a : VSrc) (b : VSrc) : Statement (.vabd g d a b) := fun _ k h => by cases h; exact eV2_lt (by decide) _ _ _ _
theorem vabdu (g : Guard) (d : VDst) (a : VSrc) (b : VSrc) : Statement (.vabdu g d a b) := fun _ k h => by cases h; exact eV2_lt (by decide) _ _ _ _
theorem vand (g : Guard) (d : VDst) (a : VSrc) (b : VSrc) : Statement (.vand g d a b) := fun _ k h => by cases h; exact eV2_lt (by decide) _ _ _ _
theorem vor (g : Guard) (d : VDst) (a : VSrc) (b : VSrc) : Statement (.vor g d a b) := fun _ k h => by cases h; exact eV2_lt (by decide) _ _ _ _
theorem vxor (g : Guard) (d : VDst) (a : VSrc) (b : VSrc) : Statement (.vxor g d a b) := fun _ k h => by cases h; exact eV2_lt (by decide) _ _ _ _
theorem vandn (g : Guard) (d : VDst) (a : VSrc) (b : VSrc) : Statement (.vandn g d a b) := fun _ k h => by cases h; exact eV2_lt (by decide) _ _ _ _
theorem vbitsel (g : Guard) (d : VReg) (a : VSrc) (b : VSrc) : Statement (.vbitsel g d a b) := fun _ k h => by cases h; exact eV3_lt (by decide) _ _ _ _
theorem vshl (g : Guard) (d : VDst) (a : VSrc) (b : VSrc) (sat : Bool) : Statement (.vshl g d a b sat) := fun _ k h => by cases h; exact eV2S_lt (by decide) _ _ _ _ _
theorem vshr (g : Guard) (d : VDst) (a : VSrc) (b : VSrc) : Statement (.vshr g d a b) := fun _ k h => by cases h; exact eV2_lt (by decide) _ _ _ _
theorem vsra (g : Guard) (d : VDst) (a : VSrc) (b : VSrc) : Statement (.vsra g d a b) := fun _ k h => by cases h; exact eV2_lt (by decide) _ _ _ _
theorem vrol (g : Guard) (d : VDst) (a : VSrc) (b : VSrc) : Statement (.vrol g d a b) := fun _ k h => by cases h; exact eV2_lt (by decide) _ _ _ _
theorem vclz (g : Guard) (d : VDst) (a : VSrc) : Statement (.vclz g d a) := fun _ k h => by cases h; exact eV1_lt (by decide) _ _ _
theorem vpopc (g : Guard) (d : VDst) (a : VSrc) : Statement (.vpopc g d a) := fun _ k h => by cases h; exact eV1_lt (by decide) _ _ _
theorem vbext (g : Guard) (d : VDst) (a : VSrc) (b : VSrc) (f : BitNo) : Statement (.vbext g d a b f) := fun _ k h => by cases h; exact eVBEXTS_lt (by decide) _ _ _ _ _
theorem vbins (g : Guard) (d : VReg) (a : VSrc) (b : VSrc) (f : BitNo) : Statement (.vbins g d a b f) := fun _ k h => by cases h; exact eVBINSS_lt (by decide) _ _ _ _ _
theorem vsext (g : Guard) (d : VDst) (a : VSrc) (f : BitNo) : Statement (.vsext g d a f) := fun _ k h => by cases h; exact eVEXF_lt (by decide) _ _ _ _
theorem vzext (g : Guard) (d : VDst) (a : VSrc) (f : BitNo) : Statement (.vzext g d a f) := fun _ k h => by cases h; exact eVEXF_lt (by decide) _ _ _ _
theorem vrev (g : Guard) (d : VDst) (a : VSrc) : Statement (.vrev g d a) := fun _ k h => by cases h; exact eV1_lt (by decide) _ _ _
theorem vbswap (g : Guard) (d : VDst) (a : VSrc) : Statement (.vbswap g d a) := fun _ k h => by cases h; exact eV1_lt (by decide) _ _ _
theorem vcmpeq (g : Guard) (d : VDst) (a : VSrc) (b : VSrc) : Statement (.vcmpeq g d a b) := fun _ k h => by cases h; exact eV2_lt (by decide) _ _ _ _
theorem vcmpne (g : Guard) (d : VDst) (a : VSrc) (b : VSrc) : Statement (.vcmpne g d a b) := fun _ k h => by cases h; exact eV2_lt (by decide) _ _ _ _
theorem vcmplt (g : Guard) (d : VDst) (a : VSrc) (b : VSrc) : Statement (.vcmplt g d a b) := fun _ k h => by cases h; exact eV2_lt (by decide) _ _ _ _
theorem vcmple (g : Guard) (d : VDst) (a : VSrc) (b : VSrc) : Statement (.vcmple g d a b) := fun _ k h => by cases h; exact eV2_lt (by decide) _ _ _ _
theorem vcmpltu (g : Guard) (d : VDst) (a : VSrc) (b : VSrc) : Statement (.vcmpltu g d a b) := fun _ k h => by cases h; exact eV2_lt (by decide) _ _ _ _
theorem vcmpleu (g : Guard) (d : VDst) (a : VSrc) (b : VSrc) : Statement (.vcmpleu g d a b) := fun _ k h => by cases h; exact eV2_lt (by decide) _ _ _ _
theorem vsel (g : Guard) (d : VReg) (a : VSrc) (b : VSrc) : Statement (.vsel g d a b) := fun _ k h => by cases h; exact eV3_lt (by decide) _ _ _ _
theorem vfadd (g : Guard) (d : VDst) (a : VSrc) (b : VSrc) (r : Rnd) : Statement (.vfadd g d a b r) := fun _ k h => by cases h; exact eVF2_lt (by decide) _ _ _ _ _
theorem vfsub (g : Guard) (d : VDst) (a : VSrc) (b : VSrc) (r : Rnd) : Statement (.vfsub g d a b r) := fun _ k h => by cases h; exact eVF2_lt (by decide) _ _ _ _ _
theorem vfmul (g : Guard) (d : VDst) (a : VSrc) (b : VSrc) (r : Rnd) : Statement (.vfmul g d a b r) := fun _ k h => by cases h; exact eVF2_lt (by decide) _ _ _ _ _
theorem vfma (g : Guard) (d : VReg) (a : VSrc) (b : VSrc) (r : Rnd) : Statement (.vfma g d a b r) := fun _ k h => by cases h; exact eVF3_lt (by decide) _ _ _ _ _
theorem vfms (g : Guard) (d : VReg) (a : VSrc) (b : VSrc) (r : Rnd) : Statement (.vfms g d a b r) := fun _ k h => by cases h; exact eVF3_lt (by decide) _ _ _ _ _
theorem vfnma (g : Guard) (d : VReg) (a : VSrc) (b : VSrc) (r : Rnd) : Statement (.vfnma g d a b r) := fun _ k h => by cases h; exact eVF3_lt (by decide) _ _ _ _ _
theorem vfmaw (g : Guard) (d : VReg) (a : VSrc) (b : VSrc) (h : Bool) (f : Bool) (r : Rnd) : Statement (.vfmaw g d a b h f r) := fun _ k h => by cases h; exact eVFMAWS_lt (by decide) _ _ _ _ _ _ _
theorem vfabs (g : Guard) (d : VDst) (a : VSrc) : Statement (.vfabs g d a) := fun _ k h => by cases h; exact eV1_lt (by decide) _ _ _
theorem vfneg (g : Guard) (d : VDst) (a : VSrc) : Statement (.vfneg g d a) := fun _ k h => by cases h; exact eV1_lt (by decide) _ _ _
theorem vmin (g : Guard) (d : VDst) (a : VSrc) (b : VSrc) : Statement (.vmin g d a b) := fun _ k h => by cases h; exact eV2_lt (by decide) _ _ _ _
theorem vmax (g : Guard) (d : VDst) (a : VSrc) (b : VSrc) : Statement (.vmax g d a b) := fun _ k h => by cases h; exact eV2_lt (by decide) _ _ _ _
theorem vminnum (g : Guard) (d : VDst) (a : VSrc) (b : VSrc) : Statement (.vminnum g d a b) := fun _ k h => by cases h; exact eV2_lt (by decide) _ _ _ _
theorem vmaxnum (g : Guard) (d : VDst) (a : VSrc) (b : VSrc) : Statement (.vmaxnum g d a b) := fun _ k h => by cases h; exact eV2_lt (by decide) _ _ _ _
theorem vfclamp (g : Guard) (d : VDst) (a : VSrc) (b : VSrc) : Statement (.vfclamp g d a b) := fun _ k h => by cases h; exact eV2_lt (by decide) _ _ _ _
theorem vfrnd (g : Guard) (d : VDst) (a : VSrc) (r : Rnd) : Statement (.vfrnd g d a r) := fun _ k h => by cases h; exact eVF1_lt (by decide) _ _ _ _
theorem vfclass (g : Guard) (d : VDst) (a : VSrc) : Statement (.vfclass g d a) := fun _ k h => by cases h; exact eV1_lt (by decide) _ _ _
theorem vfcopys (g : Guard) (d : VDst) (a : VSrc) (b : VSrc) : Statement (.vfcopys g d a b) := fun _ k h => by cases h; exact eV2_lt (by decide) _ _ _ _
theorem vfscale (g : Guard) (d : VDst) (a : VSrc) (b : VSrc) (r : Rnd) : Statement (.vfscale g d a b r) := fun _ k h => by cases h; exact eVF2_lt (by decide) _ _ _ _ _
theorem vfcmpeq (g : Guard) (d : VDst) (a : VSrc) (b : VSrc) : Statement (.vfcmpeq g d a b) := fun _ k h => by cases h; exact eV2_lt (by decide) _ _ _ _
theorem vfcmplt (g : Guard) (d : VDst) (a : VSrc) (b : VSrc) : Statement (.vfcmplt g d a b) := fun _ k h => by cases h; exact eV2_lt (by decide) _ _ _ _
theorem vfcmple (g : Guard) (d : VDst) (a : VSrc) (b : VSrc) : Statement (.vfcmple g d a b) := fun _ k h => by cases h; exact eV2_lt (by decide) _ _ _ _
theorem vfcmpun (g : Guard) (d : VDst) (a : VSrc) (b : VSrc) : Statement (.vfcmpun g d a b) := fun _ k h => by cases h; exact eV2_lt (by decide) _ _ _ _
theorem vcvtfi (g : Guard) (d : VDst) (a : VSrc) (f : Bool) (u : Bool) (r : Rnd) : Statement (.vcvtfi g d a f u r) := fun _ k h => by cases h; exact eVCVT_lt (by decide) _ _ _ _ _ _
theorem vcvtif (g : Guard) (d : VDst) (a : VSrc) (f : Bool) (u : Bool) (r : Rnd) : Statement (.vcvtif g d a f u r) := fun _ k h => by cases h; exact eVCVT_lt (by decide) _ _ _ _ _ _
theorem vcvtff (g : Guard) (d : VDst) (a : VSrc) (k : Code4) (h : Bool) (r : Rnd) : Statement (.vcvtff g d a k h r) := fun _ k h => by cases h; exact eVCVTFFS_lt (by decide) _ _ _ _ _ _
theorem vcvtii (g : Guard) (d : VDst) (a : VSrc) (k : Code4) (h : Bool) (u : Bool) (sat : Bool) : Statement (.vcvtii g d a k h u sat) := fun _ k h => by cases h; exact eVCVTIIS_lt (by decide) _ _ _ _ _ _ _
theorem vpack (g : Guard) (d : VReg) (a : VSrc) (q : Code4) (u : Bool) (sat : Bool) : Statement (.vpack g d a q u sat) := fun _ k h => by cases h; exact eVPACKS_lt (by decide) _ _ _ _ _ _
theorem vunpack (g : Guard) (d : VDst) (a : VSrc) (q : Code4) (u : Bool) : Statement (.vunpack g d a q u) := fun _ k h => by cases h; exact eVQU_lt (by decide) _ _ _ _ _
theorem vqnq4 (g : Guard) (d : VDst) (a : VSrc) (ty : Code4) (r : Rnd) : Statement (.vqnq4 g d a ty r) := fun _ k h => by cases h; exact eVQNQ_lt (by decide) _ _ _ _ _
theorem vdqnq4 (g : Guard) (d : VDst) (a : VSrc) : Statement (.vdqnq4 g d a) := fun _ k h => by cases h; exact eV1_lt (by decide) _ _ _
theorem vrcp (g : Guard) (d : VDst) (a : VSrc) (r : Rnd) : Statement (.vrcp g d a r) := fun _ k h => by cases h; exact eVF1_lt (by decide) _ _ _ _
theorem vrsqrt (g : Guard) (d : VDst) (a : VSrc) (r : Rnd) : Statement (.vrsqrt g d a r) := fun _ k h => by cases h; exact eVF1_lt (by decide) _ _ _ _
theorem vexp2 (g : Guard) (d : VDst) (a : VSrc) (r : Rnd) : Statement (.vexp2 g d a r) := fun _ k h => by cases h; exact eVF1_lt (by decide) _ _ _ _
theorem vlog2 (g : Guard) (d : VDst) (a : VSrc) (r : Rnd) : Statement (.vlog2 g d a r) := fun _ k h => by cases h; exact eVF1_lt (by decide) _ _ _ _
theorem vscacc (g : Guard) (d : VReg) (a : VReg) (b : VSrc) (ga : GReg) : Statement (.vscacc g d a b ga) := fun _ k h => by cases h; exact eVSCA_lt (by decide) _ _ _ _ _
theorem vcsum (g : Guard) (t : TileNo) : Statement (.vcsum g t) := fun _ k h => by cases h; exact eVCS0_lt (by decide) _ _
theorem vcsumRow (g : Guard) (d : VDst) (t : TileNo) (sel : Code4) : Statement (.vcsumRow g d t sel) := fun _ k h => by cases h; exact eVCSR_lt (by decide) _ _ _ _
theorem vcchk (g : Guard) (t : TileNo) : Statement (.vcchk g t) := fun _ k h => by cases h; exact eVCK_lt (by decide) _ _
theorem vredadd (g : Guard) (d : VDst) (a : VSrc) : Statement (.vredadd g d a) := fun _ k h => by cases h; exact eV1_lt (by decide) _ _ _
theorem vredaddw (g : Guard) (d : VDst) (a : VSrc) (u : Bool) : Statement (.vredaddw g d a u) := fun _ k h => by cases h; exact eVRU_lt (by decide) _ _ _ _
theorem vredfadd (g : Guard) (d : VDst) (a : VSrc) (r : Rnd) : Statement (.vredfadd g d a r) := fun _ k h => by cases h; exact eVF1_lt (by decide) _ _ _ _
theorem vredmin (g : Guard) (d : VDst) (a : VSrc) (u : Bool) : Statement (.vredmin g d a u) := fun _ k h => by cases h; exact eVRU_lt (by decide) _ _ _ _
theorem vredmax (g : Guard) (d : VDst) (a : VSrc) (u : Bool) : Statement (.vredmax g d a u) := fun _ k h => by cases h; exact eVRU_lt (by decide) _ _ _ _
theorem vredfmin (g : Guard) (d : VDst) (a : VSrc) : Statement (.vredfmin g d a) := fun _ k h => by cases h; exact eV1_lt (by decide) _ _ _
theorem vredfmax (g : Guard) (d : VDst) (a : VSrc) : Statement (.vredfmax g d a) := fun _ k h => by cases h; exact eV1_lt (by decide) _ _ _
theorem vredand (g : Guard) (d : VDst) (a : VSrc) : Statement (.vredand g d a) := fun _ k h => by cases h; exact eV1_lt (by decide) _ _ _
theorem vredor (g : Guard) (d : VDst) (a : VSrc) : Statement (.vredor g d a) := fun _ k h => by cases h; exact eV1_lt (by decide) _ _ _
theorem vbcast (g : Guard) (d : VDst) (a : VSrc) (b : VSrc) : Statement (.vbcast g d a b) := fun _ k h => by cases h; exact eV2_lt (by decide) _ _ _ _
theorem vperm (g : Guard) (d : VDst) (a : VSrc) (b : VSrc) : Statement (.vperm g d a b) := fun _ k h => by cases h; exact eV2_lt (by decide) _ _ _ _
theorem vshuf (g : Guard) (d : VReg) (a : VSrc) (b : VSrc) : Statement (.vshuf g d a b) := fun _ k h => by cases h; exact eV3_lt (by decide) _ _ _ _
theorem vrotl (g : Guard) (d : VDst) (a : VSrc) (b : VSrc) : Statement (.vrotl g d a b) := fun _ k h => by cases h; exact eV2_lt (by decide) _ _ _ _
theorem vslide (g : Guard) (d : VDst) (a : VSrc) (b : VSrc) : Statement (.vslide g d a b) := fun _ k h => by cases h; exact eV2_lt (by decide) _ _ _ _
theorem vzip (g : Guard) (d : VDst) (a : VSrc) (b : VSrc) (h : Bool) : Statement (.vzip g d a b h) := fun _ k h => by cases h; exact eV2H_lt (by decide) _ _ _ _ _
theorem vunzip (g : Guard) (d : VDst) (a : VSrc) (b : VSrc) (h : Bool) : Statement (.vunzip g d a b h) := fun _ k h => by cases h; exact eV2H_lt (by decide) _ _ _ _ _
theorem vrevl (g : Guard) (d : VDst) (a : VSrc) : Statement (.vrevl g d a) := fun _ k h => by cases h; exact eV1_lt (by decide) _ _ _
theorem vcompress (g : Guard) (d : VDst) (a : VSrc) (b : VSrc) (n : OptG) : Statement (.vcompress g d a b n) := fun _ k h => by cases h; exact eVCE_lt (by decide) _ _ _ _ _
theorem vexpand (g : Guard) (d : VDst) (a : VSrc) (b : VSrc) (n : OptG) : Statement (.vexpand g d a b n) := fun _ k h => by cases h; exact eVCE_lt (by decide) _ _ _ _ _
theorem vtopk (g : Guard) (d : VDst) (a : VSrc) (b : VSrc) (h : Bool) : Statement (.vtopk g d a b h) := fun _ k h => by cases h; exact eV2H_lt (by decide) _ _ _ _ _
theorem viota (g : Guard) (d : VDst) (a : VSrc) (u : Bool) : Statement (.viota g d a u) := fun _ k h => by cases h; exact eVIOTA_lt (by decide) _ _ _ _
theorem vany (g : Guard) (gn : GReg) (b : BitNo) (a : VSrc) : Statement (.vany g gn b a) := fun _ k h => by cases h; exact eVANYS_lt (by decide) _ _ _ _
theorem vall (g : Guard) (gn : GReg) (b : BitNo) (a : VSrc) : Statement (.vall g gn b a) := fun _ k h => by cases h; exact eVANYS_lt (by decide) _ _ _ _
theorem vmcount (g : Guard) (gn : GReg) (a : VSrc) : Statement (.vmcount g gn a) := fun _ k h => by cases h; exact eVMCNT_lt (by decide) _ _ _
theorem vmskg (g : Guard) (gn : GReg) (a : VSrc) (q : Code4) : Statement (.vmskg g gn a q) := fun _ k h => by cases h; exact eVMSKGS_lt (by decide) _ _ _ _
theorem vgmsk (g : Guard) (d : VReg) (gs : GReg) (q : Code4) : Statement (.vgmsk g d gs q) := fun _ k h => by cases h; exact eVGMSKS_lt (by decide) _ _ _ _
theorem vins (g : Guard) (d : VReg) (gs : GReg) (t : VSrc) : Statement (.vins g d gs t) := fun _ k h => by cases h; exact eVINSS_lt (by decide) _ _ _ _
theorem vext (g : Guard) (gn : GReg) (a : VSrc) (t : VSrc) : Statement (.vext g gn a t) := fun _ k h => by cases h; exact eVEXTS_lt (by decide) _ _ _ _
theorem tcfg (g : Guard) (t : TileNo) (ty : TileType) : Statement (.tcfg g t ty) := fun _ k h => by cases h; exact eVTCFG_lt (by decide) _ _ _
theorem vcvt8 (g : Guard) (d : VReg) (a : VSrc) (q : Code4) (e : Bool) (r : Rnd) : Statement (.vcvt8 g d a q e r) := fun _ k h => by cases h; exact eVCVT8S_lt (by decide) _ _ _ _ _ _
theorem vcvt8w (g : Guard) (d : VDst) (a : VSrc) (q : Code4) (u : Bool) : Statement (.vcvt8w g d a q u) := fun _ k h => by cases h; exact eVQU_lt (by decide) _ _ _ _ _
theorem mnop : Statement (.mnop) := fun _ k h => by cases h; exact eM0_lt (by decide)
theorem mclr (set : Bool) : Statement (.mclr set) := fun _ k h => by cases h; exact eMSET1_lt (by decide) _
theorem mpush (w : Wt) (sa : SReg) (sb : SReg) : Statement (.mpush w sa sb) := fun _ k h => by cases h; exact eMBEAT_lt (by decide) _ _ _
theorem macc (w : Wt) (sa : SReg) (sb : SReg) : Statement (.macc w sa sb) := fun _ k h => by cases h; exact eMBEAT_lt (by decide) _ _ _
theorem mshift (sa : SReg) (sb : SReg) : Statement (.mshift sa sb) := fun _ k h => by cases h; exact eMSH_lt (by decide) _ _
theorem mdrain (arow : Row64) (t : Row64) : Statement (.mdrain arow t) := fun _ k h => by cases h; exact eMDR_lt (by decide) _ _
theorem mswap : Statement (.mswap) := fun _ k h => by cases h; exact eM0_lt (by decide)
theorem mcfg (pa : Code4) (pb : Code4) : Statement (.mcfg pa pb) := fun _ k h => by cases h; exact eMCF_lt (by decide) _ _
theorem xnop : Statement (.xnop) := fun _ k h => by cases h; exact eXNOP_lt (by decide)
theorem ldg (g : Guard) (d : GReg) (s : GReg) (size : Code4) (acq : Bool) (scope : Scope) : Statement (.ldg g d s size acq scope) := fun _ k h => by cases h; exact eXLD_lt (by decide) _ _ _ _ _ _
theorem ldgu (g : Guard) (d : GReg) (s : GReg) (size : Code4) (acq : Bool) (scope : Scope) : Statement (.ldgu g d s size acq scope) := fun _ k h => by cases h; exact eXLD_lt (by decide) _ _ _ _ _ _
theorem ldgnc (g : Guard) (d : GReg) (s : GReg) (size : Code4) (acq : Bool) (scope : Scope) : Statement (.ldgnc g d s size acq scope) := fun _ k h => by cases h; exact eXLD_lt (by decide) _ _ _ _ _ _
theorem stg (g : Guard) (d : GReg) (s : GReg) (size : Code4) (rel : Bool) (scope : Scope) : Statement (.stg g d s size rel scope) := fun _ k h => by cases h; exact eXST_lt (by decide) _ _ _ _ _ _
theorem ldgv (g : Guard) (v : VReg) (s : GReg) (acq : Bool) (scope : Scope) : Statement (.ldgv g v s acq scope) := fun _ k h => by cases h; exact eXLDV_lt (by decide) _ _ _ _ _
theorem stgv (g : Guard) (v : VReg) (s : GReg) (rel : Bool) (scope : Scope) : Statement (.stgv g v s rel scope) := fun _ k h => by cases h; exact eXSTV_lt (by decide) _ _ _ _ _
theorem prefg (g : Guard) (s : GReg) : Statement (.prefg g s) := fun _ k h => by cases h; exact eXPF_lt (by decide) _ _
theorem atadd (g : Guard) (d : GReg) (s : GReg) (wide : Bool) (ord : Ord4) (scope : Scope) : Statement (.atadd g d s wide ord scope) := fun _ k h => by cases h; exact eXAT_lt (by decide) _ _ _ _ _ _
theorem atmin (g : Guard) (d : GReg) (s : GReg) (wide : Bool) (ord : Ord4) (scope : Scope) : Statement (.atmin g d s wide ord scope) := fun _ k h => by cases h; exact eXAT_lt (by decide) _ _ _ _ _ _
theorem atmax (g : Guard) (d : GReg) (s : GReg) (wide : Bool) (ord : Ord4) (scope : Scope) : Statement (.atmax g d s wide ord scope) := fun _ k h => by cases h; exact eXAT_lt (by decide) _ _ _ _ _ _
theorem atminu (g : Guard) (d : GReg) (s : GReg) (wide : Bool) (ord : Ord4) (scope : Scope) : Statement (.atminu g d s wide ord scope) := fun _ k h => by cases h; exact eXAT_lt (by decide) _ _ _ _ _ _
theorem atmaxu (g : Guard) (d : GReg) (s : GReg) (wide : Bool) (ord : Ord4) (scope : Scope) : Statement (.atmaxu g d s wide ord scope) := fun _ k h => by cases h; exact eXAT_lt (by decide) _ _ _ _ _ _
theorem atand (g : Guard) (d : GReg) (s : GReg) (wide : Bool) (ord : Ord4) (scope : Scope) : Statement (.atand g d s wide ord scope) := fun _ k h => by cases h; exact eXAT_lt (by decide) _ _ _ _ _ _
theorem ator (g : Guard) (d : GReg) (s : GReg) (wide : Bool) (ord : Ord4) (scope : Scope) : Statement (.ator g d s wide ord scope) := fun _ k h => by cases h; exact eXAT_lt (by decide) _ _ _ _ _ _
theorem atxor (g : Guard) (d : GReg) (s : GReg) (wide : Bool) (ord : Ord4) (scope : Scope) : Statement (.atxor g d s wide ord scope) := fun _ k h => by cases h; exact eXAT_lt (by decide) _ _ _ _ _ _
theorem atxchg (g : Guard) (d : GReg) (s : GReg) (wide : Bool) (ord : Ord4) (scope : Scope) : Statement (.atxchg g d s wide ord scope) := fun _ k h => by cases h; exact eXAT_lt (by decide) _ _ _ _ _ _
theorem atcas (g : Guard) (d : GReg) (s : GReg) (wide : Bool) (ord : Ord4) (scope : Scope) : Statement (.atcas g d s wide ord scope) := fun _ k h => by cases h; exact eXATCAS_lt (by decide) _ _ _ _ _ _
theorem atfadd (g : Guard) (d : GReg) (s : GReg) (ord : Ord4) (scope : Scope) : Statement (.atfadd g d s ord scope) := fun _ k h => by cases h; exact eXATF_lt (by decide) _ _ _ _ _
theorem atfmax (g : Guard) (d : GReg) (s : GReg) (ord : Ord4) (scope : Scope) : Statement (.atfmax g d s ord scope) := fun _ k h => by cases h; exact eXATF_lt (by decide) _ _ _ _ _
theorem fence (g : Guard) (ord : Ord4) (scope : Scope) : Statement (.fence g ord scope) := fun _ k h => by cases h; exact eXFENCE_lt (by decide) _ _ _
theorem ldfe (g : Guard) (p : GReg) (q : GReg) (size : Code4) (clear : Bool) : Statement (.ldfe g p q size clear) := fun _ k h => by cases h; exact eXLDFE_lt (by decide) _ _ _ _ _
theorem stfe (g : Guard) (p : GReg) (q : GReg) (size : Code4) : Statement (.stfe g p q size) := fun _ k h => by cases h; exact eXSTFE_lt (by decide) _ _ _ _
theorem feset (g : Guard) (p : GReg) (q : GReg) (v : Bool) : Statement (.feset g p q v) := fun _ k h => by cases h; exact eXFESET_lt (by decide) _ _ _ _
theorem fetest (g : Guard) (p : GReg) (b : BitNo) (q : GReg) : Statement (.fetest g p b q) := fun _ k h => by cases h; exact eXTEST_lt (by decide) _ _ _ _
theorem gbar (g : Guard) : Statement (.gbar g) := fun _ k h => by cases h; exact eXG_lt (by decide) _
theorem sbind (g : Guard) (n : SReg) (q : Oct) : Statement (.sbind g n q) := fun _ k h => by cases h; exact eXSB_lt (by decide) _ _ _
theorem sunbind (g : Guard) (n : SReg) : Statement (.sunbind g n) := fun _ k h => by cases h; exact eXSU_lt (by decide) _ _
theorem treg (g : Guard) (e : TEntry) (q : Oct) : Statement (.treg g e q) := fun _ k h => by cases h; exact eXTR_lt (by decide) _ _ _
theorem tunreg (g : Guard) (e : TEntry) : Statement (.tunreg g e) := fun _ k h => by cases h; exact eXTU_lt (by decide) _ _
theorem ecopy (g : Guard) (p : Oct) (q : GReg) : Statement (.ecopy g p q) := fun _ k h => by cases h; exact eXEN_lt (by decide) _ _ _
theorem emcast (g : Guard) (p : Oct) (q : GReg) : Statement (.emcast g p q) := fun _ k h => by cases h; exact eXEN_lt (by decide) _ _ _
theorem egather (g : Guard) (p : Oct) (q : GReg) : Statement (.egather g p q) := fun _ k h => by cases h; exact eXEN_lt (by decide) _ _ _
theorem escatter (g : Guard) (p : Oct) (q : GReg) : Statement (.escatter g p q) := fun _ k h => by cases h; exact eXEN_lt (by decide) _ _ _
theorem eplane (g : Guard) (p : Oct) (q : GReg) : Statement (.eplane g p q) := fun _ k h => by cases h; exact eXEN_lt (by decide) _ _ _
theorem efeed (g : Guard) (p : Oct) (q : GReg) : Statement (.efeed g p q) := fun _ k h => by cases h; exact eXEN_lt (by decide) _ _ _
theorem ewait (g : Guard) (q : GReg) : Statement (.ewait g q) := fun _ k h => by cases h; exact eXQ_lt (by decide) _ _
theorem etest (g : Guard) (p : GReg) (b : BitNo) (q : GReg) : Statement (.etest g p b q) := fun _ k h => by cases h; exact eXTEST_lt (by decide) _ _ _ _
theorem qpush (g : Guard) (p : Oct) (q : GReg) : Statement (.qpush g p q) := fun _ k h => by cases h; exact eXEN_lt (by decide) _ _ _
theorem qpop (g : Guard) (p : Oct) (q : GReg) : Statement (.qpop g p q) := fun _ k h => by cases h; exact eXEN_lt (by decide) _ _ _
theorem qlen (g : Guard) (p : GReg) (q : GReg) : Statement (.qlen g p q) := fun _ k h => by cases h; exact eXPQ_lt (by decide) _ _ _
theorem cntadd (g : Guard) (q : GReg) : Statement (.cntadd g q) := fun _ k h => by cases h; exact eXQ_lt (by decide) _ _
theorem cntrd (g : Guard) (d : Dst) : Statement (.cntrd g d) := fun _ k h => by cases h; exact eXCNTRD_lt (by decide) _ _
theorem kbind (g : Guard) (n : KReg) (q : EvenReg) : Statement (.kbind g n q) := fun _ k h => by cases h; exact eXKB_lt (by decide) _ _ _
theorem kunbind (g : Guard) (n : KReg) : Statement (.kunbind g n) := fun _ k h => by cases h; exact eXKU_lt (by decide) _ _
theorem kstat (g : Guard) (d : Dst) (n : KReg) : Statement (.kstat g d n) := fun _ k h => by cases h; exact eXKS_lt (by decide) _ _ _
theorem susp (g : Guard) (q : GReg) : Statement (.susp g q) := fun _ k h => by cases h; exact eXQ_lt (by decide) _ _
theorem cres (g : Guard) (q : GReg) : Statement (.cres g q) := fun _ k h => by cases h; exact eXQ_lt (by decide) _ _
theorem cresT (g : Guard) (p : GReg) (q : GReg) : Statement (.cresT g p q) := fun _ k h => by cases h; exact eXPQ_lt (by decide) _ _ _
theorem ccopy (g : Guard) (p : GReg) (q : GReg) : Statement (.ccopy g p q) := fun _ k h => by cases h; exact eXPQ_lt (by decide) _ _ _
theorem cdrop (g : Guard) (q : GReg) : Statement (.cdrop g q) := fun _ k h => by cases h; exact eXQ_lt (by decide) _ _
theorem cinfo (g : Guard) (p : Oct) (q : GReg) : Statement (.cinfo g p q) := fun _ k h => by cases h; exact eXEN_lt (by decide) _ _ _
theorem kslotld (g : Guard) (p : Oct) (q : GReg) : Statement (.kslotld g p q) := fun _ k h => by cases h; exact eXEN_lt (by decide) _ _ _
theorem kslotz (g : Guard) (q : GReg) : Statement (.kslotz g q) := fun _ k h => by cases h; exact eXQ_lt (by decide) _ _
theorem glean (g : Guard) (p : Oct) : Statement (.glean g p) := fun _ k h => by cases h; exact eXP8_lt (by decide) _ _
theorem notify (g : Guard) (q : GReg) : Statement (.notify g q) := fun _ k h => by cases h; exact eXQ_lt (by decide) _ _
theorem issueBundle (c : CoreId) : Statement (.issueBundle c) := fun _ _ h => nomatch h
theorem fixedLatencyLanding (c : CoreId) : Statement (.fixedLatencyLanding c) := fun _ _ h => nomatch h
theorem loadValueLanding (x : CtxId) (n : Nat × Nat) : Statement (.loadValueLanding x n) := fun _ _ h => nomatch h
theorem checkpointCommit (c : CoreId) : Statement (.checkpointCommit c) := fun _ _ h => nomatch h
theorem commitQueuePerform (x : CtxId) (n : Nat × Nat) : Statement (.commitQueuePerform x n) := fun _ _ h => nomatch h
theorem yield (c : CoreId) : Statement (.yield c) := fun _ _ h => nomatch h
theorem idleCoreChoice (c : CoreId) : Statement (.idleCoreChoice c) := fun _ _ h => nomatch h
theorem spinlimPark (c : CoreId) : Statement (.spinlimPark c) := fun _ _ h => nomatch h
theorem parkEnd (x : CtxId) : Statement (.parkEnd x) := fun _ _ h => nomatch h
theorem qpushRetry (x : CtxId) : Statement (.qpushRetry x) := fun _ _ h => nomatch h
theorem takeRecord (cl : ClusterId) (plot : PlotNo) (n : Nat) (c : CoreId) : Statement (.takeRecord cl plot n c) := fun _ _ h => nomatch h
theorem loadingComplete (x : CtxId) : Statement (.loadingComplete x) := fun _ _ h => nomatch h
theorem groupPlacement (cl : ClusterId) (plot : PlotNo) (n : Nat) : Statement (.groupPlacement cl plot n) := fun _ _ h => nomatch h
theorem releaseAsRecord (x : CtxId) : Statement (.releaseAsRecord x) := fun _ _ h => nomatch h
theorem drainingEnd (x : CtxId) : Statement (.drainingEnd x) := fun _ _ h => nomatch h
theorem dataErrorVerification (x : CtxId) : Statement (.dataErrorVerification x) := fun _ _ h => nomatch h
theorem streamFetch (x : CtxId) (sr : SReg × Nat) : Statement (.streamFetch x sr) := fun _ _ h => nomatch h
theorem refreshWindowAdvance (d : DieId) : Statement (.refreshWindowAdvance d) := fun _ _ h => nomatch h
theorem patrolScrub (da : Nat) : Statement (.patrolScrub da) := fun _ _ h => nomatch h
theorem hbmCalibration (stack : Nat) : Statement (.hbmCalibration stack) := fun _ _ h => nomatch h
theorem linkCalibration (port : Nat) : Statement (.linkCalibration port) := fun _ _ h => nomatch h
theorem translationWalk (d : DieId) (plot : PlotNo) (page : Nat) : Statement (.translationWalk d plot page) := fun _ _ h => nomatch h
theorem homeStackPerform (d : DieId) (n : Nat) : Statement (.homeStackPerform d n) := fun _ _ h => nomatch h
theorem dieUpdateApply (d : DieId) (n : Nat) : Statement (.dieUpdateApply d n) := fun _ _ h => nomatch h
theorem copyEngineTransfer (op : Nat) : Statement (.copyEngineTransfer op) := fun _ _ h => nomatch h
theorem planeBuildSlice (op : Nat) : Statement (.planeBuildSlice op) := fun _ _ h => nomatch h
theorem feedLoaderItem (op : Nat) : Statement (.feedLoaderItem op) := fun _ _ h => nomatch h
theorem feedStorerItem (op : Nat) : Statement (.feedStorerItem op) := fun _ _ h => nomatch h
theorem weightLoadOperation (op : Nat) : Statement (.weightLoadOperation op) := fun _ _ h => nomatch h
theorem completionObjectLanding (op : Nat) : Statement (.completionObjectLanding op) := fun _ _ h => nomatch h
theorem queueAccept (x : CtxId) : Statement (.queueAccept x) := fun _ _ h => nomatch h
theorem queueHeadRemove (x : CtxId) : Statement (.queueHeadRemove x) := fun _ _ h => nomatch h
theorem heathRefill (plot : PlotNo) (q : Nat) : Statement (.heathRefill plot q) := fun _ _ h => nomatch h
theorem queueMappingTick (bd : Nat) : Statement (.queueMappingTick bd) := fun _ _ h => nomatch h
theorem gangEnd (plot : PlotNo) (gang : Nat) : Statement (.gangEnd plot gang) := fun _ _ h => nomatch h
theorem gangIdFree (plot : PlotNo) (gang : Nat) : Statement (.gangIdFree plot gang) := fun _ _ h => nomatch h
theorem launch (plot : PlotNo) (word : W64) : Statement (.launch plot word) := fun _ _ h => nomatch h
theorem graphNodeStart (launch : Nat) (node : Nat) : Statement (.graphNodeStart launch node) := fun _ _ h => nomatch h
theorem graphNodeComplete (launch : Nat) (node : Nat) : Statement (.graphNodeComplete launch node) := fun _ _ h => nomatch h
theorem sliceDeadline (group : Nat) : Statement (.sliceDeadline group) := fun _ _ h => nomatch h
theorem ckwaitExpiry (group : Nat) : Statement (.ckwaitExpiry group) := fun _ _ h => nomatch h
theorem groupSave (group : Nat) : Statement (.groupSave group) := fun _ _ h => nomatch h
theorem restorePlacement (cl : ClusterId) : Statement (.restorePlacement cl) := fun _ _ h => nomatch h
theorem groupRestore (cl : ClusterId) (n : Nat) : Statement (.groupRestore cl n) := fun _ _ h => nomatch h
theorem packetSend (x : CtxId) (k : KReg) : Statement (.packetSend x k) := fun _ _ h => nomatch h
theorem packetArrival (p : Packet) : Statement (.packetArrival p) := fun _ _ h => nomatch h
theorem refusedResend (x : CtxId) (k : KReg) : Statement (.refusedResend x k) := fun _ _ h => nomatch h
theorem landingEntryMove (x : CtxId) (k : KReg) : Statement (.landingEntryMove x k) := fun _ _ h => nomatch h
theorem remoteOperationPerform (d : DieId) (n : Nat) : Statement (.remoteOperationPerform d n) := fun _ _ h => nomatch h
theorem remoteAckArrival (x : CtxId) (n : Nat) : Statement (.remoteAckArrival x n) := fun _ _ h => nomatch h
theorem remoteFailure (x : CtxId) (arg : Nat) (offset : Nat) : Statement (.remoteFailure x arg offset) := fun _ _ h => nomatch h
theorem revokeArrival (module : Nat) (plot : PlotNo) (gen : Nat) : Statement (.revokeArrival module plot gen) := fun _ _ h => nomatch h
theorem purseDecay : Statement (.purseDecay) := fun _ _ h => nomatch h
theorem shareWindowStart (c : CoreId) : Statement (.shareWindowStart c) := fun _ _ h => nomatch h
theorem shareExhausted (c : CoreId) (plot : PlotNo) (gang : Nat) : Statement (.shareExhausted c plot gang) := fun _ _ h => nomatch h
theorem gleanBlockWrite : Statement (.gleanBlockWrite) := fun _ _ h => nomatch h
theorem estateCreate (p : Page) : Statement (.estateCreate p) := fun _ _ h => nomatch h
theorem estateDestroy (p : Page) : Statement (.estateDestroy p) := fun _ _ h => nomatch h
theorem plotCreate (p : Page) : Statement (.plotCreate p) := fun _ _ h => nomatch h
theorem plotDestroy (p : Page) : Statement (.plotDestroy p) := fun _ _ h => nomatch h
theorem policyWrite (p : Page) : Statement (.policyWrite p) := fun _ _ h => nomatch h
theorem policyRead (p : Page) : Statement (.policyRead p) := fun _ _ h => nomatch h
theorem grant (p : Page) : Statement (.grant p) := fun _ _ h => nomatch h
theorem ungrant (p : Page) : Statement (.ungrant p) := fun _ _ h => nomatch h
theorem root (p : Page) : Statement (.root p) := fun _ _ h => nomatch h
theorem inval (p : Page) : Statement (.inval p) := fun _ _ h => nomatch h
theorem handle (p : Page) : Statement (.handle p) := fun _ _ h => nomatch h
theorem unhandle (p : Page) : Statement (.unhandle p) := fun _ _ h => nomatch h
theorem rights (p : Page) : Statement (.rights p) := fun _ _ h => nomatch h
theorem preempt (p : Page) : Statement (.preempt p) := fun _ _ h => nomatch h
theorem pair (p : Page) : Statement (.pair p) := fun _ _ h => nomatch h
theorem qcreate (p : Page) : Statement (.qcreate p) := fun _ _ h => nomatch h
theorem attest (p : Page) : Statement (.attest p) := fun _ _ h => nomatch h
theorem timeset (p : Page) : Statement (.timeset p) := fun _ _ h => nomatch h
theorem kreg (p : Page) : Statement (.kreg p) := fun _ _ h => nomatch h
theorem kunreg (p : Page) : Statement (.kunreg p) := fun _ _ h => nomatch h
theorem greg (p : Page) : Statement (.greg p) := fun _ _ h => nomatch h
theorem gunreg (p : Page) : Statement (.gunreg p) := fun _ _ h => nomatch h
theorem mcmdUnknownOp (p : Page) : Statement (.mcmdUnknownOp p) := fun _ _ h => nomatch h
theorem frelResume (estate : Nat) : Statement (.frelResume estate) := fun _ _ h => nomatch h
theorem frelRefuse (estate : Nat) : Statement (.frelRefuse estate) := fun _ _ h => nomatch h
theorem flogConsWrite (p : Page) (value : W64) : Statement (.flogConsWrite p value) := fun _ _ h => nomatch h
theorem floglostClear (p : Page) (value : W64) : Statement (.floglostClear p value) := fun _ _ h => nomatch h
theorem patrolueClear (value : W64) : Statement (.patrolueClear value) := fun _ _ h => nomatch h
theorem registerWrite (fn : PlotNo) (bar : Nat) (off : Nat) (width : RegWidth) (value : OptW64) : Statement (.registerWrite fn bar off width value) := fun _ _ h => nomatch h
theorem hostWindowAccess (off : Nat) (width : RegWidth) (wr : OptW64) : Statement (.hostWindowAccess off width wr) := fun _ _ h => nomatch h
theorem vfEnableClear : Statement (.vfEnableClear) := fun _ _ h => nomatch h
theorem vfEnableSet : Statement (.vfEnableSet) := fun _ _ h => nomatch h
theorem functionLevelReset (plot : PlotNo) : Statement (.functionLevelReset plot) := fun _ _ h => nomatch h
theorem powerOn : Statement (.powerOn) := fun _ _ h => nomatch h
theorem startWarmRequest : Statement (.startWarmRequest) := fun _ _ h => nomatch h
theorem startColdRequest : Statement (.startColdRequest) := fun _ _ h => nomatch h
theorem fundamentalReset : Statement (.fundamentalReset) := fun _ _ h => nomatch h
theorem clockLowering (d : DieId) : Statement (.clockLowering d) := fun _ _ h => nomatch h
theorem landingFullReplyArrival (x : CtxId) (k : KReg) : Statement (.landingFullReplyArrival x k) := fun _ _ h => nomatch h
theorem wearManagementMigration (x : CtxId) : Statement (.wearManagementMigration x) := fun _ _ h => nomatch h
theorem msixVectorUnmask (fn : PlotNo) (vec : Nat) : Statement (.msixVectorUnmask fn vec) := fun _ _ h => nomatch h
theorem clockRestore (d : DieId) : Statement (.clockRestore d) := fun _ _ h => nomatch h

end Sys2Proof.Laws.Sized
end

