-- ==== Sys2Proof/Laws/Slots.lean ====
section
/-!
SUPPORT. The shared operations of a slot: what a guard, a source and a destination can do, and what they leave alone.
-/
namespace Sys2Proof.Machine

/-! ### Outcomes -/

@[simp] theorem settle_ok (s : State) (c : Context) : settle s (.ok c) = .next (s.setCtx s.iss.ctx c) := rfl
@[simp] theorem settle_error (s : State) (h : Halt) : settle s (.error h) = .next (s.halt s.iss.ctx h s.iss.slot s.iss.caddr) := rfl

/-- A slot that completes is a next state with its context. -/
theorem runSlot_ok {f : Slot} {s : State} {c : Context} (h : f s s.cur = .ok c) : runSlot f s = .next (s.setCtx s.iss.ctx c) := by
  simp [runSlot, h]

/-- A slot that halts is a next state too: its freeze, its park, its trap or its data error. -/
theorem runSlot_error {f : Slot} {s : State} {h : Halt} (e : f s s.cur = .error h) :
    runSlot f s = .next (s.halt s.iss.ctx h s.iss.slot s.iss.caddr) := by
  simp [runSlot, e]

/-! ### Guards (R30, R31) -/

/-- A guard that holds lets the slot act. -/
theorem guarded_on {s : State} {c : Context} {g : Guard} {v : W64} {act : Except Halt Context} (hr : readG s c g.reg = .ok v)
    (hb : v.getLsbD g.bit.val = g.sense) : guarded s c g act = act := by
  rw [guarded, hr]
  exact if_pos hb

/-- A guard that fails leaves the context as it stands. -/
theorem guarded_off {s : State} {c : Context} {g : Guard} {v : W64} {act : Except Halt Context} (hr : readG s c g.reg = .ok v)
    (hb : v.getLsbD g.bit.val ≠ g.sense) : guarded s c g act = .ok c := by
  rw [guarded, hr]
  exact if_neg hb

/-- A guarded slot that completes was switched off, or its act completed. -/
theorem guarded_ok {s : State} {c c' : Context} {g : Guard} {act : Except Halt Context} (h : guarded s c g act = .ok c') :
    c' = c ∨ act = .ok c' := by
  unfold guarded at h
  split at h
  · exact absurd h (by simp)
  · split_ifs at h
    · exact .inr h
    · exact .inl (by simpa using h.symm)

/-- The all-zero guard holds wherever it stands: bit 0 of g0 is 0 (R15, R30). -/
theorem guarded_always (s : State) (c : Context) (act : Except Halt Context) : guarded s c Guard.always act = act :=
  guarded_on (v := 0) rfl (by simp [Guard.always])

/-! ### Registers that nothing stands in the way of -/

/-- g0 is never pending and reads 0 (R15). -/
@[simp] theorem readG_zero (s : State) (c : Context) : readG s c 0 = .ok 0 := rfl

/-- A register with no load, no mark and good parity reads its value. -/
theorem readG_ready {s : State} {c : Context} {r : GReg} (hl : c.loadOfG r = none) (hm : c.marked (Wr.onG r) = false)
    (hp : c.w.parity.gBad r = false) : readG s c r = .ok (c.w.gval r) := by
  unfold readG State.haltG State.readHalt orHalt
  split_ifs <;> simp_all

theorem readV_ready {s : State} {c : Context} {r : VReg} (hl : c.loadOfV r = none) (hm : c.marked (Wr.onV r) = false)
    (hp : c.w.parity.vBad r = false) : readV s c r = .ok (c.w.vval r) := by
  unfold readV State.haltV State.readHalt orHalt
  simp_all

theorem readA_ready {s : State} {c : Context} {r : AReg} (hm : c.marked (Wr.onA r) = false)
    (hp : c.w.parity.aBad r = false) : readA s c r = .ok c.w.a[r] := by
  unfold readA State.haltA State.readHalt orHalt
  simp_all

theorem readM_ready {s : State} {c : Context} {r : MReg} (hm : c.marked (Wr.onM r) = false)
    (hp : c.w.parity.mBad r = false) : readM s c r = .ok c.w.m[r] := by
  unfold readM State.haltM State.readHalt orHalt
  simp_all

end Sys2Proof.Machine

namespace Sys2Proof
open Machine

/-! ### What operands leave alone -/

namespace SameRegs

theorem refl (c : Context) : SameRegs c c := by constructor <;> rfl

theorem trans {a b c : Context} (h : SameRegs a b) (k : SameRegs b c) : SameRegs a c where
  w := by
    have h1 := h.w
    have h2 := k.w
    rw [← h1, ← h2]
  sh := k.sh.trans h.sh
  latch := k.latch.trans h.latch
  vlatch := k.vlatch.trans h.vlatch
  flags := k.flags.trans h.flags
  fixcnt := k.fixcnt.trans h.fixcnt
  cstat := k.cstat.trans h.cstat
  st := k.st.trans h.st
  ident := k.ident.trans h.ident
  counts := k.counts.trans h.counts
  cq := k.cq.trans h.cq
  raised := k.raised.trans h.raised

theorem flyAdd (s : State) (c : Context) (lat : Nat) (ws : List Wr) : SameRegs c (c.flyAdd s lat ws) :=
  by constructor <;> rfl

theorem flyMore (s : State) (c : Context) (lat : Nat) (ws : List Wr) : SameRegs c (c.flyMore s lat ws) := by
  unfold Context.flyMore
  split_ifs
  · exact refl c
  · exact flyAdd s c lat ws

theorem takeIn (c : Context) (l : List W64) : SameRegs c (c.takeIn l) := by constructor <;> rfl

theorem withhold (c : Context) (st : Store) : SameRegs c (c.withhold st) := by constructor <;> rfl

theorem addLoad (c : Context) (l : Load) : SameRegs c (c.addLoad l) := by constructor <;> rfl

theorem postUpd (s : State) (c : Context) (a : AReg) (u : Option W32) : SameRegs c (c.postUpd s a u) := by
  cases u
  · exact refl c
  · exact flyAdd s c 1 _

theorem popElement {c c' : Context} {n : SReg} {b : Binding} {e : List Byte} (h : popElement c n b = .ok (c', e)) : SameRegs c c' := by
  unfold Machine.popElement at h
  split_ifs at h
  · simp [cause] at h
  · split at h
    · simp [freezeFor] at h
    · split at h
      · simp [cause] at h
      · cases h
        constructor <;> rfl

theorem popStream {c c' : Context} {n : SReg} {row : Bool} {b : Binding} {e : List Byte} (h : popStream c n row = .ok (c', b, e)) :
    SameRegs c c' := by
  unfold Machine.popStream at h
  split at h
  · simp [cause] at h
  · split_ifs at h
    · split at h
      · simp at h
      · rename_i hp
        simp only [Except.ok.injEq, Prod.mk.injEq] at h
        obtain ⟨rfl, _, _⟩ := h
        exact popElement hp
    · simp [cause] at h

theorem popChannel {c c' : Context} {k : KReg} {n : Nat} {ws : List W64} (h : popChannel c k n = .ok (c', ws)) : SameRegs c c' := by
  unfold Machine.popChannel at h
  dsimp only at h
  split at h
  · simp [cause] at h
  · split_ifs at h
    · simp [freezeFor] at h
    · simp only [Except.ok.injEq, Prod.mk.injEq] at h
      obtain ⟨rfl, _⟩ := h
      constructor <;> rfl

theorem pushStream {s : State} {c c' : Context} {n : SReg} {row : Bool} {v : List Byte} (h : pushStream s c n row v = .ok c') :
    SameRegs c c' := by
  unfold Machine.pushStream at h
  split at h
  · simp [cause] at h
  · simp only at h
    split_ifs at h
    · simp [cause] at h
    · simp [cause] at h
    · simp [freezeFor] at h
    · cases h
      constructor <;> rfl
    · cases h
      constructor <;> rfl

theorem remoteSent (s : State) (c : Context) (r : W64 × W64) (ps : List (List W64)) : SameRegs c (c.remoteSent s r ps) := by
  unfold Context.remoteSent
  refine foldl_keeps (fun x => SameRegs c x) _ ?_ _ _ (refl c)
  intro x p hx
  exact hx.trans (by constructor <;> rfl)

theorem pushChannel {s : State} {c c' : Context} {k : KReg} {ws : List W64} (h : pushChannel s c k ws = .ok c') : SameRegs c c' := by
  unfold Machine.pushChannel at h
  dsimp only at h
  split at h
  · simp [cause] at h
  · split_ifs at h
    · simp [cause] at h
    · simp [freezeFor] at h
    all_goals
      cases h
      first
      | exact (remoteSent s c _ _).trans (by constructor <;> rfl)
      | constructor <;> rfl

theorem readSrc {s : State} {c c' : Context} {a : Src} {v : W64} (h : readSrc s c a = .ok (c', v)) : SameRegs c c' := by
  cases a with
  | g r =>
    simp only [Machine.readSrc] at h
    split at h
    · simp at h
    · cases h; exact refl _
  | b n => cases h; exact refl _
  | s n =>
    simp only [Machine.readSrc] at h
    split at h
    · simp at h
    · rename_i hp; cases h; exact popStream hp
  | k n =>
    simp only [Machine.readSrc] at h
    split at h
    · simp at h
    · rename_i hp; cases h; exact popChannel hp
  | pool => cases h; exact refl _

theorem readVSrc {s : State} {c c' : Context} {w : Nat} {fl : Bool} {a : VSrc} {x : Row} (h : readVSrc s c w fl a = .ok (c', x)) :
    SameRegs c c' := by
  cases a with
  | v r =>
    simp only [Machine.readVSrc] at h
    split at h
    · simp at h
    · cases h; exact refl _
  | vb n => cases h; exact refl _
  | s n =>
    simp only [Machine.readVSrc] at h
    split at h
    · simp at h
    · rename_i hp; cases h; exact popStream hp
  | k n =>
    simp only [Machine.readVSrc] at h
    split at h
    · simp at h
    · rename_i hp; cases h; exact popChannel hp
  | bc r =>
    simp only [Machine.readVSrc] at h
    split at h
    · simp at h
    · cases h; exact refl _
  | vck t => cases h; exact refl _
  | pool => cases h; exact refl _

theorem writeDst {s : State} {c c' : Context} {d : Dst} {lat : Nat} {v : W64} {fl : Flags} (h : writeDst s c d lat v fl = .ok c') :
    SameRegs c c' := by
  cases d with
  | g r => cases h; exact flyAdd _ _ _ _
  | latch n => cases h; exact flyAdd _ _ _ _
  | s n =>
    simp only [Machine.writeDst] at h
    split at h
    · simp at h
    · rename_i hp; cases h; exact (pushStream hp).trans (flyAdd _ _ _ _)
  | k n =>
    simp only [Machine.writeDst] at h
    split at h
    · simp at h
    · rename_i hp; cases h; exact (pushChannel hp).trans (flyAdd _ _ _ _)

theorem writeVDst {s : State} {c c' : Context} {d : VDst} {lat : Nat} {x : Row} {fl : Flags} {more : List Wr}
    (h : writeVDst s c d lat x fl more = .ok c') : SameRegs c c' := by
  cases d with
  | v r => cases h; exact flyAdd _ _ _ _
  | latch n => cases h; exact flyAdd _ _ _ _
  | s n =>
    simp only [Machine.writeVDst] at h
    split at h
    · simp at h
    · rename_i hp; cases h; exact (pushStream hp).trans (flyAdd _ _ _ _)
  | k n =>
    simp only [Machine.writeVDst] at h
    split at h
    · simp at h
    · rename_i hp; cases h; exact (pushChannel hp).trans (flyAdd _ _ _ _)

end SameRegs

end Sys2Proof
end

