-- ==== Sys2Proof/Tests/Slice0.lean ====
section
/-!
SUPPORT. Small tests of the decoder and of the meanings, and the witnesses of the statements' hypotheses: each witness shows a state and
operands that meet them together, at a boundary where a clause has a range.
-/
namespace Sys2Proof.Tests

set_option Elab.async false
open Sys2Proof.Machine Sys2Proof.Stated

/-! ### A small state: one strand of plot 1 in context 0 of core 0, with two segments and one weight-store block -/

def gsA : Vector W64 64 := (((((Vector.replicate 64 0).set 1 5).set 2 (BitVec.ofInt 64 (-3))).set 3 0x3F800000).set 4 (BitVec.allOnes 64)).set 5 0x8000000000000000
def asA : Vector W32 16 := (((((Vector.replicate 16 0).set 1 0x40).set 2 0x1FFF8).set 3 0x20000).set 4 0x43).set 5 0x1FE00
def msA : Vector W64 16 := (((Vector.replicate 16 0).set 1 0xFFFFFFF0).set 2 0x4000000600000010).set 3 0xC010000000100002
def rowA : Row := 0x000000037FFFFFFF80000000FFFFFFFF00000005#4096
def tileA : Tile := { Tile.zero with rows := Tile.zero.rows.set 1 rowA }
def archA : Arch := { Arch.start with g := gsA, a := asA, m := msA, t0 := tileA, t1 := { tileA with ty := .i16 } }
def ctxA : Context := { Context.empty with st := .running, plot := 1, w := archA, group := 1, latch := Context.empty.latch.set 3 9 }
def plotA : Plot := { Plot.absent with live := true, estate := 1, grants := [.core 0, .segment 0, .segment 1, .block 0] }
def groupA : Group := ⟨1, 0, 0, [0], [true], [false], 0, 4000000, 1000, false, none⟩
def stA : State :=
  { State.reset with ctxs := [(0, ctxA)], plots := [(0, { Plot.absent with live := true }), (1, plotA)], groups := [(1, groupA)]
                     cores := [(0, { Core.zero with running := some 0 })] }
/-- The same state with another context 0. -/
def stC (c : Context) : State := { stA with ctxs := [(0, c)] }
/-- A guard that tests bit 0 of g1, which is 1. -/
def gd1 : Guard := ⟨1, 0, true⟩
/-- The state after a step. -/
def after (o : St State) : State := match o with
  | .next s => s
  | _ => stA
/-- What the last result that context 0 has in flight will write. -/
def flown (o : St State) : List Wr := (((after o).ctx 0).fly.getLast?.map Fly.ws).getD []

theorem guard_on : GuardOn stA gd1 := ⟨_, rfl, rfl⟩

theorem test_reset_canonical : Canonical State.reset := by
  refine ⟨reset_mem_wf, ?_⟩
  decide
theorem witness_EveryStepKeepsMemoryCanonical :
    Canonical { stA with mem := [(0, 7), (0xFFFF, 1)] } ∧ ∃ t, step { stA with mem := [(0, 7), (0xFFFF, 1)], sched := [.purseDecay] } = .next t := by
  refine ⟨⟨by decide, ?_⟩, _, rfl⟩
  decide

/-! ### Decoding: every instruction's word, written out field by field from the slot formats and opcode maps (R66 to R80) -/

/-- R66, R75. -/
theorem test_branch_words :
    decodeSlot .branch 0x0 = .ok (.bnop) ∧
    decodeSlot .branch 0x1B3DFFB3 = .ok (.b 44 61 true (-77)) ∧
    decodeSlot .branch 0x2B3DFFB3 = .ok (.bA 44 61 true (-77)) ∧
    decodeSlot .branch 0x3B3D2600 = .ok (.br 44 61 false 19) ∧
    decodeSlot .branch 0x4B3D2600 = .ok (.brA 44 61 false 19) ∧
    decodeSlot .branch 0x57407FB3 = .ok (.call 29 (-77)) ∧
    decodeSlot .branch 0x67402600 = .ok (.callr 29 19) ∧
    decodeSlot .branch 0x7CA0812C = .ok (.bvu 101 true 300) ∧
    decodeSlot .branch 0x8CA0812C = .ok (.bvuA 101 true 300) ∧
    decodeSlot .branch 0x9940012C = .ok (.loop 37 300) ∧
    decodeSlot .branch 0xABB9012C = .ok (.loopi 3001 300) ∧
    decodeSlot .branch 0xB9606800 = .ok (.loopm 37 129 5) ∧
    decodeSlot .branch 0xCBB981A0 = .ok (.loopmi 3001 129 5) ∧
    decodeSlot .branch 0xDB3D8000 = .ok (.lexit 44 61 true) ∧
    decodeSlot .branch 0xE0000000 = .ok (.exit) ∧
    decodeSlot .branch 0xF000BEEF = .ok (.trap 0xBEEF) := by
  decide +kernel

/-- R67 to R70, R76. -/
theorem test_scalar_words_a :
    decodeSlot .scalar 0x0 = .ok (.snop) ∧
    decodeSlot .scalar 0x2E5835A87F80 = .ok (.add ⟨11, 37, true⟩ (.g 45) (.g 33) .pool) ∧
    decodeSlot .scalar 0x2E5855B1DF00 = .ok (.sub ⟨11, 37, true⟩ (.g 45) (.b 7) (.g 62)) ∧
    decodeSlot .scalar 0x2E586076E780 = .ok (.adds ⟨11, 37, true⟩ (.latch 3) (.s 11) (.b 15)) ∧
    decodeSlot .scalar 0x2E5880797F80 = .ok (.subs ⟨11, 37, true⟩ (.latch 3) (.k 5) .pool) ∧
    decodeSlot .scalar 0x2E58BB285F00 = .ok (.addus ⟨11, 37, true⟩ (.s 9) (.g 33) (.g 62)) ∧
    decodeSlot .scalar 0x2E58DB31E780 = .ok (.subus ⟨11, 37, true⟩ (.s 9) (.b 7) (.b 15)) ∧
    decodeSlot .scalar 0x2E593CD6FF80 = .ok (.mul ⟨11, 37, true⟩ (.k 6) (.s 11) .pool) ∧
    decodeSlot .scalar 0x2E595CD95F00 = .ok (.mulh ⟨11, 37, true⟩ (.k 6) (.k 5) (.g 62)) ∧
    decodeSlot .scalar 0x2E5975A86780 = .ok (.mulhu ⟨11, 37, true⟩ (.g 45) (.g 33) (.b 15)) ∧
    decodeSlot .scalar 0x2E59B5B1FF80 = .ok (.div ⟨11, 37, true⟩ (.g 45) (.b 7) .pool) ∧
    decodeSlot .scalar 0x2E59C076DF00 = .ok (.divu ⟨11, 37, true⟩ (.latch 3) (.s 11) (.g 62)) ∧
    decodeSlot .scalar 0x2E59E0796780 = .ok (.rem ⟨11, 37, true⟩ (.latch 3) (.k 5) (.b 15)) ∧
    decodeSlot .scalar 0x2E5A1B287F80 = .ok (.remu ⟨11, 37, true⟩ (.s 9) (.g 33) .pool) ∧
    decodeSlot .scalar 0x2E5A3B31DF00 = .ok (.and ⟨11, 37, true⟩ (.s 9) (.b 7) (.g 62)) ∧
    decodeSlot .scalar 0x2E5A5CD6E780 = .ok (.or ⟨11, 37, true⟩ (.k 6) (.s 11) (.b 15)) ∧
    decodeSlot .scalar 0x2E5A7CD97F80 = .ok (.xor ⟨11, 37, true⟩ (.k 6) (.k 5) .pool) ∧
    decodeSlot .scalar 0x2E5A95A85F00 = .ok (.andn ⟨11, 37, true⟩ (.g 45) (.g 33) (.g 62)) ∧
    decodeSlot .scalar 0x2E5AB5B1E780 = .ok (.orn ⟨11, 37, true⟩ (.g 45) (.b 7) (.b 15)) ∧
    decodeSlot .scalar 0x2E5AC076FF80 = .ok (.shl ⟨11, 37, true⟩ (.latch 3) (.s 11) .pool) := by
  decide +kernel

/-- R67 to R70, R76. -/
theorem test_scalar_words_b :
    decodeSlot .scalar 0x2E5AE0795F00 = .ok (.shr ⟨11, 37, true⟩ (.latch 3) (.k 5) (.g 62)) ∧
    decodeSlot .scalar 0x2E5B1B286780 = .ok (.sra ⟨11, 37, true⟩ (.s 9) (.g 33) (.b 15)) ∧
    decodeSlot .scalar 0x2E5B3B31FF80 = .ok (.rol ⟨11, 37, true⟩ (.s 9) (.b 7) .pool) ∧
    decodeSlot .scalar 0x2E5CFCD6DF00 = .ok (.min ⟨11, 37, true⟩ (.k 6) (.s 11) (.g 62)) ∧
    decodeSlot .scalar 0x2E5D1CD96780 = .ok (.max ⟨11, 37, true⟩ (.k 6) (.k 5) (.b 15)) ∧
    decodeSlot .scalar 0x2E5D35A87F80 = .ok (.minu ⟨11, 37, true⟩ (.g 45) (.g 33) .pool) ∧
    decodeSlot .scalar 0x2E5D55B1DF00 = .ok (.maxu ⟨11, 37, true⟩ (.g 45) (.b 7) (.g 62)) ∧
    decodeSlot .scalar 0x2E5B55A84000 = .ok (.clz ⟨11, 37, true⟩ (.g 45) (.g 33)) ∧
    decodeSlot .scalar 0x2E5B75A84000 = .ok (.ctz ⟨11, 37, true⟩ (.g 45) (.g 33)) ∧
    decodeSlot .scalar 0x2E5B95A84000 = .ok (.popc ⟨11, 37, true⟩ (.g 45) (.g 33)) ∧
    decodeSlot .scalar 0x2E5BA0487FBA = .ok (.bext ⟨11, 37, true⟩ (.latch 2) (.g 33) .pool 58) ∧
    decodeSlot .scalar 0x2E5BD5A84ABA = .ok (.bins ⟨11, 37, true⟩ 45 (.g 33) (.g 21) 58) ∧
    decodeSlot .scalar 0x2E5BF5A8403A = .ok (.sext ⟨11, 37, true⟩ (.g 45) (.g 33) 58) ∧
    decodeSlot .scalar 0x2E5C15A8403A = .ok (.zext ⟨11, 37, true⟩ (.g 45) (.g 33) 58) ∧
    decodeSlot .scalar 0x2E5C35A84ABA = .ok (.cmpeq ⟨11, 37, true⟩ 45 58 (.g 33) (.g 21)) ∧
    decodeSlot .scalar 0x2E5C55A84ABA = .ok (.cmpne ⟨11, 37, true⟩ 45 58 (.g 33) (.g 21)) ∧
    decodeSlot .scalar 0x2E5C75A84ABA = .ok (.cmplt ⟨11, 37, true⟩ 45 58 (.g 33) (.g 21)) ∧
    decodeSlot .scalar 0x2E5C95A84ABA = .ok (.cmple ⟨11, 37, true⟩ 45 58 (.g 33) (.g 21)) ∧
    decodeSlot .scalar 0x2E5CB5A84ABA = .ok (.cmpltu ⟨11, 37, true⟩ 45 58 (.g 33) (.g 21)) ∧
    decodeSlot .scalar 0x2E5CD5A84ABA = .ok (.cmpleu ⟨11, 37, true⟩ 45 58 (.g 33) (.g 21)) := by
  decide +kernel

/-- R67 to R70, R76. -/
theorem test_scalar_words_c :
    decodeSlot .scalar 0x2E5F15A84ABA = .ok (.fcmpeq ⟨11, 37, true⟩ 45 58 (.g 33) (.g 21)) ∧
    decodeSlot .scalar 0x2E5F35A84ABA = .ok (.fcmplt ⟨11, 37, true⟩ 45 58 (.g 33) (.g 21)) ∧
    decodeSlot .scalar 0x2E5F55A84ABA = .ok (.fcmple ⟨11, 37, true⟩ 45 58 (.g 33) (.g 21)) ∧
    decodeSlot .scalar 0x2E5F75A84ABA = .ok (.fcmpun ⟨11, 37, true⟩ 45 58 (.g 33) (.g 21)) ∧
    decodeSlot .scalar 0x2E5DF5A8597A = .ok (.movb ⟨11, 37, true⟩ 45 58 true (.g 33) 50) ∧
    decodeSlot .scalar 0x2E5E15A87F80 = .ok (.fadd ⟨11, 37, true⟩ (.g 45) (.g 33) .pool .dyn) ∧
    decodeSlot .scalar 0x2E5E35A87F81 = .ok (.fsub ⟨11, 37, true⟩ (.g 45) (.g 33) .pool .rne) ∧
    decodeSlot .scalar 0x2E5E55A87F82 = .ok (.fmul ⟨11, 37, true⟩ (.g 45) (.g 33) .pool .rtz) ∧
    decodeSlot .scalar 0x2E5E95A87F83 = .ok (.fmin ⟨11, 37, true⟩ (.g 45) (.g 33) .pool .rdn) ∧
    decodeSlot .scalar 0x2E5EB5A87F84 = .ok (.fmax ⟨11, 37, true⟩ (.g 45) (.g 33) .pool .rup) ∧
    decodeSlot .scalar 0x2E5ED5A87F85 = .ok (.fminnum ⟨11, 37, true⟩ (.g 45) (.g 33) .pool .sr) ∧
    decodeSlot .scalar 0x2E5EF5A87F80 = .ok (.fmaxnum ⟨11, 37, true⟩ (.g 45) (.g 33) .pool .dyn) ∧
    decodeSlot .scalar 0x2E5E75A87F85 = .ok (.fma ⟨11, 37, true⟩ 45 (.g 33) .pool .sr) ∧
    decodeSlot .scalar 0x2E5F95A84003 = .ok (.fcvtif ⟨11, 37, true⟩ (.g 45) (.g 33) .rdn) ∧
    decodeSlot .scalar 0x2E5FA0284004 = .ok (.fcvtfi ⟨11, 37, true⟩ (.latch 1) (.g 33) .rup) ∧
    decodeSlot .scalar 0x2E5FD5A8401A = .ok (.fcvtf ⟨11, 37, true⟩ (.g 45) (.g 33) 3 .rtz) ∧
    decodeSlot .scalar 0x2E5FF5A84000 = .ok (.fclass ⟨11, 37, true⟩ (.g 45) (.g 33)) ∧
    decodeSlot .scalar 0x2E58F642AEF5 = .ok (.adc ⟨11, 37, true⟩ 44 33 21 13 58 true) ∧
    decodeSlot .scalar 0x2E591642AEF5 = .ok (.sbc ⟨11, 37, true⟩ 44 33 21 13 58 true) ∧
    decodeSlot .scalar 0x2E599642AEF5 = .ok (.madc ⟨11, 37, true⟩ 44 33 21 13 58 true) := by
  decide +kernel

/-- R67 to R70, R76. -/
theorem test_scalar_words_d :
    decodeSlot .scalar 0x2E5D75BFFFFB = .ok (.movi ⟨11, 37, true⟩ (.g 45) (-5)) ∧
    decodeSlot .scalar 0x2E5D95B5F778 = .ok (.movk ⟨11, 37, true⟩ 45 2 0xBEEF) ∧
    decodeSlot .scalar 0x2E5DB5A0057C = .ok (.mfs ⟨11, 37, true⟩ (.g 45) 0x15F) ∧
    decodeSlot .scalar 0x2E5DC008457C = .ok (.mts ⟨11, 37, true⟩ (.g 33) 0x15F) := by
  decide +kernel

/-- R71, R77. -/
theorem test_address_words_a :
    decodeSlot .address 0x0 = .ok (.anop) ∧
    decodeSlot .address 0x2E586B7484 = .ok (.lds ⟨11, 37, true⟩ (.g 45) 13 (.off 0x84)) ∧
    decodeSlot .address 0x2E5880F57C = .ok (.ldw ⟨11, 37, true⟩ (.latch 3) 13 (.post 0x7C)) ∧
    decodeSlot .address 0x2E58F67609 = .ok (.ldwu ⟨11, 37, true⟩ (.s 9) 13 (.postM 9)) ∧
    decodeSlot .address 0x2E5939B70E = .ok (.ldh ⟨11, 37, true⟩ (.k 6) 13 (.preM 14)) ∧
    decodeSlot .address 0x2E596B7484 = .ok (.ldhu ⟨11, 37, true⟩ (.g 45) 13 (.off 0x84)) ∧
    decodeSlot .address 0x2E5980F57C = .ok (.ldb ⟨11, 37, true⟩ (.latch 3) 13 (.post 0x7C)) ∧
    decodeSlot .address 0x2E59F67609 = .ok (.ldbu ⟨11, 37, true⟩ (.s 9) 13 (.postM 9)) ∧
    decodeSlot .address 0x2E5BB9B70E = .ok (.wlds ⟨11, 37, true⟩ (.k 6) 13 (.preM 14)) ∧
    decodeSlot .address 0x2E5D6B7484 = .ok (.lea ⟨11, 37, true⟩ (.g 45) 13 (.off 0x84)) ∧
    decodeSlot .address 0x2E5A0B7484 = .ok (.sts ⟨11, 37, true⟩ (.g 45) 13 (.off 0x84)) ∧
    decodeSlot .address 0x2E5A51F57C = .ok (.stw ⟨11, 37, true⟩ (.b 7) 13 (.post 0x7C)) ∧
    decodeSlot .address 0x2E5A96F609 = .ok (.sth ⟨11, 37, true⟩ (.s 11) 13 (.postM 9)) ∧
    decodeSlot .address 0x2E5ADFF70E = .ok (.stb ⟨11, 37, true⟩ .pool 13 (.preM 14)) ∧
    decodeSlot .address 0x2E5B397484 = .ok (.ldv ⟨11, 37, true⟩ 101 13 (.off 0x84)) ∧
    decodeSlot .address 0x2E5B59757C = .ok (.stv ⟨11, 37, true⟩ 101 13 (.post 0x7C)) ∧
    decodeSlot .address 0x2E5BF97609 = .ok (.wldv ⟨11, 37, true⟩ 101 13 (.postM 9)) ∧
    decodeSlot .address 0x2E5C1FF400 = .ok (.aadd ⟨11, 37, true⟩ 13 .pool) ∧
    decodeSlot .address 0x2E5C4B7400 = .ok (.amov ⟨11, 37, true⟩ 13 (.g 45)) ∧
    decodeSlot .address 0x2E5CAB7400 = .ok (.aget ⟨11, 37, true⟩ (.g 45) 13) := by
  decide +kernel

/-- R71, R77. -/
theorem test_address_words_b :
    decodeSlot .address 0x2E5CCB400E = .ok (.mset ⟨11, 37, true⟩ 14 (.g 45)) ∧
    decodeSlot .address 0x2E5D2B400E = .ok (.mget ⟨11, 37, true⟩ (.g 45) 14) ∧
    decodeSlot .address 0x2E5DAB743A = .ok (.acmplt ⟨11, 37, true⟩ 45 58 13) ∧
    decodeSlot .address 0x2E5DC0370E = .ok (.clrv ⟨11, 37, true⟩ 13 (.preM 14)) := by
  decide +kernel

/-- R72, R78, R165 to R190. -/
theorem test_vector_words_a :
    decodeSlot .vector 0x0 = .ok (.vnop) ∧
    decodeSlot .vector 0x2E582B2A37F800 = .ok (.vadd ⟨11, 37, true⟩ (.v 101) (.v 70) .pool) ∧
    decodeSlot .vector 0x2E5830346BC000 = .ok (.vsub ⟨11, 37, true⟩ (.latch 6) (.vb 13) (.v 120)) ∧
    decodeSlot .vector 0x2E584CCCDF3000 = .ok (.vadds ⟨11, 37, true⟩ (.s 9) (.s 11) (.bc 62)) ∧
    decodeSlot .vector 0x2E585D352FF800 = .ok (.vsubs ⟨11, 37, true⟩ (.k 6) (.k 5) .pool) ∧
    decodeSlot .vector 0x2E586B2E4BC000 = .ok (.vaddus ⟨11, 37, true⟩ (.v 101) (.bc 33) (.v 120)) ∧
    decodeSlot .vector 0x2E587032373000 = .ok (.vsubus ⟨11, 37, true⟩ (.latch 6) (.v 70) (.bc 62)) ∧
    decodeSlot .vector 0x2E589CCC6FF800 = .ok (.vmulh ⟨11, 37, true⟩ (.s 9) (.vb 13) .pool) ∧
    decodeSlot .vector 0x2E58AD34DBC000 = .ok (.vmulhu ⟨11, 37, true⟩ (.k 6) (.s 11) (.v 120)) ∧
    decodeSlot .vector 0x2E593B2D2F3000 = .ok (.vmini ⟨11, 37, true⟩ (.v 101) (.k 5) (.bc 62)) ∧
    decodeSlot .vector 0x2E5940364FF800 = .ok (.vmaxi ⟨11, 37, true⟩ (.latch 6) (.bc 33) .pool) ∧
    decodeSlot .vector 0x2E595CCA33C000 = .ok (.vminu ⟨11, 37, true⟩ (.s 9) (.v 70) (.v 120)) ∧
    decodeSlot .vector 0x2E596D346F3000 = .ok (.vmaxu ⟨11, 37, true⟩ (.k 6) (.vb 13) (.bc 62)) ∧
    decodeSlot .vector 0x2E597B2CDFF800 = .ok (.vclamp ⟨11, 37, true⟩ (.v 101) (.s 11) .pool) ∧
    decodeSlot .vector 0x2E5980352BC000 = .ok (.vavg ⟨11, 37, true⟩ (.latch 6) (.k 5) (.v 120)) ∧
    decodeSlot .vector 0x2E599CCE4F3000 = .ok (.vavgu ⟨11, 37, true⟩ (.s 9) (.bc 33) (.bc 62)) ∧
    decodeSlot .vector 0x2E59AD3237F800 = .ok (.vabd ⟨11, 37, true⟩ (.k 6) (.v 70) .pool) ∧
    decodeSlot .vector 0x2E59BB2C6BC000 = .ok (.vabdu ⟨11, 37, true⟩ (.v 101) (.vb 13) (.v 120)) ∧
    decodeSlot .vector 0x2E59C034DF3000 = .ok (.vand ⟨11, 37, true⟩ (.latch 6) (.s 11) (.bc 62)) ∧
    decodeSlot .vector 0x2E59DCCD2FF800 = .ok (.vor ⟨11, 37, true⟩ (.s 9) (.k 5) .pool) := by
  decide +kernel

/-- R72, R78, R165 to R190. -/
theorem test_vector_words_b :
    decodeSlot .vector 0x2E59ED364BC000 = .ok (.vxor ⟨11, 37, true⟩ (.k 6) (.bc 33) (.v 120)) ∧
    decodeSlot .vector 0x2E59FB2A373000 = .ok (.vandn ⟨11, 37, true⟩ (.v 101) (.v 70) (.bc 62)) ∧
    decodeSlot .vector 0x2E5A20346FF800 = .ok (.vshr ⟨11, 37, true⟩ (.latch 6) (.vb 13) .pool) ∧
    decodeSlot .vector 0x2E5A3CCCDBC000 = .ok (.vsra ⟨11, 37, true⟩ (.s 9) (.s 11) (.v 120)) ∧
    decodeSlot .vector 0x2E5A4D352F3000 = .ok (.vrol ⟨11, 37, true⟩ (.k 6) (.k 5) (.bc 62)) ∧
    decodeSlot .vector 0x2E5ADB2E4FF800 = .ok (.vcmpeq ⟨11, 37, true⟩ (.v 101) (.bc 33) .pool) ∧
    decodeSlot .vector 0x2E5AE03233C000 = .ok (.vcmpne ⟨11, 37, true⟩ (.latch 6) (.v 70) (.v 120)) ∧
    decodeSlot .vector 0x2E5AFCCC6F3000 = .ok (.vcmplt ⟨11, 37, true⟩ (.s 9) (.vb 13) (.bc 62)) ∧
    decodeSlot .vector 0x2E5B0D34DFF800 = .ok (.vcmple ⟨11, 37, true⟩ (.k 6) (.s 11) .pool) ∧
    decodeSlot .vector 0x2E5B1B2D2BC000 = .ok (.vcmpltu ⟨11, 37, true⟩ (.v 101) (.k 5) (.v 120)) ∧
    decodeSlot .vector 0x2E5B20364F3000 = .ok (.vcmpleu ⟨11, 37, true⟩ (.latch 6) (.bc 33) (.bc 62)) ∧
    decodeSlot .vector 0x2E5BDCCA37F800 = .ok (.vmin ⟨11, 37, true⟩ (.s 9) (.v 70) .pool) ∧
    decodeSlot .vector 0x2E5BED346BC000 = .ok (.vmax ⟨11, 37, true⟩ (.k 6) (.vb 13) (.v 120)) ∧
    decodeSlot .vector 0x2E5BFB2CDF3000 = .ok (.vminnum ⟨11, 37, true⟩ (.v 101) (.s 11) (.bc 62)) ∧
    decodeSlot .vector 0x2E5C00352FF800 = .ok (.vmaxnum ⟨11, 37, true⟩ (.latch 6) (.k 5) .pool) ∧
    decodeSlot .vector 0x2E5C1CCE4BC000 = .ok (.vfclamp ⟨11, 37, true⟩ (.s 9) (.bc 33) (.v 120)) ∧
    decodeSlot .vector 0x2E5C4D32373000 = .ok (.vfcopys ⟨11, 37, true⟩ (.k 6) (.v 70) (.bc 62)) ∧
    decodeSlot .vector 0x2E5C6B2C6FF800 = .ok (.vfcmpeq ⟨11, 37, true⟩ (.v 101) (.vb 13) .pool) ∧
    decodeSlot .vector 0x2E5C7034DBC000 = .ok (.vfcmplt ⟨11, 37, true⟩ (.latch 6) (.s 11) (.v 120)) ∧
    decodeSlot .vector 0x2E5C8CCD2F3000 = .ok (.vfcmple ⟨11, 37, true⟩ (.s 9) (.k 5) (.bc 62)) := by
  decide +kernel

/-- R72, R78, R165 to R190. -/
theorem test_vector_words_c :
    decodeSlot .vector 0x2E5C9D364FF800 = .ok (.vfcmpun ⟨11, 37, true⟩ (.k 6) (.bc 33) .pool) ∧
    decodeSlot .vector 0x2E5E2B2A33C000 = .ok (.vbcast ⟨11, 37, true⟩ (.v 101) (.v 70) (.v 120)) ∧
    decodeSlot .vector 0x2E5E30346F3000 = .ok (.vperm ⟨11, 37, true⟩ (.latch 6) (.vb 13) (.bc 62)) ∧
    decodeSlot .vector 0x2E5E5CCCDFF800 = .ok (.vrotl ⟨11, 37, true⟩ (.s 9) (.s 11) .pool) ∧
    decodeSlot .vector 0x2E5E6D352BC000 = .ok (.vslide ⟨11, 37, true⟩ (.k 6) (.k 5) (.v 120)) ∧
    decodeSlot .vector 0x2E588B2E4F3080 = .ok (.vmul ⟨11, 37, true⟩ (.v 101) (.bc 33) (.bc 62) true) ∧
    decodeSlot .vector 0x2E5A103237F880 = .ok (.vshl ⟨11, 37, true⟩ (.latch 6) (.v 70) .pool true) ∧
    decodeSlot .vector 0x2E581CCC680000 = .ok (.vmov ⟨11, 37, true⟩ (.s 9) (.vb 13)) ∧
    decodeSlot .vector 0x2E5A5D34D80000 = .ok (.vclz ⟨11, 37, true⟩ (.k 6) (.s 11)) ∧
    decodeSlot .vector 0x2E5A6B2D280000 = .ok (.vpopc ⟨11, 37, true⟩ (.v 101) (.k 5)) ∧
    decodeSlot .vector 0x2E5AB036480000 = .ok (.vrev ⟨11, 37, true⟩ (.latch 6) (.bc 33)) ∧
    decodeSlot .vector 0x2E5ACCCA300000 = .ok (.vbswap ⟨11, 37, true⟩ (.s 9) (.v 70)) ∧
    decodeSlot .vector 0x2E5BBD34680000 = .ok (.vfabs ⟨11, 37, true⟩ (.k 6) (.vb 13)) ∧
    decodeSlot .vector 0x2E5BCB2CD80000 = .ok (.vfneg ⟨11, 37, true⟩ (.v 101) (.s 11)) ∧
    decodeSlot .vector 0x2E5C3035280000 = .ok (.vfclass ⟨11, 37, true⟩ (.latch 6) (.k 5)) ∧
    decodeSlot .vector 0x2E5D9CCE480000 = .ok (.vredadd ⟨11, 37, true⟩ (.s 9) (.bc 33)) ∧
    decodeSlot .vector 0x2E5DED32300000 = .ok (.vredfmin ⟨11, 37, true⟩ (.k 6) (.v 70)) ∧
    decodeSlot .vector 0x2E5DFB2C680000 = .ok (.vredfmax ⟨11, 37, true⟩ (.v 101) (.vb 13)) ∧
    decodeSlot .vector 0x2E5E0034D80000 = .ok (.vredand ⟨11, 37, true⟩ (.latch 6) (.s 11)) ∧
    decodeSlot .vector 0x2E5E1CCD280000 = .ok (.vredor ⟨11, 37, true⟩ (.s 9) (.k 5)) := by
  decide +kernel

/-- R72, R78, R165 to R190. -/
theorem test_vector_words_d :
    decodeSlot .vector 0x2E5E9D36480000 = .ok (.vrevl ⟨11, 37, true⟩ (.k 6) (.bc 33)) ∧
    decodeSlot .vector 0x2E5D1B2A300000 = .ok (.vdqnq4 ⟨11, 37, true⟩ (.v 101) (.v 70)) ∧
    decodeSlot .vector 0x2E591B2A300080 = .ok (.vabs ⟨11, 37, true⟩ (.v 101) (.v 70) true) ∧
    decodeSlot .vector 0x2E592B2A300080 = .ok (.vneg ⟨11, 37, true⟩ (.v 101) (.v 70) true) ∧
    decodeSlot .vector 0x2E5A9B2A30003A = .ok (.vsext ⟨11, 37, true⟩ (.v 101) (.v 70) 58) ∧
    decodeSlot .vector 0x2E5AAB2A30003A = .ok (.vzext ⟨11, 37, true⟩ (.v 101) (.v 70) 58) ∧
    decodeSlot .vector 0x2E5A7B2A33C03A = .ok (.vbext ⟨11, 37, true⟩ (.v 101) (.v 70) (.v 120) 58) ∧
    decodeSlot .vector 0x2E5A8B2A33C03A = .ok (.vbins ⟨11, 37, true⟩ 101 (.v 70) (.v 120) 58) ∧
    decodeSlot .vector 0x2E5A0B2A33C000 = .ok (.vbitsel ⟨11, 37, true⟩ 101 (.v 70) (.v 120)) ∧
    decodeSlot .vector 0x2E5B3B2A33C000 = .ok (.vsel ⟨11, 37, true⟩ 101 (.v 70) (.v 120)) ∧
    decodeSlot .vector 0x2E5E4B2A33C000 = .ok (.vshuf ⟨11, 37, true⟩ 101 (.v 70) (.v 120)) ∧
    decodeSlot .vector 0x2E58BB2A33C002 = .ok (.vmulw ⟨11, 37, true⟩ (.v 101) (.v 70) (.v 120) false true) ∧
    decodeSlot .vector 0x2E58CB2A33C081 = .ok (.vmacw ⟨11, 37, true⟩ 101 (.v 70) (.v 120) true false true) ∧
    decodeSlot .vector 0x2E58DB2A33C082 = .ok (.vdot4 ⟨11, 37, true⟩ 101 (.v 70) (.v 120) false true true) ∧
    decodeSlot .vector 0x2E58FB2A33C163 = .ok (.vadc ⟨11, 37, true⟩ (.v 101) (.v 70) (.v 120) 99 true) ∧
    decodeSlot .vector 0x2E59002A33C063 = .ok (.vsbc ⟨11, 37, true⟩ (.latch 5) (.v 70) (.v 120) 99 false) ∧
    decodeSlot .vector 0x2E58EB2233C163 = .ok (.vmadc ⟨11, 37, true⟩ 100 (.v 70) (.v 120) 99 true) ∧
    decodeSlot .vector 0x2E5B4B2A37F900 = .ok (.vfadd ⟨11, 37, true⟩ (.v 101) (.v 70) .pool .rne) ∧
    decodeSlot .vector 0x2E5B5B2A37FA00 = .ok (.vfsub ⟨11, 37, true⟩ (.v 101) (.v 70) .pool .rtz) ∧
    decodeSlot .vector 0x2E5B6B2A37FB00 = .ok (.vfmul ⟨11, 37, true⟩ (.v 101) (.v 70) .pool .rdn) := by
  decide +kernel

/-- R72, R78, R165 to R190. -/
theorem test_vector_words_e :
    decodeSlot .vector 0x2E5C5B2A37FC00 = .ok (.vfscale ⟨11, 37, true⟩ (.v 101) (.v 70) .pool .rup) ∧
    decodeSlot .vector 0x2E5B7B2A37FB00 = .ok (.vfma ⟨11, 37, true⟩ 101 (.v 70) .pool .rdn) ∧
    decodeSlot .vector 0x2E5B8B2A37FC00 = .ok (.vfms ⟨11, 37, true⟩ 101 (.v 70) .pool .rup) ∧
    decodeSlot .vector 0x2E5B9B2A37FD00 = .ok (.vfnma ⟨11, 37, true⟩ 101 (.v 70) .pool .sr) ∧
    decodeSlot .vector 0x2E5BAB2A33C402 = .ok (.vfmaw ⟨11, 37, true⟩ 101 (.v 70) (.v 120) false true .rup) ∧
    decodeSlot .vector 0x2E5C2B2A300000 = .ok (.vfrnd ⟨11, 37, true⟩ (.v 101) (.v 70) .dyn) ∧
    decodeSlot .vector 0x2E5D2B2A300100 = .ok (.vrcp ⟨11, 37, true⟩ (.v 101) (.v 70) .rne) ∧
    decodeSlot .vector 0x2E5D3B2A300200 = .ok (.vrsqrt ⟨11, 37, true⟩ (.v 101) (.v 70) .rtz) ∧
    decodeSlot .vector 0x2E5D4B2A300300 = .ok (.vexp2 ⟨11, 37, true⟩ (.v 101) (.v 70) .rdn) ∧
    decodeSlot .vector 0x2E5D5B2A300400 = .ok (.vlog2 ⟨11, 37, true⟩ (.v 101) (.v 70) .rup) ∧
    decodeSlot .vector 0x2E5DBB2A300500 = .ok (.vredfadd ⟨11, 37, true⟩ (.v 101) (.v 70) .sr) ∧
    decodeSlot .vector 0x2E5CAB2A300201 = .ok (.vcvtfi ⟨11, 37, true⟩ (.v 101) (.v 70) true false .rtz) ∧
    decodeSlot .vector 0x2E5CBB2A300502 = .ok (.vcvtif ⟨11, 37, true⟩ (.v 101) (.v 70) false true .sr) ∧
    decodeSlot .vector 0x2E5CCB2A300505 = .ok (.vcvtff ⟨11, 37, true⟩ (.v 101) (.v 70) 1 true .sr) ∧
    decodeSlot .vector 0x2E5CDB2A30008A = .ok (.vcvtii ⟨11, 37, true⟩ (.v 101) (.v 70) 2 false true true) ∧
    decodeSlot .vector 0x2E5CEB2A300082 = .ok (.vpack ⟨11, 37, true⟩ 101 (.v 70) 2 false true) ∧
    decodeSlot .vector 0x2E5CFB2A300007 = .ok (.vunpack ⟨11, 37, true⟩ (.v 101) (.v 70) 3 true) ∧
    decodeSlot .vector 0x2E5F6B2A300107 = .ok (.vcvt8 ⟨11, 37, true⟩ 101 (.v 70) 3 true .rne) ∧
    decodeSlot .vector 0x2E5F7B2A300002 = .ok (.vcvt8w ⟨11, 37, true⟩ (.v 101) (.v 70) 2 false) ∧
    decodeSlot .vector 0x2E5D0B2A300302 = .ok (.vqnq4 ⟨11, 37, true⟩ (.v 101) (.v 70) 2 .rdn) := by
  decide +kernel

/-- R72, R78, R165 to R190. -/
theorem test_vector_words_f :
    decodeSlot .vector 0x2E5D6B2993C01D = .ok (.vscacc ⟨11, 37, true⟩ 101 50 (.v 120) 29) ∧
    decodeSlot .vector 0x2E5D7F48000000 = .ok (.vcsum ⟨11, 37, true⟩ 1) ∧
    decodeSlot .vector 0x2E5D7B2F400002 = .ok (.vcsumRow ⟨11, 37, true⟩ (.v 101) 0 2) ∧
    decodeSlot .vector 0x2E5D8007480000 = .ok (.vcchk ⟨11, 37, true⟩ 1) ∧
    decodeSlot .vector 0x2E5DAB2A300001 = .ok (.vredaddw ⟨11, 37, true⟩ (.v 101) (.v 70) true) ∧
    decodeSlot .vector 0x2E5DCB2A300001 = .ok (.vredmin ⟨11, 37, true⟩ (.v 101) (.v 70) true) ∧
    decodeSlot .vector 0x2E5DDB2A300001 = .ok (.vredmax ⟨11, 37, true⟩ (.v 101) (.v 70) true) ∧
    decodeSlot .vector 0x2E5E7B2A33C001 = .ok (.vzip ⟨11, 37, true⟩ (.v 101) (.v 70) (.v 120) true) ∧
    decodeSlot .vector 0x2E5E8B2A33C001 = .ok (.vunzip ⟨11, 37, true⟩ (.v 101) (.v 70) (.v 120) true) ∧
    decodeSlot .vector 0x2E5EAB2A33C05D = .ok (.vcompress ⟨11, 37, true⟩ (.v 101) (.v 70) (.v 120) (some 29)) ∧
    decodeSlot .vector 0x2E5EBB2A33C000 = .ok (.vexpand ⟨11, 37, true⟩ (.v 101) (.v 70) (.v 120) none) ∧
    decodeSlot .vector 0x2E5ECB2A362801 = .ok (.vtopk ⟨11, 37, true⟩ (.v 101) (.v 70) (.bc 29) true) ∧
    decodeSlot .vector 0x2E5EDB2A300001 = .ok (.viota ⟨11, 37, true⟩ (.v 101) (.v 70) true) ∧
    decodeSlot .vector 0x2E5EE00236283A = .ok (.vany ⟨11, 37, true⟩ 29 58 (.v 70)) ∧
    decodeSlot .vector 0x2E5EF00236283A = .ok (.vall ⟨11, 37, true⟩ 29 58 (.v 70)) ∧
    decodeSlot .vector 0x2E5F0002362800 = .ok (.vmcount ⟨11, 37, true⟩ 29 (.v 70)) ∧
    decodeSlot .vector 0x2E5F1002362803 = .ok (.vmskg ⟨11, 37, true⟩ 29 (.v 70) 3) ∧
    decodeSlot .vector 0x2E5F2B2E280003 = .ok (.vgmsk ⟨11, 37, true⟩ 101 29 3) ∧
    decodeSlot .vector 0x2E5F3B2E2FF800 = .ok (.vins ⟨11, 37, true⟩ 101 29 .pool) ∧
    decodeSlot .vector 0x2E5F400237F85D = .ok (.vext ⟨11, 37, true⟩ 29 (.v 70) .pool) := by
  decide +kernel

/-- R72, R78, R165 to R190. -/
theorem test_vector_words_g :
    decodeSlot .vector 0x2E5F5000000014 = .ok (.tcfg ⟨11, 37, true⟩ 1 .bf16) := by
  decide +kernel

/-- R73, R79. -/
theorem test_matrix_words :
    decodeSlot .matrix 0x0 = .ok (.mnop) ∧
    decodeSlot .matrix 0x18000000 = .ok (.mclr true) ∧
    decodeSlot .matrix 0x2BAC0000 = .ok (.mpush 5 13 6) ∧
    decodeSlot .matrix 0x3E3C0000 = .ok (.macc 7 1 14) ∧
    decodeSlot .matrix 0x41AC0000 = .ok (.mshift 13 6) ∧
    decodeSlot .matrix 0x5B520000 = .ok (.mdrain 45 18) ∧
    decodeSlot .matrix 0x60000000 = .ok (.mswap) ∧
    decodeSlot .matrix 0x76000000 = .ok (.mcfg 1 2) := by
  decide +kernel

/-- The examples of R201. -/
theorem test_matrix_examples :
    [0x18000000, 0x22460000, 0x30020000, 0x40020000, 0x514C0000, 0x60000000, 0x74000000].map (decodeSlot .matrix) =
      [.ok (.mclr true), .ok (.mpush 1 2 3), .ok (.macc 0 0 1), .ok (.mshift 0 1), .ok (.mdrain 5 12), .ok .mswap, .ok (.mcfg 1 0)] ∧
    decodeSlot .matrix 0x40000001 = .error .reservedField := by
  decide +kernel

/-- R74, R80. -/
theorem test_transfer_words_a :
    decodeSlot .transfer 0x0 = .ok (.xnop) ∧
    decodeSlot .transfer 0x2E582B5083 = .ok (.ldg ⟨11, 37, true⟩ 45 33 3 false .strand) ∧
    decodeSlot .transfer 0x2E584B5096 = .ok (.ldgu ⟨11, 37, true⟩ 45 33 2 true .group) ∧
    decodeSlot .transfer 0x2E586B50B5 = .ok (.ldgnc ⟨11, 37, true⟩ 45 33 1 true .module) ∧
    decodeSlot .transfer 0x2E588B50D8 = .ok (.stg ⟨11, 37, true⟩ 45 33 0 true .system) ∧
    decodeSlot .transfer 0x2E58B950C4 = .ok (.ldgv ⟨11, 37, true⟩ 101 33 true .tenant) ∧
    decodeSlot .transfer 0x2E58D95080 = .ok (.stgv ⟨11, 37, true⟩ 101 33 false .strand) ∧
    decodeSlot .transfer 0x2E58E01080 = .ok (.prefg ⟨11, 37, true⟩ 33) ∧
    decodeSlot .transfer 0x2E590B5082 = .ok (.atadd ⟨11, 37, true⟩ 45 33 false .rlx .strand) ∧
    decodeSlot .transfer 0x2E592B5097 = .ok (.atmin ⟨11, 37, true⟩ 45 33 true .acq .group) ∧
    decodeSlot .transfer 0x2E594B50AA = .ok (.atmax ⟨11, 37, true⟩ 45 33 false .rel .die) ∧
    decodeSlot .transfer 0x2E596B50BF = .ok (.atminu ⟨11, 37, true⟩ 45 33 true .ar .module) ∧
    decodeSlot .transfer 0x2E598B5082 = .ok (.atmaxu ⟨11, 37, true⟩ 45 33 false .rlx .strand) ∧
    decodeSlot .transfer 0x2E59AB50D7 = .ok (.atand ⟨11, 37, true⟩ 45 33 true .acq .system) ∧
    decodeSlot .transfer 0x2E59CB508A = .ok (.ator ⟨11, 37, true⟩ 45 33 false .rel .strand) ∧
    decodeSlot .transfer 0x2E59EB509F = .ok (.atxor ⟨11, 37, true⟩ 45 33 true .ar .group) ∧
    decodeSlot .transfer 0x2E5A0B5082 = .ok (.atxchg ⟨11, 37, true⟩ 45 33 false .rlx .strand) ∧
    decodeSlot .transfer 0x2E5A2B10DF = .ok (.atcas ⟨11, 37, true⟩ 44 33 true .ar .system) ∧
    decodeSlot .transfer 0x2E5A4B50A6 = .ok (.atfadd ⟨11, 37, true⟩ 45 33 .acq .die) ∧
    decodeSlot .transfer 0x2E5A6B50A6 = .ok (.atfmax ⟨11, 37, true⟩ 45 33 .acq .die) := by
  decide +kernel

/-- R74, R80. -/
theorem test_transfer_words_b :
    decodeSlot .transfer 0x2E5A80003C = .ok (.fence ⟨11, 37, true⟩ .ar .module) ∧
    decodeSlot .transfer 0x2E5AAB5085 = .ok (.ldfe ⟨11, 37, true⟩ 45 33 2 true) ∧
    decodeSlot .transfer 0x2E5ACB5086 = .ok (.stfe ⟨11, 37, true⟩ 45 33 3) ∧
    decodeSlot .transfer 0x2E5AEB5081 = .ok (.feset ⟨11, 37, true⟩ 45 33 true) ∧
    decodeSlot .transfer 0x2E5B0B50FA = .ok (.fetest ⟨11, 37, true⟩ 45 58 33) ∧
    decodeSlot .transfer 0x2E5CAB50FA = .ok (.etest ⟨11, 37, true⟩ 45 58 33) ∧
    decodeSlot .transfer 0x2E5B200000 = .ok (.gbar ⟨11, 37, true⟩) ∧
    decodeSlot .transfer 0x2E5B435C00 = .ok (.sbind ⟨11, 37, true⟩ 13 7) ∧
    decodeSlot .transfer 0x2E5B634000 = .ok (.sunbind ⟨11, 37, true⟩ 13) ∧
    decodeSlot .transfer 0x2E5B875800 = .ok (.treg ⟨11, 37, true⟩ 29 6) ∧
    decodeSlot .transfer 0x2E5BA74000 = .ok (.tunreg ⟨11, 37, true⟩ 29) ∧
    decodeSlot .transfer 0x2E5BCA1080 = .ok (.ecopy ⟨11, 37, true⟩ 5 33) ∧
    decodeSlot .transfer 0x2E5BEA1080 = .ok (.emcast ⟨11, 37, true⟩ 5 33) ∧
    decodeSlot .transfer 0x2E5C0A1080 = .ok (.egather ⟨11, 37, true⟩ 5 33) ∧
    decodeSlot .transfer 0x2E5C2A1080 = .ok (.escatter ⟨11, 37, true⟩ 5 33) ∧
    decodeSlot .transfer 0x2E5C4A1080 = .ok (.eplane ⟨11, 37, true⟩ 5 33) ∧
    decodeSlot .transfer 0x2E5C6A1080 = .ok (.efeed ⟨11, 37, true⟩ 5 33) ∧
    decodeSlot .transfer 0x2E5CCA1080 = .ok (.qpush ⟨11, 37, true⟩ 5 33) ∧
    decodeSlot .transfer 0x2E5CEA1080 = .ok (.qpop ⟨11, 37, true⟩ 5 33) ∧
    decodeSlot .transfer 0x2E5E6A1080 = .ok (.cinfo ⟨11, 37, true⟩ 5 33) := by
  decide +kernel

/-- R74, R80. -/
theorem test_transfer_words_c :
    decodeSlot .transfer 0x2E5E8A1080 = .ok (.kslotld ⟨11, 37, true⟩ 5 33) ∧
    decodeSlot .transfer 0x2E5C801080 = .ok (.ewait ⟨11, 37, true⟩ 33) ∧
    decodeSlot .transfer 0x2E5D0B5080 = .ok (.qlen ⟨11, 37, true⟩ 45 33) ∧
    decodeSlot .transfer 0x2E5D201080 = .ok (.cntadd ⟨11, 37, true⟩ 33) ∧
    decodeSlot .transfer 0x2E5D4B4040 = .ok (.cntrd ⟨11, 37, true⟩ (.g 45)) ∧
    decodeSlot .transfer 0x2E5DA0C300 = .ok (.kstat ⟨11, 37, true⟩ (.latch 3) 6) ∧
    decodeSlot .transfer 0x2E5D619100 = .ok (.kbind ⟨11, 37, true⟩ 6 17) ∧
    decodeSlot .transfer 0x2E5D818000 = .ok (.kunbind ⟨11, 37, true⟩ 6) ∧
    decodeSlot .transfer 0x2E5DC01080 = .ok (.susp ⟨11, 37, true⟩ 33) ∧
    decodeSlot .transfer 0x2E5DE01080 = .ok (.cres ⟨11, 37, true⟩ 33) ∧
    decodeSlot .transfer 0x2E5E401080 = .ok (.cdrop ⟨11, 37, true⟩ 33) ∧
    decodeSlot .transfer 0x2E5EA01080 = .ok (.kslotz ⟨11, 37, true⟩ 33) ∧
    decodeSlot .transfer 0x2E5EE01080 = .ok (.notify ⟨11, 37, true⟩ 33) ∧
    decodeSlot .transfer 0x2E5E0B5080 = .ok (.cresT ⟨11, 37, true⟩ 45 33) ∧
    decodeSlot .transfer 0x2E5E2B5080 = .ok (.ccopy ⟨11, 37, true⟩ 45 33) ∧
    decodeSlot .transfer 0x2E5ECA0000 = .ok (.glean ⟨11, 37, true⟩ 5) := by
  decide +kernel

/-! ### Ill-formed instructions: one for each check of wellFormed, each refused; and words that registration rejects -/

/-- R61, R64: the pool stands in no first source. -/
theorem test_pool_first_refused :
    ([.add gd1 (.g 1) .pool (.g 2), .mts gd1 .pool 0x100, .vadd gd1 (.v 1) .pool (.v 2), .vcvtff gd1 (.v 1) .pool 2 false .rne] : List Instr).all
      (fun i => !i.wellFormed) = true := by decide

/-- R16, R67, R69, R73, R74: a number that is not listed, or a code outside its field's values. -/
theorem test_codes_refused :
    ([.mts gd1 (.g 1) 0x160, .mfs gd1 (.g 1) 0x004, .movk gd1 1 4 0, .fcvtf gd1 (.g 1) (.g 2) 4 .rne, .mcfg 4 0, .mcfg 0 4, .ldfe gd1 1 2 4 false,
      .ldg gd1 1 2 4 false .strand, .stg gd1 1 2 4 false .strand, .vcvt8 gd1 1 (.v 2) 4 false .rne, .vqnq4 gd1 (.v 1) (.v 2) 4 .rne, .vgmsk gd1 1 2 4,
      .vcsumRow gd1 (.v 1) 0 3, .vpack gd1 1 (.v 2) 4 false false, .vmskg gd1 1 (.v 2) 4] : List Instr).all (fun i => !i.wellFormed) = true := by decide

/-- R68, R172, R178, R187, R188, R275, R80: pairs start at an even register, a row or a register stands where one must. -/
theorem test_operands_refused :
    ([.madc gd1 45 1 2 0 0 false, .vmadc gd1 45 (.v 1) (.v 2) 3 false, .atcas gd1 45 2 true .acq .die, .vcvtff gd1 (.latch 1) (.v 2) 0 false .rne,
      .vcvtii gd1 (.s 1) (.v 2) 0 false false false, .vscacc gd1 63 1 (.v 2) 1, .vscacc gd1 64 64 (.v 2) 1, .vcsumRow gd1 (.k 1) 0 0, .cntrd gd1 (.s 1),
      .kstat gd1 (.k 1) 0, .viota gd1 (.v 1) (.v 2) false] : List Instr).all (fun i => !i.wellFormed) = true := by decide

/-- R268, R275, R277: a scope other than strand needs an order, and a fence has one. -/
theorem test_orders_refused :
    ([.ldg gd1 1 2 0 false .die, .stg gd1 1 2 0 false .group, .ldgv gd1 1 2 false .system, .stgv gd1 1 2 false .tenant, .atadd gd1 1 2 true .rlx .module,
      .atcas gd1 2 2 true .rlx .die, .fence gd1 .rlx .die] : List Instr).all (fun i => !i.wellFormed) = true := by decide

/-- R83 and the checks 0x04 to 0x07 and 0x09: an unassigned opcode of each slot that has one; a reserved bit; a reserved operand number; the
pool as a first source; a destination above 3 without write-back; an odd pair; an unlisted register number. -/
theorem test_words_rejected :
    decodeSlot .address 0x6000000 = .error .unassignedOpcode ∧ decodeSlot .vector 0x78000000000 = .error .unassignedOpcode ∧
    decodeSlot .matrix 0x80000000 = .error .unassignedOpcode ∧ decodeSlot .transfer 0x7000000 = .error .unassignedOpcode ∧
    decodeSlot .branch 0xE0000001 = .error .reservedField ∧ decodeSlot .scalar 0x30000001 = .error .reservedField ∧
    decodeSlot .scalar (2 ^ 29 + 2 ^ 28 + 104 * 2 ^ 14) = .error .badOperand ∧ decodeSlot .scalar (2 ^ 29 + 2 ^ 28 + 127 * 2 ^ 14) = .error .badOperand ∧
    decodeSlot .scalar (2 ^ 29 + 4 * 2 ^ 21) = .error .badWriteBack ∧ decodeSlot .scalar (0x2D * 2 ^ 29 + 2 ^ 28 + 4 * 2 ^ 2) = .error .unlistedCsr ∧
    decodeSlot .scalar (12 * 2 ^ 29 + 45 * 2 ^ 23) = .error .badOperand := by decide +kernel

/-- The bundle that the encoding chapter writes out after R83: `{ckpt live=3} ADD g4, g5, g6 | LDS g7, a2+=4 | B loop`, as a literal. -/
theorem test_bundle_of_the_manual :
    decodeBundle (0x8003 <<< 368 ||| 0x10000000 <<< 336 ||| 0x000030814300 <<< 288 ||| 0x61C904 <<< 200) =
      .ok { hdr := ⟨true, false, 0, 0, false, false, 3⟩, br := .b 0 0 false 0, scA := .add .always (.g 4) (.g 5) (.g 6), scB := .snop
            ad := .lds .always (.g 7) 2 (.post 4), v0 := .vnop, v1 := .vnop, ma := .mnop, xf := .xnop, pool := 0 } ∧
    Kernel.unitAt ⟨[0xFFFF, 0x8003, 0x1000, 0, 0, 0x3081, 0x4300, 0, 0, 0, 0, 0x61C9, 0x0400, 0, 0, 0, 0, 0, 0, 0, 0, 0, 0, 0, 0], [], [], 0⟩ 0 =
      some (.ok (.lit (0x8003 <<< 368 ||| 0x10000000 <<< 336 ||| 0x000030814300 <<< 288 ||| 0x61C904 <<< 200), 25)) := by decide +kernel

/-! ### Scalar slots -/

theorem witness_ScalarIntegerResults :
    (∃ lat f c1 c2 c3 x y, scalarTwo (.div gd1 (.g 63) (.g 5) (.g 4)) = some (gd1, .g 63, .g 5, .g 4, lat, f) ∧ GuardOn stA gd1 ∧
      readSrc stA stA.cur (.g 5) = .ok (c1, x) ∧ readSrc stA c1 (.g 4) = .ok (c2, y) ∧ writeDst stA c2 (.g 63) lat (f x y) = .ok c3) ∧
    (∃ lat f c1 c2 c3 x y, scalarTwo (.bext gd1 (.latch 3) (.b 3) .pool 63) = some (gd1, .latch 3, .b 3, .pool, lat, f) ∧ GuardOn stA gd1 ∧
      readSrc stA stA.cur (.b 3) = .ok (c1, x) ∧ readSrc stA c1 .pool = .ok (c2, y) ∧ writeDst stA c2 (.latch 3) lat (f x y) = .ok c3) ∧
    (∃ lat f c1 c2 x, scalarOne (.clz gd1 (.g 0) (.g 0)) = some (gd1, .g 0, .g 0, lat, f) ∧ GuardOn stA gd1 ∧
      readSrc stA stA.cur (.g 0) = .ok (c1, x) ∧ writeDst stA c1 (.g 0) lat (f x) = .ok c2) ∧
    ∃ c, GuardOn stA gd1 ∧ writeDst stA stA.cur (.g 1) 1 ((-1048576 : Imm21).signExtend 64) = .ok c :=
  ⟨⟨_, _, _, _, _, _, _, rfl, guard_on, rfl, rfl, rfl⟩, ⟨_, _, _, _, _, _, _, rfl, guard_on, rfl, rfl, rfl⟩,
    ⟨_, _, _, _, _, rfl, guard_on, rfl, rfl⟩, _, guard_on, rfl⟩

theorem witness_ScalarBitAndCarryResults :
    (∃ f c1 c2 x y, scalarCompare (.cmpltu gd1 63 63 (.g 4) (.g 5)) = some (gd1, 63, 63, .g 4, .g 5, f) ∧ GuardOn stA gd1 ∧
      readSrc stA stA.cur (.g 4) = .ok (c1, x) ∧ readSrc stA c1 (.g 5) = .ok (c2, y)) ∧
    (∃ c1 x, GuardOn stA gd1 ∧ readSrc stA stA.cur (.g 5) = .ok (c1, x)) ∧
    (∃ x y old cv, GuardOn stA gd1 ∧ readG stA stA.cur 4 = .ok x ∧ readG stA stA.cur 5 = .ok y ∧ readG stA stA.cur 2 = .ok old ∧
      (false = false → readG stA stA.cur (Fin.ofNat 64 (48 + (15 : CarryReg).val)) = .ok cv)) ∧
    ∃ x y old, GuardOn stA gd1 ∧ readG stA stA.cur 4 = .ok x ∧ readG stA stA.cur 4 = .ok y ∧ readG stA stA.cur 62 = .ok old :=
  ⟨⟨_, _, _, _, _, rfl, guard_on, rfl, rfl⟩, ⟨_, _, guard_on, rfl⟩, ⟨_, _, _, _, guard_on, rfl, rfl, rfl, fun _ => rfl⟩,
    ⟨_, _, _, guard_on, rfl, rfl, rfl⟩⟩

theorem witness_PartialRegisterResults :
    (∃ c1 c2 x y old, GuardOn stA gd1 ∧ readSrc stA stA.cur (.g 2) = .ok (c1, x) ∧ readSrc stA c1 (.g 4) = .ok (c2, y) ∧ readG stA c2 5 = .ok old) ∧
    ∃ old, (3 : Code4).val < 4 ∧ GuardOn stA gd1 ∧ readG stA stA.cur 4 = .ok old :=
  ⟨⟨_, _, _, _, _, guard_on, rfl, rfl, rfl⟩, _, by decide, guard_on, rfl⟩

theorem witness_ScalarFloatResults :
    (∃ f c1 c2 c3 x y, scalarFloat (.fadd gd1 (.g 6) (.g 3) (.g 3) .rdn) = some (gd1, .g 6, .g 3, .g 3, .rdn, f) ∧ GuardOn stA gd1 ∧
      readSrc stA stA.cur (.g 3) = .ok (c1, x) ∧ readSrc stA c1 (.g 3) = .ok (c2, y) ∧
      writeDst stA c2 (.g 6) 4 (BitVec.ofNat 64 (f (rcOf stA c2 .rdn 0) (x.toNat % 2 ^ 32) (y.toNat % 2 ^ 32)).1)
        (f (rcOf stA c2 .rdn 0) (x.toNat % 2 ^ 32) (y.toNat % 2 ^ 32)).2 = .ok c3) ∧
    (∃ f c1 c2 x, scalarConvert (.fcvtfi gd1 (.g 6) (.g 3) .dyn) = some (gd1, .g 6, .g 3, .dyn, f) ∧ GuardOn stA gd1 ∧
      readSrc stA stA.cur (.g 3) = .ok (c1, x) ∧
      writeDst stA c1 (.g 6) 4 (BitVec.ofNat 64 (f (rcOf stA c1 .dyn 0) x.toNat).1) (f (rcOf stA c1 .dyn 0) x.toNat).2 = .ok c2) ∧
    (∃ c1 c2 x y, scalarFloatCompare (.fcmpun gd1 6 0 (.g 3) (.g 4)) = some (gd1, 6, 0, .g 3, .g 4, .un) ∧ GuardOn stA gd1 ∧
      readSrc stA stA.cur (.g 3) = .ok (c1, x) ∧ readSrc stA c1 (.g 4) = .ok (c2, y)) ∧
    ∃ c1 c2 c3 x y old, GuardOn stA gd1 ∧ readSrc stA stA.cur (.g 3) = .ok (c1, x) ∧ readSrc stA c1 (.g 3) = .ok (c2, y) ∧ readG stA c2 3 = .ok old ∧
      writeDst stA c2 (.g 3) 4 (BitVec.ofNat 64 (fFma fp32 (rcOf stA c2 .rne 0) false false (x.toNat % 2 ^ 32) (y.toNat % 2 ^ 32) (old.toNat % 2 ^ 32)).1)
        (fFma fp32 (rcOf stA c2 .rne 0) false false (x.toNat % 2 ^ 32) (y.toNat % 2 ^ 32) (old.toNat % 2 ^ 32)).2 = .ok c3 :=
  ⟨⟨_, _, _, _, _, _, rfl, guard_on, rfl, rfl, rfl⟩, ⟨_, _, _, _, rfl, guard_on, rfl, rfl⟩, ⟨_, _, _, _, rfl, guard_on, rfl, rfl⟩,
    _, _, _, _, _, _, guard_on, rfl, rfl, rfl, rfl⟩

theorem witness_ControlRegisterMoves :
    (∃ v, GuardOn stA gd1 ∧ csrRead stA stA.cur (0x15F#12).toNat = some v) ∧
    ∃ c1 x, csrListed 0x100 = true ∧ GuardOn stA gd1 ∧ readSrc stA stA.cur (.g 2) = .ok (c1, x) :=
  ⟨⟨_, guard_on, rfl⟩, _, _, by decide, guard_on, rfl⟩

/-! ### Address slot -/

theorem witness_AddressFormsAndUpdates :
    (∃ x, readA stA stA.cur 1 = .ok x) ∧ ∃ x v, readA stA stA.cur 2 = .ok x ∧ readM stA stA.cur 3 = .ok v ∧ (0 : BitVec 18) = 0 ∧ (2 : BitVec 18) ≠ 0 :=
  ⟨⟨_, rfl⟩, _, _, rfl, rfl, rfl, by decide⟩

theorem witness_AddressFaults :
    (∃ x u, padAccess (.lds gd1 (.g 6) 4 (.off 0)) = some (gd1, 4, .off 0, false, 8, 8) ∧ GuardOn stA gd1 ∧ addrOf stA stA.cur 4 (.off 0) = .ok (x, u) ∧
      x.toNat % 8 ≠ 0) ∧
    (∃ x u, padAccess (.clrv gd1 2 (.off 8)) = some (gd1, 2, .off 8, false, 512, 16) ∧ GuardOn stA gd1 ∧ addrOf stA stA.cur 2 (.off 8) = .ok (x, u) ∧
      x.toNat % 16 = 0 ∧ stA.spadOk stA.cur.plot stA.iss.core x.toNat 512 = false) ∧
    ∃ x u, padAccess (.wlds gd1 (.g 6) 2 (.post 8)) = some (gd1, 2, .post 8, true, 8, 8) ∧ GuardOn stA gd1 ∧ addrOf stA stA.cur 2 (.post 8) = .ok (x, u) ∧
      x.toNat % 8 = 0 ∧ stA.wsOk stA.cur.plot stA.issDie x.toNat 8 = false :=
  ⟨⟨_, _, rfl, guard_on, rfl, by decide⟩, ⟨_, _, rfl, guard_on, rfl, by decide, by decide⟩, _, _, rfl, guard_on, rfl, by decide, by decide⟩

theorem witness_ScratchpadLoads :
    (∃ f x u c1, padLoad (.lds gd1 (.g 6) 2 (.post 8)) = some (gd1, .g 6, 2, .post 8, 8, f) ∧ GuardOn stA gd1 ∧ addrOf stA stA.cur 2 (.post 8) = .ok (x, u) ∧
      PadOk stA x 8 8 ∧ writeDst stA (stA.cur.postUpd stA 2 u) (.g 6) 5 (f (ofBytes (stA.spadBytes stA.cur x.toNat 8))) = .ok c1) ∧
    ∃ x u, GuardOn stA gd1 ∧ addrOf stA stA.cur 1 (.preM 1) = .ok (x, u) ∧ PadOk stA x 512 16 :=
  ⟨⟨_, _, _, _, rfl, guard_on, rfl, ⟨by decide, by decide⟩, rfl⟩, _, _, guard_on, rfl, by decide, by decide⟩

theorem witness_StoresAreWithheldAndSeen :
    (∃ x u c1 v, padStore (.stb gd1 .pool 3 (.off 0xFF)) = some (gd1, .pool, 3, .off 0xFF, 1) ∧ GuardOn stA gd1 ∧
      addrOf stA stA.cur 3 (.off 0xFF) = .ok (x, u) ∧ readSrc stA stA.cur .pool = .ok (c1, v) ∧ PadOk stA x 1 1) ∧
    (∃ x u row, GuardOn stA gd1 ∧ addrOf stA stA.cur 1 (.off 0) = .ok (x, u) ∧ readV stA stA.cur 65 = .ok row ∧ PadOk stA x 512 16) ∧
    (∃ x u, GuardOn stA gd1 ∧ addrOf stA stA.cur 0 (.off 0) = .ok (x, u) ∧ PadOk stA x 512 16) ∧
    (∀ st ∈ stA.cur.buf, st.space = .hbm) ∧ Memory.wf stA.mem :=
  ⟨⟨_, _, _, _, rfl, guard_on, rfl, rfl, by decide, by decide⟩, ⟨_, _, _, guard_on, rfl, rfl, by decide, by decide⟩,
    ⟨_, _, guard_on, rfl, by decide, by decide⟩, by decide, by decide⟩

/-- The weight store's block 1 is the plot's, so that no bank of it refreshes in this cycle. -/
def stW : State := { stA with plots := [(1, { plotA with grants := [.core 0, .block 0, .block 1] })] }

theorem witness_WeightStoreLoads :
    (∃ x u c1, GuardOn stW gd1 ∧ addrOf stW stW.cur 2 (.off 0) = .ok (x, u) ∧ StoreOk stW x 8 8 ∧ stW.refreshing stW.issDie x.toNat = false ∧
      writeDst stW (stW.cur.postUpd stW 2 u) (.latch 3) 5 (BitVec.ofNat 64 (ofBytes ((List.range 8).map fun i => byteAt stW (wsBase stW.issDie + x.toNat + i))))
        = .ok c1) ∧
    (∃ x u, GuardOn stW gd1 ∧ addrOf stW stW.cur 5 (.off 0) = .ok (x, u) ∧ StoreOk stW x 512 512 ∧ stW.refreshing stW.issDie x.toNat = false) ∧
    (∃ x u, GuardOn stW gd1 ∧ addrOf stW stW.cur 0 (.off 0) = .ok (x, u) ∧ stW.refreshing stW.issDie x.toNat = true ∧ StoreOk stW x 8 8 ∧ StoreOk stW x 512 512) :=
  ⟨⟨_, _, _, guard_on, rfl, ⟨by decide, by decide⟩, by decide, rfl⟩, ⟨_, _, guard_on, rfl, ⟨by decide, by decide⟩, by decide⟩,
    _, _, guard_on, rfl, by decide, ⟨by decide, by decide⟩, by decide, by decide⟩

theorem witness_AddressRegisterResults :
    GuardOn stA gd1 ∧ (∃ p c1 y, readA stA stA.cur 1 = .ok p ∧ readSrc stA stA.cur (.g 4) = .ok (c1, y)) ∧
    (∃ p c1, readA stA stA.cur 1 = .ok p ∧ writeDst stA stA.cur (.g 6) 1 (BitVec.ofNat 64 p.toNat) = .ok c1) ∧
    (∃ p c1, readM stA stA.cur 3 = .ok p ∧ writeDst stA stA.cur (.g 6) 1 p = .ok c1) ∧
    (∃ x u c1, addrOf stA stA.cur 1 (.preM 3) = .ok (x, u) ∧ writeDst stA (stA.cur.postUpd stA 1 u) (.g 6) 1 (BitVec.ofNat 64 x.toNat) = .ok c1) ∧
    ∃ p y, readA stA stA.cur 1 = .ok p ∧ readG stA stA.cur 4 = .ok y :=
  ⟨guard_on, ⟨_, _, _, rfl, rfl⟩, ⟨_, _, rfl, rfl⟩, ⟨_, _, rfl, rfl⟩, ⟨_, _, _, rfl, rfl⟩, _, _, rfl, rfl⟩

/-! ### Vector slots -/

theorem witness_LanesAndOperationWidth :
    (4 ∈ [4, 8, 16, 32, 64] ∧ 1023 < 4096 / 4) ∧ (64 ∈ [4, 8, 16, 32, 64] ∧ 63 < 4096 / 64) ∧ (VDst.v 63 = .v 63) ∧
    ((VDst.latch 7).isV = false ∧ (VSrc.v 64 = .v 64)) ∧ ((VDst.s 0).isV = false ∧ sTile (.bc 0) = none ∧ VSrc.v 127 = .v 127) ∧
    ((VDst.k 0).isV = false ∧ sTile (.vb 0) = none ∧ ∀ r, VSrc.pool ≠ .v r) ∧ (opWidth ctxA (some 1) none none).ty = some .i16 := by
  refine ⟨by decide, by decide, rfl, ⟨rfl, rfl⟩, ⟨rfl, rfl, rfl⟩, ⟨rfl, rfl, nofun⟩, rfl⟩

theorem witness_VectorTwoSourceResults :
    (∃ k e c1 c2 c3 x y, vecTwo (.vmul gd1 (.v 64) (.v 65) .pool true) = some (gd1, .v 64, .v 65, .pool, k, e) ∧ GuardOn stA gd1 ∧
      readVSrc stA stA.cur 16 false (.v 65) = .ok (c1, x) ∧ readVSrc stA c1 16 false .pool = .ok (c2, y) ∧
      writeVDst stA c2 (.v 64) 2 (rowOf 16 fun n => k.lane 16 (e 16 (lane 16 x n) (lane 16 y n))) (k.flags 16 256 fun n => e 16 (lane 16 x n) (lane 16 y n))
        = .ok c3) ∧ (opWidth stA.cur (dTile (.v 64)) (sTile (.v 65)) (rowTile .pool)).w = 16 ∧
    (∃ k e c1 c2 c3 x y, vecTwo (.vshr gd1 (.latch 7) (.bc 4) (.v 1)) = some (gd1, .latch 7, .bc 4, .v 1, k, e) ∧ GuardOn stA gd1 ∧
      readVSrc stA stA.cur 32 false (.bc 4) = .ok (c1, x) ∧ readVSrc stA c1 32 false (.v 1) = .ok (c2, y) ∧
      writeVDst stA c2 (.latch 7) 2 (rowOf 32 fun n => k.lane 32 (e 32 (lane 32 x n) (lane 32 y n))) (k.flags 32 128 fun n => e 32 (lane 32 x n) (lane 32 y n))
        = .ok c3) ∧ (opWidth stA.cur (dTile (.latch 7)) (sTile (.bc 4)) (rowTile (.v 1))).w = 32 :=
  ⟨⟨_, _, _, _, _, _, _, rfl, guard_on, rfl, rfl, rfl⟩, rfl, ⟨_, _, _, _, _, _, _, rfl, guard_on, rfl, rfl, rfl⟩, rfl⟩

theorem witness_VectorOneAndThreeSourceResults :
    (∃ k e c1 c2 x, vecOne (.vsext gd1 (.v 127) (.vb 15) 63) = some (gd1, .v 127, .vb 15, k, e) ∧ GuardOn stA gd1 ∧
      readVSrc stA stA.cur 16 false (.vb 15) = .ok (c1, x) ∧
      writeVDst stA c1 (.v 127) 2 (rowOf 16 fun n => k.lane 16 (e 16 (lane 16 x n))) (k.flags 16 256 fun n => e 16 (lane 16 x n)) = .ok c2) ∧
    (∃ f c1 c2 c3 x y z, vecThree (.vbins gd1 1 (.v 65) (.v 1) 31) = some (gd1, 1, .v 65, .v 1, f) ∧ GuardOn stA gd1 ∧
      readVSrc stA stA.cur 32 false (.v 65) = .ok (c1, x) ∧ readVSrc stA c1 32 false (.v 1) = .ok (c2, y) ∧ readV stA c2 1 = .ok z ∧
      writeVDst stA c2 (.v 1) 2 (rowOf 32 fun n => f 32 (lane 32 x n) (lane 32 y n) (lane 32 z n)) = .ok c3) ∧
    (∃ c1 c2 c3 x y z, GuardOn stA gd1 ∧ readVSrc stA stA.cur 16 false (.v 1) = .ok (c1, x) ∧ readVSrc stA c1 16 false (.v 65) = .ok (c2, y) ∧
      readV stA c2 65 = .ok z ∧ writeVDst stA c2 (.v 65) 2 (rowOf 16 fun i => let j := lane 16 z i % (2 * 256)
        if j < 256 then lane 16 x j else lane 16 y (j - 256)) = .ok c3) ∧
    (∃ c1, GuardOn stA gd1 ∧ writeVDst stA stA.cur (.v 0) 2 (rowOf 32 fun i => i) = .ok c1) ∧
    ∃ c1 c2 c3 x, GuardOn stA gd1 ∧ readVSrc stA stA.cur 32 false (.v 1) = .ok (c1, x) ∧
      writeVDst stA c1 (.v 0) 2 (rowOf 32 fun i => trueBelow (lane 32 x) i) = .ok c2 ∧
      writeVDst stA c1 (.v 0) 2 (rowOf 32 fun i => lane 32 x (4096 / 32 - 1 - i)) = .ok c3 :=
  ⟨⟨_, _, _, _, _, rfl, guard_on, rfl, rfl⟩, ⟨_, _, _, _, _, _, _, rfl, guard_on, rfl, rfl, rfl, rfl⟩, ⟨_, _, _, _, _, _, guard_on, rfl, rfl, rfl, rfl⟩,
    ⟨_, guard_on, rfl⟩, _, _, _, _, guard_on, rfl, rfl, rfl⟩

/-- The lanes of `rowA` at width 32: 5, −1, 0x80000000, 0x7FFFFFFF, 3, then zeros. -/
def lanesA : List Nat := (List.range 128).map (lane 32 rowA)

theorem witness_WideningAndReductionResults :
    (∃ c1 c2 c3 x y z, GuardOn stA gd1 ∧ (opWidth stA.cur (dTile (.v 1)) (sTile (.v 65)) (rowTile (.v 65))).w = 32 ∧
      readVSrc stA stA.cur 16 false (.v 65) = .ok (c1, x) ∧ readVSrc stA c1 16 false (.v 65) = .ok (c2, y) ∧ readV stA c2 1 = .ok z ∧
      writeVDst stA c2 (.v 1) 2 (rowOf 32 fun i => Fit.wraps.lane 32 ((lane 16 x (1 * 128 + i) : Int) * lane 16 y (1 * 128 + i))) = .ok c3) ∧
    (opWidth stA.cur (dTile (.v 64)) (sTile (.v 1)) (rowTile (.v 1))).w = 16 ∧
    (∃ c1 c2 c3 x y z, GuardOn stA gd1 ∧ (opWidth stA.cur (some (vTile 1)) none none).w = 32 ∧
      readVSrc stA stA.cur 32 false (.v 1) = .ok (c1, x) ∧ readVSrc stA c1 32 false (.v 1) = .ok (c2, y) ∧ readV stA c2 1 = .ok z ∧
      let e : Nat → Int := fun i => sg 32 (lane 32 z i) + ((List.range 4).map fun k => ((lane 32 x i / 256 ^ k % 256 : Nat) : Int) * (lane 32 y i / 256 ^ k % 256 : Nat)).sum
      writeVDst stA c2 (.v 1) 2 (rowOf 32 fun i => (satFit true).lane 32 (e i)) ((satFit true).flags 32 128 e) = .ok c3) ∧
    (∃ c1 c2, GuardOn stA gd1 ∧ readVSrc stA stA.cur 32 false (.v 1) = .ok (c1, rowA) ∧
      writeVDst stA c1 (.v 0) 2 (BitVec.ofNat 4096 (lanesA.sum % 2 ^ 32)) = .ok c2) ∧
    (0 ∈ lanesA ∧ ∀ z ∈ lanesA, 0 ≤ z) ∧ (0x80000000 ∈ lanesA ∧ ∀ z ∈ lanesA, sg 32 0x80000000 ≤ sg 32 z) ∧
    (0xFFFFFFFF ∈ lanesA ∧ ∀ z ∈ lanesA, z ≤ 0xFFFFFFFF) ∧ (0x7FFFFFFF ∈ lanesA ∧ ∀ z ∈ lanesA, sg 32 z ≤ sg 32 0x7FFFFFFF) ∧
    (0 < 2 ^ 32 ∧ ∀ k, k < 32 → ((0 : Nat).testBit k = true ↔ ∀ z ∈ lanesA, z.testBit k = true)) ∧
    (0xFFFFFFFF < 2 ^ 32 ∧ ∀ k, k < 32 → ((0xFFFFFFFF : Nat).testBit k = true ↔ ∃ z ∈ lanesA, z.testBit k = true)) :=
  ⟨⟨_, _, _, _, _, _, guard_on, rfl, rfl, rfl, rfl, rfl⟩, rfl, ⟨_, _, _, _, _, _, guard_on, rfl, rfl, rfl, rfl, rfl⟩, ⟨_, _, guard_on, rfl, rfl⟩,
    by decide +kernel, by decide +kernel, by decide +kernel, by decide +kernel, by decide +kernel, by decide +kernel⟩

theorem witness_VectorMoveCarryAndMaskResults :
    (∃ f c1 c2 c3 x y, vecMove (.vslide gd1 (.v 0) (.v 1) .pool) = some (gd1, .v 0, .v 1, .pool, f) ∧ GuardOn stA gd1 ∧
      readVSrc stA stA.cur 32 false (.v 1) = .ok (c1, x) ∧ readVSrc stA c1 32 false .pool = .ok (c2, y) ∧
      writeVDst stA c2 (.v 0) 2 (rowOf 32 fun i => f 32 128 (lane 32 x) (lane 32 y) i) = .ok c3) ∧
    (∃ c1 c2 c3 x m, GuardOn stA gd1 ∧ readVSrc stA stA.cur 32 false (.v 1) = .ok (c1, x) ∧ readVSrc stA c1 32 false (.v 2) = .ok (c2, m) ∧
      writeVDst stA c2 (.v 0) 2 (rowOf 32 fun i => match ((List.range (4096 / 32)).filter fun k => lane 32 m k ≠ 0)[i]? with
        | some k => lane 32 x k
        | none => 0) 0 [.g 63 (BitVec.ofNat 64 ((List.range (4096 / 32)).filter fun k => lane 32 m k ≠ 0).length)] = .ok c3) ∧
    (∃ c1 c2 c3 x y kr, GuardOn stA gd1 ∧ readVSrc stA stA.cur 16 false (.v 65) = .ok (c1, x) ∧ readVSrc stA c1 16 false (.bc 4) = .ok (c2, y) ∧
      (false = false → readV stA c2 127 = .ok kr) ∧
      writeVDst stA c2 (.v 64) 2 (rowOf 16 fun n => (lane 16 x n + lane 16 y n + if lane 16 kr n = 0 then 0 else 1) % 2 ^ 16) 0
        [.v 127 (BitVec.allOnes 4096) (rowOf 16 fun n => if 2 ^ 16 ≤ lane 16 x n + lane 16 y n + (if lane 16 kr n = 0 then 0 else 1) then 1 else 0)] = .ok c3) ∧
    (∃ c1 c2 c3 x y old, GuardOn stA gd1 ∧ readVSrc stA stA.cur 16 false (.v 65) = .ok (c1, x) ∧ readVSrc stA c1 16 false (.v 65) = .ok (c2, y) ∧
      readV stA c2 126 = .ok old ∧ writeVDst stA c2 (.v 126) 2 (rowOf 16 fun n => (lane 16 x n * lane 16 y n % 2 ^ 16 + lane 16 old n) % 2 ^ 16) 0
        [.v 127 (BitVec.allOnes 4096) (rowOf 16 fun n => lane 16 x n * lane 16 y n / 2 ^ 16),
         .v 126 (BitVec.allOnes 4096) (rowOf 16 fun n => if 2 ^ 16 ≤ lane 16 x n * lane 16 y n % 2 ^ 16 + lane 16 old n then 1 else 0)] = .ok c3) ∧
    (∃ c1 x, GuardOn stA gd1 ∧ (3 : Code4).val < 4 ∧ readVSrc stA stA.cur 16 false (.v 65) = .ok (c1, x)) ∧
    (∃ c1 c2 x y, GuardOn stA gd1 ∧ readVSrc stA stA.cur 16 false (.v 65) = .ok (c1, x) ∧ readVSrc stA c1 16 false (.bc 2) = .ok (c2, y)) ∧
    ∃ c1 v old y, GuardOn stA gd1 ∧ (3 : Code4).val < 4 ∧ readG stA stA.cur 4 = .ok v ∧ readV stA stA.cur 65 = .ok old ∧
      readVSrc stA stA.cur 16 false (.bc 2) = .ok (c1, y) ∧ readV stA c1 65 = .ok old :=
  ⟨⟨_, _, _, _, _, _, rfl, guard_on, rfl, rfl, rfl⟩, ⟨_, _, _, _, _, guard_on, rfl, rfl, rfl⟩, ⟨_, _, _, _, _, _, guard_on, rfl, rfl, fun _ => rfl, rfl⟩,
    ⟨_, _, _, _, _, _, guard_on, rfl, rfl, rfl, rfl⟩, ⟨_, _, guard_on, by decide, rfl⟩, ⟨_, _, _, _, guard_on, rfl, rfl⟩,
    _, _, _, _, guard_on, by decide, rfl, rfl, rfl, rfl⟩

/-- Rows of T0 for the float reductions: one lane a number and the rest +0; a quiet NaN; both infinities; one infinity; every lane −0. -/
def floatRow (n : Nat) : Row := match n with
  | 0 => 0x3F800000#4096
  | 1 => 0x7FC00001#4096
  | 2 => 0xFF8000007F800000#4096
  | 3 => 0xFF800000#4096
  | 4 => rowOf 32 fun _ => 0x80000000
  | _ => 0x800000003F80000000000000#4096
/-- The same state with such a row in v1; T1 is of type I64. -/
def stF (n : Nat) : State :=
  stC { ctxA with w := { archA with t0 := { tileA with rows := Tile.zero.rows.set 1 (floatRow n) }, t1 := { tileA with ty := .i64 } } }

theorem witness_VectorFloatResults :
    (∃ f c1 c2 x, floatOne (.vrcp gd1 (.v 0) (.v 1) .rdn) = some (gd1, .v 0, .v 1, .rdn, 8, f) ∧ GuardOn stA gd1 ∧
      (opWidth stA.cur (dTile (.v 0)) (sTile (.v 1)) none).fmt = some fp32 ∧ readVSrc stA stA.cur 32 true (.v 1) = .ok (c1, x) ∧
      writeVDst stA c1 (.v 0) 8 (rowOf 32 fun n => (f fp32 (rcOf stA c1 .rdn n) (lane 32 x n)).1)
        (orFlags (4096 / 32) fun n => (f fp32 (rcOf stA c1 .rdn n) (lane 32 x n)).2) = .ok c2) ∧
    (GuardOn (stF 0) gd1 ∧ (opWidth (stF 0).cur (dTile (.v 64)) (sTile (.v 1)) none).fmt = none ∧ (opWidth (stF 0).cur (some (vTile 127)) none none).w ≠ 32) ∧
    (∃ f c1 c2 c3 x y, floatTwo (.vfscale gd1 (.v 64) (.v 65) .pool .rup) = some (gd1, .v 64, .v 65, .pool, .rup, false, f) ∧ GuardOn stA gd1 ∧
      (opWidth stA.cur (dTile (.v 64)) (sTile (.v 65)) (rowTile .pool)).fmt = some bf16 ∧ readVSrc stA stA.cur 16 true (.v 65) = .ok (c1, x) ∧
      readVSrc stA c1 16 false .pool = .ok (c2, y) ∧
      writeVDst stA c2 (.v 64) 4 (rowOf 16 fun n => (f bf16 (rcOf stA c2 .rup n) (lane 16 x n) (lane 16 y n)).1)
        (orFlags (4096 / 16) fun n => (f bf16 (rcOf stA c2 .rup n) (lane 16 x n) (lane 16 y n)).2) = .ok c3) ∧
    (∃ c1 c2 c3 x y z, fused (.vfnma gd1 1 (.v 1) (.bc 3) .sr) = some (gd1, 1, .v 1, .bc 3, .sr, true, false) ∧ GuardOn stA gd1 ∧
      (opWidth stA.cur (some (vTile 1)) (sTile (.v 1)) (rowTile (.bc 3))).fmt = some fp32 ∧ readVSrc stA stA.cur 32 true (.v 1) = .ok (c1, x) ∧
      readVSrc stA c1 32 true (.bc 3) = .ok (c2, y) ∧ readV stA c2 1 = .ok z ∧
      writeVDst stA c2 (.v 1) 4 (rowOf 32 fun n => (fFma fp32 (rcOf stA c2 .sr n) true false (lane 32 x n) (lane 32 y n) (lane 32 z n)).1)
        (orFlags (4096 / 32) fun n => (fFma fp32 (rcOf stA c2 .sr n) true false (lane 32 x n) (lane 32 y n) (lane 32 z n)).2) = .ok c3) ∧
    ∃ c1 c2 c3 x y z, GuardOn stA gd1 ∧ (opWidth stA.cur (some (vTile 63)) none none).w = 32 ∧ readVSrc stA stA.cur 16 true (.v 65) = .ok (c1, x) ∧
      readVSrc stA c1 16 true .pool = .ok (c2, y) ∧ readV stA c2 63 = .ok z ∧
      let v := fun n => fvFma fp32 (rcOf stA c2 .rne n) false false (fp16.read (lane 16 x (128 + n))) (fp16.read (lane 16 y (128 + n))) (fp32.read (lane 32 z n))
      writeVDst stA c2 (.v 63) 4 (rowOf 32 fun n => (v n).1) (orFlags 128 fun n => (v n).2) = .ok c3 :=
  ⟨⟨_, _, _, _, rfl, guard_on, rfl, rfl, rfl⟩, ⟨⟨_, rfl, rfl⟩, rfl, by decide⟩, ⟨_, _, _, _, _, _, rfl, guard_on, rfl, rfl, rfl, rfl⟩,
    ⟨_, _, _, _, _, _, rfl, guard_on, rfl, rfl, rfl, rfl, rfl⟩, _, _, _, _, _, _, guard_on, rfl, rfl, rfl, rfl, rfl⟩

/-- The numbers in the row's lanes. -/
def floats (n : Nat) : List FV := (List.range (4096 / 32)).map fun k => fp32.read (lane 32 (floatRow n) k)

theorem witness_FloatReductions :
    (∀ n, n < 6 → GuardOn (stF n) gd1 ∧ (opWidth (stF n).cur (dTile (.v 0)) (sTile (.v 1)) none).fmt = some fp32 ∧
      ∃ c1 c2, readVSrc (stF n) (stF n).cur 32 true (.v 1) = .ok (c1, floatRow n) ∧ writeVDst (stF n) c1 (.v 0) 4 0 flNV = .ok c2) ∧
    (floats 1).any FV.isNan = true ∧ ((floats 2).any FV.isNan = false ∧ .inf false ∈ floats 2 ∧ .inf true ∈ floats 2) ∧
    ((floats 3).any FV.isNan = false ∧ .inf true ∈ floats 3 ∧ .inf (!true) ∉ floats 3) ∧ (floats 4).all (fun v => v == .zero true) = true ∧
    ((floats 0).all (fun v => v matches .zero _ | .num _ _) = true ∧ (floats 0).all (fun v => v == .zero true) = false) ∧
    ((floats 1).any FV.isNan = true ∧
     (let l := (List.range (4096 / 32)).map (lane 32 (floatRow 5))
      l.any (fun z => (fp32.read z).isNan) = false ∧ 0x3F800000 ∈ l ∧ (∀ z ∈ l, (fCmp fp32 .lt 0x3F800000 z).1 = false) ∧
      (∀ neg, fp32.read 0x3F800000 ≠ .zero neg ∨ .zero (!true) ∉ l.map fp32.read) ∧
      0x80000000 ∈ l ∧ (∀ z ∈ l, (fCmp fp32 .lt z 0x80000000).1 = false) ∧ fp32.read 0x80000000 = .zero (!false))) := by
  refine ⟨fun n h => ?_, ?_⟩
  · interval_cases n <;> exact ⟨⟨_, rfl, rfl⟩, rfl, _, _, rfl, rfl⟩
  · decide +kernel

theorem witness_FloatTopAndConversions :
    (∃ c1 c2 x y, GuardOn stA gd1 ∧ (true = true → (opWidth stA.cur (dTile (.v 0)) (sTile (.v 1)) (rowTile (.bc 1))).fmt = some fp32) ∧
      readVSrc stA stA.cur 32 true (.v 1) = .ok (c1, x) ∧ readVSrc stA c1 32 false (.bc 1) = .ok (c2, y)) ∧
    ((opWidth (stF 0).cur (dTile (.v 64)) (sTile (.v 1)) none).w = 64 ∧ (opWidth stA.cur (dTile (.v 64)) (sTile (.v 65)) none).w ≠ 64) ∧
    (∃ c1 x, readVSrc stA stA.cur 16 true (.v 65) = .ok (c1, x)) ∧
    (∃ c1 x old, GuardOn stA gd1 ∧ (1 : Code4).val < 2 ∧ readV stA c1 64 = .ok old ∧ readVSrc stA stA.cur 32 true (.v 1) = .ok (c1, x)) ∧
    (∃ c1 x old, GuardOn stA gd1 ∧ (2 : Code4).val < 4 ∧ (2 : Code4).val % 2 = 0 ∧ readV stA c1 127 = .ok old ∧ readVSrc stA stA.cur 64 false (.v 1) = .ok (c1, x)) ∧
    (∃ c1 x old, GuardOn stA gd1 ∧ (3 : Code4).val < 4 ∧ readV stA c1 127 = .ok old ∧ readVSrc stA stA.cur 32 false .pool = .ok (c1, x)) ∧
    (∃ c1 c2 x, GuardOn stA gd1 ∧ 2 ≤ (3 : Code4).val ∧ readVSrc stA stA.cur 16 true (.v 65) = .ok (c1, x) ∧
      writeVDst stA c1 (.v 0) 4 (rowOf 32 fun n => (fCvt fp16 fp32 .rne (lane 16 x (128 + n))).1)
        (orFlags 128 fun n => (fCvt fp16 fp32 .rne (lane 16 x (128 + n))).2) = .ok c2) ∧
    (∃ c1 c2 x, GuardOn stA gd1 ∧ (3 : Code4).val % 2 = 1 ∧ readVSrc stA stA.cur 32 false (.v 1) = .ok (c1, x) ∧
      writeVDst stA c1 (.latch 7) 2 (rowOf 64 fun n => Fit.wraps.lane 64 (sg 32 (lane 32 x (64 + n)))) = .ok c2) ∧
    ∃ c1 c2 c3 x, GuardOn stA gd1 ∧ (3 : Code4).val < 4 ∧ readVSrc stA stA.cur 8 true (.v 1) = .ok (c1, x) ∧
      writeVDst stA c1 (.v 0) 2 (rowOf 32 fun n => lane 8 x (128 * 3 + n)) = .ok c2 ∧
      writeVDst stA c1 (.v 0) 4 (rowOf 32 fun n => (fCvt e5m2 fp32 .rne (lane 8 x (128 * 3 + n))).1)
        (orFlags 128 fun n => (fCvt e5m2 fp32 .rne (lane 8 x (128 * 3 + n))).2) = .ok c3 :=
  ⟨⟨_, _, _, _, guard_on, fun _ => rfl, rfl, rfl⟩, ⟨rfl, by decide⟩, ⟨_, _, rfl⟩, ⟨_, _, _, guard_on, by decide, rfl, rfl⟩,
    ⟨_, _, _, guard_on, by decide, by decide, rfl, rfl⟩, ⟨_, _, _, guard_on, by decide, rfl, rfl⟩, ⟨_, _, _, guard_on, by decide, rfl, rfl⟩,
    ⟨_, _, _, guard_on, by decide, rfl, rfl⟩, _, _, _, _, guard_on, by decide, rfl, rfl, rfl⟩

/-! ### The array and the tiles' sums -/

def planeDesc (kind : Nat) : List W64 := [BitVec.ofNat 64 (kind * 2 ^ 60 + 1 * 2 ^ 48 + 2 ^ 47), 0x3000000001, 0, 0, 0, 0, 0, 0]
def planeA (k n : Nat) : Binding := ⟨planeDesc k, 0, some (1, n), [⟨List.replicate (if k = 2 then 48 else 96) 0x81#8, none⟩], []⟩
/-- Streams 0 and 15 bound as A and B planes; b of them have more planes than declared. -/
def stP (n : Nat) (set : ArraySet) : State :=
  stC { ctxA with bind := (ctxA.bind.set 0 (some (planeA 2 16))).set 15 (some (planeA 3 n)), w := { archA with work := set, pb := 2 } }
def badSet : ArraySet := { ArraySet.zero with parity := ArraySet.zero.parity.set 64 (1#129 <<< 128) }

theorem rep_getD {α : Type} (n : Nat) (x : α) (i : Nat) : (Vector.replicate n x).getD i x = x := by
  by_cases h : i < n <;> simp [Vector.getD, h]

theorem cell_zero (i j : Nat) : ((ArraySet.zero.acc.getD i (.replicate 129 0)).getD j 0) = 0 := by
  simp only [ArraySet.zero, rep_getD]

theorem zero_parity (k : Nat) : RowParity .zero k := by
  intro j _
  rw [cell_zero, show ArraySet.zero.parity.getD k 0 = 0 from rep_getD ..]
  simp

theorem bad_parity : ¬ RowParity badSet 64 := by
  intro h
  exact absurd (h 128 (by decide)) (by decide +kernel)

theorem witness_ArrayBeatsAndFaults :
    (∃ f c1 c2 ea eb, beat (.macc 7 0 15) = some (0, 15, true, f) ∧ (stP 12 .zero).cur.bind[0] = some (planeA 2 16) ∧ (planeA 2 16).kind = 2 ∧
      (stP 12 .zero).cur.bind[15] = some (planeA 3 12) ∧ (planeA 3 12).kind = 3 ∧ popElement (stP 12 .zero).cur 0 (planeA 2 16) = .ok (c1, ea) ∧
      popElement c1 15 (planeA 3 12) = .ok (c2, eb) ∧ (planeA 2 16).planes ≤ 4 * ((stP 12 .zero).cur.w.pa.val + 1) ∧
      (planeA 3 12).planes ≤ 4 * ((stP 12 .zero).cur.w.pb.val + 1) ∧ (true = true → ∀ k, k < 65 → RowParity (stP 12 .zero).cur.w.work k)) ∧
    (∃ f, beat (.mshift 3 15) = some (3, 15, true, f) ∧ (stP 12 .zero).cur.bind[3] = none) ∧
    (∃ f, beat (.mpush 0 15 0) = some (15, 0, false, f) ∧ (stP 12 .zero).cur.bind[15] = some (planeA 3 12) ∧ (planeA 3 12).kind ≠ 2) ∧
    (∃ f, beat (.mpush 0 0 0) = some (0, 0, false, f) ∧ (stP 12 .zero).cur.bind[0] = some (planeA 2 16) ∧ (planeA 2 16).kind = 2 ∧ (planeA 2 16).kind ≠ 3) ∧
    (∃ c1 c2 ea eb, (stP 16 .zero).cur.bind[15] = some (planeA 3 16) ∧ popElement (stP 16 .zero).cur 0 (planeA 2 16) = .ok (c1, ea) ∧
      popElement c1 15 (planeA 3 16) = .ok (c2, eb) ∧ 4 * ((stP 16 .zero).cur.w.pb.val + 1) < (planeA 3 16).planes) ∧
    ∃ k, k < 65 ∧ ¬ RowParity (stP 12 badSet).cur.w.work k :=
  ⟨⟨_, _, _, _, _, rfl, rfl, rfl, rfl, rfl, rfl, rfl, by decide, by decide, fun _ k _ => zero_parity k⟩, ⟨_, rfl, rfl⟩, ⟨_, rfl, rfl, by decide⟩,
    ⟨_, rfl, rfl, rfl, by decide⟩, ⟨_, _, _, _, rfl, rfl, rfl, by decide⟩, 64, by decide, bad_parity⟩

theorem witness_ArraySetOperations : Instr.xnop ∈ [Instr.bnop, .snop, .anop, .vnop, .mnop, .xnop] := by decide

/-- Draining sets: all rows but the last drained; the same with a column sum that disagrees. -/
def drainSet (bad : Bool) : ArraySet :=
  { ArraySet.zero with dmask := 0x7FFFFFFFFFFFFFFF, dcol := if bad then ArraySet.zero.dcol.set 128 1 else ArraySet.zero.dcol, colsp := 1 }

theorem drain_row (b : Bool) (i : Nat) (_ : i < 64) : RowCheck (drainSet b) i := by
  refine ⟨zero_parity i, ?_⟩
  have h : ∀ j, ArrayCell (drainSet b) i j = 0 := fun j => by
    show ((((ArraySet.zero.acc.getD i _).getD j 0).toNat : Nat) : Int) = 0
    rw [cell_zero]; rfl
  simp [wordSum, h]

theorem witness_ArrayDrain :
    (RowCheck (drainSet false) 63 ∧
      ((∀ k : Fin 64, k ≠ 63 → (drainSet false).dmask.getLsbD k.val = true) ∧ (drainSet false).dmask.getLsbD 63 = false) ∧
      (∀ j, j < 129 → ((((drainSet false).dcol.getD j 0).toNat + ArrayCell (drainSet false) 63 j).toNat % 2 ^ 32 : Nat) = ArrayCell (drainSet false) 64 j) ∧
      (stC { ctxA with w := { archA with drain := drainSet false } }).cur.w.t0.ty = .i32) ∧
    (∃ j, j < 129 ∧ ((((drainSet true).dcol.getD j 0).toNat + ArrayCell (drainSet true) 63 j).toNat % 2 ^ 32 : Nat) ≠ ArrayCell (drainSet true) 64 j) ∧
    (¬ RowCheck badSet 64) ∧ (stC { ctxA with w := { archA with t0 := { tileA with ty := .f32 } } }).cur.w.t0.ty ≠ .i32 :=
  ⟨⟨drain_row false 63 (by decide), ⟨by decide, by decide⟩, by decide +kernel, rfl⟩, ⟨128, by decide, by decide +kernel⟩, fun h => bad_parity h.1, by decide⟩

/-- A tile of zeros with the stored sums given. -/
def tileZ (ty : TileType) (c : Row) (r : Vector W32 64) (z : W32) : Tile := { Tile.zero with ty := ty, colsum := c, rowsum := r, corner := z }

theorem zero_element (ty : TileType) (c : Row) (r : Vector W32 64) (z : W32) (i j : Nat) : element (tileZ ty c r z) i j = 0 := by
  simp only [element, tileZ, Tile.zero, rep_getD]
  simp [lane, bits]

theorem exact_zero (ty : TileType) (c : Row) (r : Vector W32 64) (z : W32) : ExactSums ty (tileZ ty c r z) (fun _ => 0) (fun _ => 0) 0 := by
  have h : colValue ty 0 = 0 := by cases ty <;> decide
  refine ⟨fun j _ => ?_, fun i _ => ?_, ?_⟩ <;> simp [zero_element, h]

theorem witness_TileSumsFollowTheData :
    ((tileZ .fp16 0 (.replicate 64 0) 0).ty ≠ .f32a ∧ SumsAgree (tileZ .fp16 0 (.replicate 64 0) 0)) ∧
    (GuardOn (stC { ctxA with w := { archA with t0 := tileZ .i16 0 (.replicate 64 7) 9 } }) gd1 ∧
      ∃ c1, (2 : Code4).val < 3 ∧ (tileZ .i16 0 (.replicate 64 7) 9).ty ≠ .f32a ∧
        ExactSums .i16 (tileZ .i16 0 (.replicate 64 7) 9) (fun _ => 0) (fun _ => 0) 0 ∧
        (∀ j, j < 128 → lane 32 (rowOf 32 fun j => if j < 64 then 7 else if j = 64 then 9 else 0) j = if j < 64 then 7 else if j = 64 then 9 else 0) ∧
        writeVDst (stC { ctxA with w := { archA with t0 := tileZ .i16 0 (.replicate 64 7) 9 } })
          (stC { ctxA with w := { archA with t0 := tileZ .i16 0 (.replicate 64 7) 9 } }).cur (.v 1) 2
          (rowOf 32 fun j => if j < 64 then 7 else if j = 64 then 9 else 0) = .ok c1) := by
  refine ⟨⟨by decide, ?_⟩, ⟨_, rfl, rfl⟩, _, by decide, by decide, exact_zero _ _ _ _, by decide +kernel, rfl⟩
  obtain ⟨h1, h2, h3⟩ := exact_zero .fp16 0 (.replicate 64 0) 0
  refine ⟨fun j hj => ?_, fun i hi => ?_, ?_⟩
  · exact Eq.trans (by simp [tileZ, lane, bits]) (h1 j hj)
  · exact Eq.trans (by simp [tileZ, rep_getD]) (h2 i hi)
  · exact Eq.trans (by simp [tileZ]) h3

theorem witness_TileCheckOutcomes (c : Row) (r : Vector W32 64) (z : W32) :
    (tileZ .i32 c r z).ty ≠ .f32a ∧ ExactSums .i32 (tileZ .i32 c r z) (fun _ => 0) (fun _ => 0) 0 ∧
    (let one : Row := 1#4096 <<< 4064
     let dc : Row → Nat → Int := fun s j => (0 - (lane 32 s j : Int)) % 2 ^ 32
     let dr : Vector W32 64 → Nat → Int := fun s i => (0 - ((s.getD i 0).toNat : Int)) % 2 ^ 32
     (∀ j, j < 128 → dc 0 j = 0) ∧ (∀ i, i < 64 → dr (.replicate 64 0) i = 0) ∧ (dc one 127 ≠ 0 ∧ ∀ k, k < 128 → k ≠ 127 → dc one k = 0) ∧
     (dr ((Vector.replicate 64 0).set 63 1) 63 ≠ 0 ∧ ∀ k, k < 64 → k ≠ 63 → dr ((Vector.replicate 64 0).set 63 1) k = 0) ∧
     dc one 127 = (0 - (1 : Int)) % 2 ^ 32 ∧ dr ((Vector.replicate 64 0).set 63 1) 63 = (0 - (1 : Int)) % 2 ^ 32 ∧ (0 - (1 : Int)) % 2 ^ 32 ≠ 0 ∧
     (dc (one ||| 1) 0 ≠ 0 ∧ dc (one ||| 1) 127 ≠ 0 ∧ (0 : Nat) ≠ 127) ∧
     (dr ((Vector.replicate 64 0).set 63 1 |>.set 0 1) 0 ≠ 0 ∧ dr ((Vector.replicate 64 0).set 63 1 |>.set 0 1) 63 ≠ 0)) :=
  ⟨by simp [tileZ], exact_zero _ _ _ _, by decide +kernel⟩

theorem witness_BlockFloatResults :
    (∃ c1 c2 x, (0 : Code4).val < 4 ∧ GuardOn stA gd1 ∧ readVSrc stA stA.cur 32 true (.v 0) = .ok (c1, x) ∧
      (let q := fun b => nq4Quant 0 (fun i => rcOf stA c1 .rne (64 * b + i)) ((List.range 64).map fun k => lane 32 x (64 * b + k))
       let out : Row := 0x2020#4096 <<< 512
       (∀ j, j < 128 → lane 4 out j = ((q (j / 64)).1.getD (j % 64) 0) % 16) ∧
       (∀ b, b < 512 - 64 → lane 8 out (64 + b) = if b < 2 then 0 * 64 + (q b).2.1 else 0) ∧
       writeVDst stA c1 (.v 127) 4 out ((q 0).2.2 ||| (q 1).2.2) = .ok c2)) ∧
    (∃ fin : List (Nat × Int), (3 : Nat) < 4 ∧ (∀ v ∈ fin, 0 < v.1) ∧ fin ≠ [] ∧
      ∃ X ≤ 63, ∀ v ∈ fin, dyVal v.1 v.2 ≤ dyVal (nq4Max 3) ((X : Int) - 32 + nq4Off 3)) ∧
    (∃ c1 c2 x, GuardOn stA gd1 ∧ readVSrc stA stA.cur 32 true (.v 1) = .ok (c1, x) ∧
      writeVDst stA c1 (.v 0) 4 (rowOf 32 fun j => (roundNum fp32 .rne false (nq4Q (lane 8 x (64 + j / 64) / 64) (lane 4 x j))
        ((lane 8 x (64 + j / 64) % 64 : Nat) - 32 + nq4Off (lane 8 x (64 + j / 64) / 64))).1) = .ok c2) ∧
    (GuardOn stA gd1 ∧ (63 : VReg).val < 64 ∧ stA.cur.w.t1.ty ≠ .f32 ∧ stA.cur.w.t1.ty ≠ .f32a) ∧
    (let s := stC { ctxA with w := { archA with t1 := { tileA with ty := .f32a } } }
     s.cur.w.t1.ty = .f32a ∧ ∃ c1 x y ea old, GuardOn s gd1 ∧ readV s s.cur 1 = .ok x ∧ readVSrc s s.cur 32 false .pool = .ok (c1, y) ∧
       readG s c1 2 = .ok ea ∧ readV s c1 127 = .ok old) ∧
    ((fp32.read 0x7F800001).isNan = true ∧ fp32.read 0xFF800000 = .inf true) ∧
    ((fp32.read 0x3F800000).isNan = false ∧ (∀ neg, fp32.read 0x3F800000 ≠ .inf neg) ∧ (-600 : Int) ≤ 600 ∧ (600 : Int) ≤ 600) := by
  refine ⟨⟨_, _, _, by decide, guard_on, rfl, by decide +kernel, by decide +kernel, rfl⟩, ⟨[(32, 31)], by decide, by decide, by decide, 63, by decide, ?_⟩,
    ⟨_, _, _, guard_on, rfl, rfl⟩, ⟨guard_on, by decide, by decide, by decide⟩, ⟨rfl, _, _, _, _, _, ⟨_, rfl, rfl⟩, rfl, rfl, rfl, rfl⟩, by decide, by decide⟩
  simp [dyVal, nq4Max, nq4Off, nq4Mags, nth]

/-! ### Branch slot -/

/-- The strand with a word in a register, its sequencer levels, and its queue. -/
def ctxL (levels : List Level) (pc npc nnpc : W32) : Context :=
  { ctxA with w := { archA with levels := levels, pc := .at pc, npc := .at npc, nnpc := .at nnpc, sp := 2 } }
/-- A level at its iteration i of t, with its body at 16 to 20; a modulo one of two stages. -/
def lvl (t : W32) (i : Nat) : Level := ⟨t, i, 16, 20, none⟩
def lvlM (t : W32) (i : Nat) : Level := ⟨t, i, 16, 20, some (4, 1)⟩
def kernelA : Kernel := ⟨0xFFFE :: 3 :: List.replicate 20 0, [0], [], 0⟩

theorem witness_BranchSlotDecisions :
    (∃ v t, condBranches (.b 1 0 true (-1)) = some (1, 0, true, false, .inl (-1)) ∧ readG stA stA.cur 1 = .ok v ∧ t = offTarget stA (-1)) ∧
    (∃ v t, condBranches (.brA 1 63 true 4) = some (1, 63, true, true, .inr 4) ∧ readG stA stA.cur 1 = .ok v ∧
      ∃ w, readG stA stA.cur 4 = .ok w ∧ t = w.setWidth 32) ∧
    (∃ x, rowBranches (.bvuA 0 false 5) = some (0, false, true, 5) ∧ readV stA stA.cur 0 = .ok x ∧ ∀ j, j < 4096 / 32 → lane 32 x j = 0) ∧
    (∃ x, rowBranches (.bvu 65 false 5) = some (65, false, false, 5) ∧ readV stA stA.cur 65 = .ok x ∧
      ∃ j k, j < 4096 / 16 ∧ k < 4096 / 16 ∧ lane 16 x j ≠ 0 ∧ lane 16 x k = 0) ∧
    (∃ w, readG stA stA.cur 4 = .ok w) ∧
    (∃ t : W32, loops (.loopi 4095 300) = some (.inr 4095, some 300, none) ∧ t.toNat = (4095 : Trip).toNat ∧ stA.cur.w.levels.length < 6) ∧
    (∃ t : W32, loops (.loopm 4 255 7) = some (.inl 4, none, some (255, 7)) ∧ (∃ w, readG stA stA.cur 4 = .ok w ∧ t = w.setWidth 32)) ∧
    6 ≤ (stC (ctxL (List.replicate 6 (lvl 1 0)) 0 0 0)).cur.w.levels.length ∧
    ∃ v, readG stA stA.cur 1 = .ok v ∧ v.getLsbD (0 : BitNo).val = true ∧ v.getLsbD (63 : BitNo).val ≠ true :=
  ⟨⟨_, _, rfl, rfl, rfl⟩, ⟨_, _, rfl, rfl, _, rfl, rfl⟩, ⟨_, rfl, rfl, by decide +kernel⟩, ⟨_, rfl, rfl, 0, 255, by decide, by decide, by decide +kernel, by decide +kernel⟩,
    ⟨_, rfl⟩, ⟨4095, rfl, by decide, by decide⟩, ⟨_, rfl, ⟨_, rfl, rfl⟩⟩, by decide +kernel, _, rfl, by decide, by decide⟩

theorem witness_QueueMoves : (ctxL [] 0 1 2).w.levels = [] ∧ kernelA.code[(PcEntry.at 0).addr.toNat]? = some 0xFFFE := by decide

theorem witness_LevelsOpenAndClose :
    (∀ l ∈ (ctxL [lvl 3 0] 5 6 7).w.levels, (ctxL [lvl 3 0] 5 6 7).w.pc.addr ≠ l.stop) ∧ (3 : W32) ≠ 0 ∧ (ctxL [] 5 6 7).w.levels = [] ∧
    (ctxL [lvl 3 0] 20 6 7).w.levels = [] ++ [lvl 3 0] ∧ (ctxL [lvl 3 0] 20 6 7).w.pc.addr = (lvl 3 0).stop ∧
    ¬ ((ctxL [lvl 3 0] 5 6 7).w.pc.addr = (lvl 3 0).stop ∨ (ctxL [lvl 3 0] 5 6 7).w.npc.addr = (lvl 3 0).stop ∨
      (ctxL [lvl 3 0] 5 6 7).w.nnpc.addr = (lvl 3 0).stop) := by decide

theorem witness_LoopSequencer :
    (let c := ctxL [lvl 3 1] 20 6 7
     c.w.levels = [] ++ [lvl 3 1] ∧ c.w.pc.idle = 0 ∧ (lvl 3 1).stop = c.w.pc.addr ∧ (lvl 3 1).iter + 1 < iterations (lvl 3 1) ∧
     iterations (lvl 3 2) ≤ (lvl 3 2).iter + 1 ∧ (lvl 3 1).stop ≠ (ctxL [lvl 3 1] 19 6 7).w.pc.addr ∧
     [lvl 9 0] = [] ++ [lvl 9 0] ∧ (lvl 9 0).stop = c.w.pc.addr) ∧
    (let c := ctxL [lvl 3 1] 18 19 20
     c.w.levels = [] ++ [lvl 3 1] ∧ c.w.pc.addr ≠ (lvl 3 1).stop ∧ c.w.npc.addr ≠ (lvl 3 1).stop ∧ Plain c.w.nnpc (lvl 3 1).stop ∧
     kernelA.code[(lvl 3 1).stop.toNat]? ≠ some 0xFFFE ∧ (lvl 3 1).iter + 1 < iterations (lvl 3 1) ∧ iterations (lvl 3 2) ≤ (lvl 3 2).iter + 1) ∧
    (let c := ctxL [lvlM 3 2] 20 6 7
     (lvlM 3 2).modulo = some (4, 1) ∧ c.w.levels = [] ++ [lvlM 3 2] ∧ Plain c.w.pc (lvlM 3 2).stop ∧ (lvlM 3 2).iter + 1 < (3 : W32).toNat + ((1 : Sc).val + 1) - 1 ∧
     (7 : Nat) < 8 ∧ ∀ m ∈ (ctxL [] 20 6 7).w.levels, (ctxL [] 20 6 7).w.pc.addr ≠ m.stop) := by
  refine ⟨by decide, ⟨rfl, by decide, by decide, ⟨rfl, rfl⟩, by decide, by decide, by decide⟩, rfl, rfl, ⟨rfl, rfl⟩, by decide, by decide, by decide⟩

def hdrA (stage lv : Fin 8) (first last : Bool) : Header := ⟨false, false, stage, lv, first, last, 0⟩

theorem witness_SuppressedSlotsDoNothing :
    ({ ctxA with w := { archA with pc := ⟨0, 0, true, false⟩ } } : Context).w.pc.annul = true ∧
    (let c := ctxL [lvl 3 2] 18 19 20
     c.w.pc.annul = false ∧ (∀ l, c.w.levels.getLast? = some l → l.modulo = none) ∧ (hdrA 0 5 true false).first = true ∧
     c.w.levels[(hdrA 0 5 true false).level.val]? = none ∧ c.w.levels[(hdrA 1 0 false true).level.val]? = some (lvl 3 2) ∧ (hdrA 1 0 false true).stage ≠ 0) ∧
    (let c := ctxL [lvlM 3 3] 20 6 7
     c.w.levels.getLast? = some (lvlM 3 3) ∧ (lvlM 3 3).modulo = some (4, 1) ∧ (lvlM 3 3).start.toNat ≤ c.w.pc.addr.toNat ∧
     c.w.pc.addr.toNat ≤ (lvlM 3 3).stop.toNat ∧ (hdrA 0 0 false false).stage = 0 ∧ (lvlM 3 3).trip.toNat ≤ (lvlM 3 3).iter) ∧
    (suppressed (ctxL [lvlM 3 3] 20 6 7) (Fetched.bundle 0 false).hdr = true ∧ (Fetched.bundle 0 false).ckpt = false) ∧
    (useOf 1 (.add ⟨1, 1, true⟩ (.g 1) (.g 2) (.g 3))).guard = some ⟨1, 1, true⟩ ∧ GuardOff stA ⟨1, 1, true⟩ ∧
    ∃ h, readG (stC { ctxA with loads := [⟨0, .status, [(0, 1)], none, [], none, 0, 0, [], [], false, .strand, 0, 0, false, 0, none, none⟩] })
      (stC { ctxA with loads := [⟨0, .status, [(0, 1)], none, [], none, 0, 0, [], [], false, .strand, 0, 0, false, 0, none, none⟩] }).cur 1 = .error h := by
  refine ⟨rfl, ⟨rfl, ?_, rfl, rfl, rfl, by decide⟩, by decide, by decide +kernel, rfl, ⟨_, rfl, by decide⟩, _, rfl⟩
  intro l h; cases h; rfl

/-! ### Transfer slot -/

/-- g8 to g15 hold d, g7 holds q, g6 holds r. -/
def regsD (d : List W64) (q r : W64) : Vector W64 64 :=
  (((((((((gsA.set 6 r).set 7 q).set 8 (d.getD 0 0)).set 9 (d.getD 1 0)).set 10 (d.getD 2 0)).set 11 (d.getD 3 0)).set 12 (d.getD 4 0)).set 13
    (d.getD 5 0)).set 14 (d.getD 6 0)).set 15 (d.getD 7 0)
def ctxD (d : List W64) (q r : W64) : Context := { ctxA with w := { archA with g := regsD d q r } }
/-- Page 0 of the plot and page 1 are translated on die 0, page 1 to HBM page 5 for reading alone; page 2's walk failed; page 3 is not cached. -/
def tlbA : List TlbEntry :=
  [⟨0, 1, 0, 0, .page 0x70000 0x70000 true true true true true none⟩, ⟨0, 1, 0, 1, .page 0x50000 0x50000 true false true true true none⟩,
   ⟨0, 1, 0, 2, .fail true 0x20000 true⟩]
def stX (c : Context) : State := { stC c with tlb := tlbA }
def stD (d : List W64) (q r : W64) : State := stX (ctxD d q r)

/-- A register that no load, result or error stands before reads as it stands. -/
theorem readG_quiet (s : State) (c : Context) (r : GReg) (h1 : c.loads = []) (h2 : c.fly = []) (h3 : c.w.parity.g = 0) :
    readG s c r = .ok (c.w.gval r) := by
  simp [readG, State.haltG, Context.loadOfG, Context.marked, State.readHalt, orHalt, ParityErr.gBad, h1, h2, h3]
theorem guard_on_D (d : List W64) (q r : W64) : GuardOn (stD d q r) gd1 :=
  ⟨_, readG_quiet (stD d q r) (ctxD d q r) _ rfl rfl rfl, by simp [Arch.gval, gd1, ctxD, regsD, gsA]⟩
theorem oct_D (a b c d e f g h : W64) (q r : W64) : OctIs (stD [a, b, c, d, e, f, g, h] q r) 1 [a, b, c, d, e, f, g, h] := by
  refine ⟨rfl, fun i hi => ⟨_, readG_quiet (stD _ q r) (ctxD _ q r) _ rfl rfl rfl, ?_⟩⟩
  interval_cases i <;> simp [Arch.gval, ctxD, regsD]

theorem witness_GlobalLoadsAndStores :
    (∃ v, globalLoads (.ldg gd1 0 7 3 true .system) = some (gd1, .inl 0, 7, 8, 8, true, .system, true, true) ∧ GuardOn (stD [] 0x10 0) gd1 ∧
      readG (stD [] 0x10 0) (stD [] 0x10 0).cur 7 = .ok v ∧ v.toNat % 8 = 0) ∧
    (∃ v, globalLoads (.ldgv gd1 127 7 false .strand) = some (gd1, .inr 127, 7, 512, 16, false, .strand, false, true) ∧ GuardOn (stD [] 0x18 0) gd1 ∧
      readG (stD [] 0x18 0) (stD [] 0x18 0).cur 7 = .ok v ∧ v.toNat % 16 ≠ 0) ∧
    (∃ v x, globalStores (.stg gd1 4 7 0 false .strand) = some (gd1, .inl 4, 7, 1, 1, false, .strand) ∧ GuardOn (stD [] 0xFFFF 0) gd1 ∧
      readG (stD [] 0xFFFF 0) (stD [] 0xFFFF 0).cur 7 = .ok v ∧ readG (stD [] 0xFFFF 0) (stD [] 0xFFFF 0).cur 4 = .ok x ∧ v.toNat % 1 = 0) ∧
    ∃ v x, globalStores (.stgv gd1 1 7 true .system) = some (gd1, .inr 1, 7, 512, 16, true, .system) ∧ GuardOn (stD [] 0xFFF8 0) gd1 ∧
      readG (stD [] 0xFFF8 0) (stD [] 0xFFF8 0).cur 7 = .ok v ∧ readV (stD [] 0xFFF8 0) (stD [] 0xFFF8 0).cur 1 = .ok x ∧ v.toNat % 16 ≠ 0 :=
  ⟨⟨_, rfl, ⟨_, rfl, rfl⟩, rfl, by decide⟩, ⟨_, rfl, ⟨_, rfl, rfl⟩, rfl, by decide⟩, ⟨_, _, rfl, ⟨_, rfl, rfl⟩, rfl, rfl, by decide⟩,
    _, _, rfl, ⟨_, rfl, rfl⟩, rfl, rfl, by decide⟩

/-- A translated word with an uncorrectable error. -/
def stU : State := { stD [] 0x10 3 with ue := [0x70010] }

theorem witness_AtomicsAndFences :
    (∃ x y z, atomics (.atcas gd1 62 7 true .ar .system) = some (.cas, gd1, 62, 7, true, .ar, .system) ∧ GuardOn (stD [] 0x10 3) gd1 ∧
      readG (stD [] 0x10 3) (stD [] 0x10 3).cur 62 = .ok x ∧ (AtKind.cas = .cas → readG (stD [] 0x10 3) (stD [] 0x10 3).cur (62 + 1) = .ok y) ∧
      (AtKind.cas ≠ .cas → y = 0) ∧ readG (stD [] 0x10 3) (stD [] 0x10 3).cur 7 = .ok z ∧ z.toNat % 8 = 0 ∧
      ∃ ps, (stD [] 0x10 3).trRange (stD [] 0x10 3).issDie (stD [] 0x10 3).cur.plot true true z.toNat 8 = .ok ps ∧
        (∀ p ∈ ps, (stD [] 0x10 3).ueHit p.1 p.2 = false) ∧ ∃ p ∈ ps, stU.ueHit p.1 p.2 = true) ∧
    (∃ z, readG (stD [] 0x12 3) (stD [] 0x12 3).cur 7 = .ok z ∧ z.toNat % 4 ≠ 0) ∧
    (∃ z, readG (stD [] 0x10FFC 3) (stD [] 0x10FFC 3).cur 7 = .ok z ∧ z.toNat % 4 = 0 ∧
      ∃ fa, (stD [] 0x10FFC 3).trRange 0 1 true true z.toNat 4 = .fault 0x13 fa) ∧
    (∃ z, readG (stD [] 0x30000 3) (stD [] 0x30000 3).cur 7 = .ok z ∧ z.toNat % 4 = 0 ∧ (stD [] 0x30000 3).trRange 0 1 true true z.toNat 4 = .wait) ∧
    (2 ^ 64 - 1 < 2 ^ 64 ∧ (64 = 32 ∨ 64 = 64)) ∧
    (LoadsSettled stA ∧ StoresPerformed stA .system ∧ (stA.die stA.issDie).updates = []) ∧
    ¬ StoresPerformed (stC { ctxA with cq := [mkStore stA 0 []] }) .strand := by
  refine ⟨⟨_, 0, _, rfl, ⟨_, rfl, rfl⟩, rfl, fun _ => rfl, fun h => absurd rfl h, rfl, by decide, [(0x70010, 8)], by decide, by decide, by decide⟩,
    ⟨_, rfl, by decide⟩, ⟨_, rfl, by decide, 0x10FFC, by decide⟩, ⟨_, rfl, by decide, by decide⟩, by decide, ⟨⟨by decide, rfl⟩, ⟨by decide, rfl, fun _ => rfl, fun _ => rfl⟩, rfl⟩, ?_⟩
  intro h; exact absurd h.2.1 (by simp [stC, State.cur, State.ctx, Tab.get, Tab.find, stA, State.reset])

/-- Granule 0 of core 0 full; a store withheld that fills the next. -/
def stG (q : W64) : State := { stD [] q 0x0002000000010002 with full := [spadBase 0] }
def ctxFe : Context := { ctxD [] 0x10 1 with buf := [{ mkStore stA 0x10 [] with fe := some (0x10, 2, true) }] }

theorem witness_FullEmptyInstructions :
    (∃ v, GuardOn (stG 0) gd1 ∧ readG (stG 0) (stG 0).cur 7 = .ok v ∧ PadOk (stG 0) (v.setWidth 32) (2 ^ 3) (2 ^ 3) ∧ PadOk (stG 0) (v.setWidth 32) 16 16 ∧
      (stG 0).ownFull (stG 0).cur (v.setWidth 32 : W32).toNat = true ∧ (stG 0).ue = [] ∧ (∀ st ∈ (stG 0).cur.buf, st.fe = none) ∧
      ∀ b, some b ∈ (stG 0).cur.bind.toList → b.kind ≠ 4) ∧
    (∃ v u, GuardOn (stG 0x1FFF0) gd1 ∧ readG (stG 0x1FFF0) (stG 0x1FFF0).cur 7 = .ok v ∧ readG (stG 0x1FFF0) (stG 0x1FFF0).cur 6 = .ok u ∧
      PadOk (stG 0x1FFF0) (v.setWidth 32) 8 8 ∧ (stG 0x1FFF0).ownFull (stG 0x1FFF0).cur (v.setWidth 32 : W32).toNat = false ∧ u.toNat % 65536 ≠ 0 ∧
      (v.setWidth 32 : W32).toNat % 16 = 0 ∧ (stG 0x1FFF0).spadOk (stG 0x1FFF0).cur.plot (stG 0x1FFF0).iss.core (v.setWidth 32 : W32).toNat (16 * (u.toNat % 65536)) = false) ∧
    (∃ v u, readG (stG 0x1FFE0) (stG 0x1FFE0).cur 7 = .ok v ∧ readG (stG 0x1FFE0) (stG 0x1FFE0).cur 6 = .ok u ∧
      PadOk (stG 0x1FFE0) (v.setWidth 32) (16 * (u.toNat % 65536)) 16) ∧
    (∃ v u, readG (stG 8) (stG 8).cur 7 = .ok v ∧ (v.setWidth 32 : W32).toNat % 16 ≠ 0 ∧ readG (stG 8) (stG 8).cur 0 = .ok u ∧ u.toNat % 65536 = 0) ∧
    ∃ early st late, (stX ctxFe).cur.buf = early ++ [st] ++ late ∧ st.fe = some (0x10, 2, true) ∧ (∀ o ∈ late, o.fe = none) ∧
      0x10 / 16 ≤ (0x2F : W32).toNat / 16 ∧ (0x2F : W32).toNat / 16 < 0x10 / 16 + 2 := by
  have h (q : W64) : readG (stG q) (stG q).cur 7 = .ok q := readG_quiet _ (ctxD [] q 0x0002000000010002) _ rfl rfl rfl
  have h6 (q : W64) : readG (stG q) (stG q).cur 6 = .ok 0x0002000000010002 := readG_quiet _ (ctxD [] q 0x0002000000010002) _ rfl rfl rfl
  have hg (q : W64) : GuardOn (stG q) gd1 := ⟨5, readG_quiet _ (ctxD [] q 0x0002000000010002) _ rfl rfl rfl, by decide⟩
  refine ⟨⟨_, hg _, h _, ⟨by decide, by decide⟩, ⟨by decide, by decide⟩, by decide, rfl, by decide, ?_⟩,
    ⟨_, _, hg _, h _, h6 _, ⟨by decide, by decide⟩, by decide, by decide, by decide, by decide⟩, ⟨_, _, h _, h6 _, by decide, by decide⟩,
    ⟨_, _, h _, by decide, rfl, by decide⟩, [], _, [], rfl, rfl, by simp, by decide, by decide⟩
  intro b hb
  have h : (stG 0).cur.bind.toList = List.replicate 16 none := rfl
  rw [h] at hb
  simp at hb

/-! Where a statement's premises are written in names of its own, the witness applies the statement to the concrete state and operands, with every
premise proved. -/

/-- A descriptor's first words. -/
abbrev sd (a b c : W64) : List W64 := [a, b, c, 0, 0, 0, 0, 0]
theorem oct_sd (a b c q r : W64) : OctIs (stD (sd a b c) q r) 1 (sd a b c) := oct_D ..

/-- SBIND of a kind above 5; of a pattern with NLEV 7; of planes at an address off 64; of the last 8 bytes of the segments; of a pattern whose second
element leaves them; of rows that start past them. -/
theorem witness_StreamBinding_patterns (h : Obligations.StreamBinding) :
    (∃ t, exec (.sbind gd1 15 1) (stD (sd 0x6001000000000000 1 0) 0 0) = .next t) ∧ (∃ t, exec (.sbind gd1 15 1) (stD (sd 0x0307000000000000 1 0) 0 0) = .next t) ∧
    (∃ t, exec (.sbind gd1 15 1) (stD (sd 0x3001000000000010 0x1000000001 0) 0 0) = .next t) ∧
    (∃ t, exec (.sbind gd1 15 1) (stD (sd 0x030200000001FFF8 1 2) 0 0) = .next t) ∧
    (∃ t, exec (.sbind gd1 15 1) (stD (sd 0x030100000001FFF8 0x800000002 0) 0 0) = .next t) ∧
    ∃ t, exec (.sbind gd1 15 1) (stD (sd 0x1901000000020000 1 0) 0 0) = .next t := by
  have a (w0 w1 w2 : W64) := h.1 (stD (sd w0 w1 w2) 0 0) gd1 15 1 (sd w0 w1 w2) (guard_on_D ..) (oct_sd ..)
  refine ⟨⟨_, (a _ _ _).1 (by decide)⟩, ⟨_, (a _ _ _).2.1 (by decide) (.inr (.inr (.inr (.inl (by decide)))))⟩,
    ⟨_, (a _ _ _).2.2.1 (by decide) ?_ (.inl (by decide))⟩, ⟨_, ((a _ _ _).2.2.2.1 (by decide) ?_ ?_).1 (by decide)⟩,
    ⟨_, ((a _ _ _).2.2.2.1 (by decide) ?_ ?_).2.1 (by decide)⟩, ⟨_, ((a _ _ _).2.2.2.1 (by decide) ?_ ?_).2.2 (by decide)⟩⟩
  all_goals first
    | (rintro (h | h | h | h | h | h | h | h | h | ⟨l, h1, h2, h3⟩)
       all_goals first
         | exact absurd h (by decide)
         | (interval_cases l <;> first | exact absurd h1 (by decide) | exact absurd h3 (by decide)))
    | decide

/-- The queue control words of a queue of 4 items of 16 bytes at 0x100, at 0x40; of one with a DEPTH of 0, at 0x50; of one that leaves the segments, at
0x60. -/
def memQ : Memory := [(spadBase 0 + 0x41, 1), (spadBase 0 + 0x44, 4), (spadBase 0 + 0x51, 1), (spadBase 0 + 0x62, 2), (spadBase 0 + 0x64, 4)]
def stQ (w0 w1 : W64) : State := { stD (sd w0 w1 0) 0 0 with mem := memQ }

/-- SBIND of a queue from its last item; of one that no word gives; of one that leaves the segments. -/
theorem witness_StreamBinding_queues (h : Obligations.StreamBinding) :
    (∃ t, exec (.sbind gd1 15 1) (stQ 0x4000000000000040 3) = .next t) ∧ (∃ t, exec (.sbind gd1 15 1) (stQ 0x5000000000000050 0) = .next t) ∧
    (∃ t, exec (.sbind gd1 15 1) (stQ 0x5000000000000060 0) = .next t) ∧ ∃ t, exec (.sunbind gd1 15) stA = .next t := by
  have a (w0 w1 : W64) := h.1 (stQ w0 w1) gd1 15 1 (sd w0 w1 0) (guard_on_D (sd w0 w1 0) 0 0) (oct_sd w0 w1 0 0 0)
  have q (w0 w1 : W64) := (a w0 w1).2.2.2.2
  refine ⟨⟨_, ((q 0x4000000000000040 3 (by decide) (by decide) (by decide) (by decide) (by decide) (by decide)).1 ?_ ?_ ?_ ?_ ?_ ?_).1 (by decide +kernel)⟩,
    ⟨_, (q 0x5000000000000050 0 (by decide) (by decide) (by decide) (by decide) (by decide) (by decide)).2 ?_⟩,
    ⟨_, ((q 0x5000000000000060 0 (by decide) (by decide) (by decide) (by decide) (by decide) (by decide)).1 ?_ ?_ ?_ ?_ ?_ ?_).2 (by decide +kernel)⟩,
    ⟨_, h.2.1 _ _ 15 guard_on⟩⟩
  all_goals decide +kernel

/-- Context 1 of the core has registered entry 31. -/
def stT (d : List W64) : State := { stX { ctxD d 0 0 with w := { (ctxD d 0 0).w with tt := [(2, ⟨0x2000, 1, 1, 16, .i32, 0x3000⟩)] } } with
  ctxs := [(0, { ctxD d 0 0 with w := { (ctxD d 0 0).w with tt := [(2, ⟨0x2000, 1, 1, 16, .i32, 0x3000⟩)] } }),
    (1, { ctxA with w := { archA with tt := [(31, ⟨0x1000, 1, 1, 16, .i32, 0x1800⟩)] } })] }

theorem oct_T (a b c d e f g h : W64) : OctIs (stT [a, b, c, d, e, f, g, h]) 1 [a, b, c, d, e, f, g, h] := by
  refine ⟨rfl, fun i hi => ⟨_, readG_quiet (stT _) (stT _).cur _ rfl rfl rfl, ?_⟩⟩
  show _ = some ((ctxD _ 0 0).w.gval _)
  interval_cases i <;> simp [Arch.gval, ctxD, regsD]
theorem guard_T (d : List W64) : GuardOn (stT d) gd1 :=
  ⟨5, readG_quiet (stT d) (stT d).cur _ rfl rfl rfl, rfl⟩

/-- TREG of a region off 16 bytes; of one past the scratchpad's end; of 65 rows; of an index that another context holds; of a region over that
context's; of the last 4 bytes below its own area; TUNREG of a foreign, an own and an invalid entry. -/
theorem witness_TileRegistration (h : Obligations.TileRegistration) :
    (∃ t, exec (.treg gd1 0 1) (stT [8, 1, 1, 16, 0, 0, 0, 0]) = .next t) ∧ (∃ t, exec (.treg gd1 0 1) (stT [0xBFFF0, 2, 4, 16, 0, 0, 0, 0]) = .next t) ∧
    (∃ t, exec (.treg gd1 0 1) (stT [0, 65, 1, 16, 0, 0x8000, 0, 0]) = .next t) ∧ (∃ t, exec (.treg gd1 31 1) (stT [0, 1, 1, 16, 0, 0x8000, 0, 0]) = .next t) ∧
    (∃ t, exec (.treg gd1 0 1) (stT [0x1000, 1, 1, 16, 0, 0x8000, 0, 0]) = .next t) ∧ (∃ t, exec (.tunreg gd1 31) (stT []) = .next t) ∧
    (∃ t, exec (.tunreg gd1 2) (stT []) = .next t) ∧ ∃ t, exec (.tunreg gd1 3) (stT []) = .next t := by
  have a (x b c d e f : W64) (n : TEntry) := h.1 (stT [x, b, c, d, e, f, 0, 0]) gd1 n 1 [x, b, c, d, e, f, 0, 0] (guard_T _) (oct_T ..)
  have u (n : TEntry) := h.2.1 (stT []) gd1 n (guard_T _)
  have o (d : List W64) : (stT d).othersTab (stT d).iss.core (stT d).iss.ctx = [(31, ⟨0x1000, 1, 1, 16, .i32, 0x1800⟩)] ++ (ctxA.sh.tt) := rfl
  refine ⟨(a 8 1 1 16 0 0 0).1 (by decide) |>.imp' (fun _ => _) fun _ e => e, (a 0xBFFF0 2 4 16 0 0 0).2.1 (by decide) (by decide) |>.imp' (fun _ => _) fun _ e => e,
    ⟨_, (a 0 65 1 16 0 0x8000 0).2.2.1 (by decide) (by decide) (.inl (by decide))⟩,
    ⟨_, (a 0 1 1 16 0 0x8000 31).2.2.1 (by decide) (by decide) (.inr (.inl ⟨_, List.mem_cons_self .., rfl⟩))⟩,
    ⟨_, (a 0x1000 1 1 16 0 0x8000 0).2.2.1 (by decide) (by decide) (.inr (.inr (.inr ⟨_, .inl (List.mem_cons_self ..), 0x1000,
      .inl ⟨0, 0, by decide, by decide, rfl⟩, .inl ⟨0, 0, by decide, by decide, rfl⟩⟩)))⟩,
    ⟨_, (u 31).1 ⟨_, List.mem_cons_self .., rfl⟩⟩, ⟨_, (u 2).2.1 (by rw [o]; decide) rfl⟩, ⟨_, (u 3).2.2 (by rw [o]; decide) rfl⟩⟩

/-- TREG of one column of one row right below its own area. -/
theorem witness_TileRegistration_adopts (h : Obligations.TileRegistration) :
    ∃ ty, typeOfCode 6 = some ty ∧ ∃ t, exec (.treg gd1 31 1) (stD [0x3F0, 1, 2, 16, 6, 0x400, 0, 0] 0 0) = .next t := by
  have a := (h.1 (stD [0x3F0, 1, 2, 16, 6, 0x400, 0, 0] 0 0) gd1 31 1 [0x3F0, 1, 2, 16, 6, 0x400, 0, 0] (guard_on_D ..) (oct_D ..)).2.2.2
  obtain ⟨ty, h1, h2⟩ := a (by decide) (by decide) (by decide) (by
    rintro (⟨o, ho, _⟩ | ⟨x, ⟨i, k, h1, h2, h3⟩, h4, _⟩ | ⟨o, (ho | ⟨ho, _⟩), _⟩)
    · exact absurd ho (List.not_mem_nil)
    · have e1 : i < 1 := h1
      have e2 : k < 8 := h2
      have e3 : x = 0x3F0 + i * 16 + k := h3
      have e4 : 0x400 ≤ x := h4
      omega
    · exact absurd ho (List.not_mem_nil)
    · exact absurd ho (List.not_mem_nil))
  exact ⟨ty, h1, _, h2⟩

/-- A copy descriptor of 16 bytes from the scratchpad at a to the scratchpad at b, and an engine operation of context 0. -/
abbrev cd (a b c : W64) : List W64 := [a, b, c, 0, 0, 0, 0, 0]
def engA : EngineOp := ⟨1, 0x1E, .context 0, (0, 0), 1, 0, 0, [], 0, 0, 0xF0, 0, 0, 0, 0, [], none, false, false, false, 0, 0, [], [], []⟩
/-- A state in which context 0 has n operations under way. -/
def stE (n : Nat) (d : List W64) (q : W64) : State := { stD d q 0 with engines := List.replicate n engA }
theorem guard_E (n : Nat) (d : List W64) (q : W64) : GuardOn (stE n d q) gd1 := guard_on_D d q 0
theorem oct_E (n : Nat) (a b c q : W64) : OctIs (stE n (cd a b c) q) 1 (cd a b c) := oct_D a b c 0 0 0 0 0 q 0
theorem q_E (n : Nat) (d : List W64) (q : W64) : readG (stE n d q) (stE n d q).cur 7 = .ok q := readG_quiet _ (ctxD d q 0) _ rfl rfl rfl

/-- ECOPY with its completion object off 16 bytes; outside the segments; with a length of 8; of a source off 16 bytes; of a target past the segments;
of a copy that its checks pass with 32 operations under way, and with 31. EGATHER to EFEED make the same checks of theirs. -/
theorem witness_EngineCommands (h : Obligations.EngineCommands) :
    (∃ t, exec (.ecopy gd1 1 7) (stE 0 (cd 0 0x40 16) 8) = .next t) ∧ (∃ t, exec (.ecopy gd1 1 7) (stE 0 (cd 0 0x40 16) 0x20000) = .next t) ∧
    (∃ t, exec (.ecopy gd1 1 7) (stE 0 (cd 0 0x40 8) 0x1FFF0) = .next t) ∧ (∃ t, exec (.ecopy gd1 1 7) (stE 0 (cd 8 0x40 16) 0x1FFF0) = .next t) ∧
    (∃ t, exec (.ecopy gd1 1 7) (stE 0 (cd 0 0x20000 16) 0x1FFF0) = .next t) ∧ (∃ t, exec (.ecopy gd1 1 7) (stE 32 (cd 0 0x40 16) 0x1FFF0) = .next t) ∧
    (∃ t, exec (.ecopy gd1 1 7) (stE 31 (cd 0 0x1FFE0 16) 0x1FFF0) = .next t) ∧
    [(0 : Nat), 0x40, 16, 0, 0, 0, 0, 0].length = 8 ∧ ∀ w ∈ [(0 : Nat), 0x40, 16, 0, 0, 0, 0, 0], w < 2 ^ 64 := by
  have a (n : Nat) (x y z q : W64) := h.1 (.ecopy gd1 1 7) 0x1E gd1 1 7 (fun _ d => copyAsk false d) rfl (stE n (cd x y z) q) (cd x y z) q (guard_E ..) (oct_E ..) (q_E ..)
  refine ⟨⟨_, (a 0 0 0x40 16 8).1 (by decide)⟩, ⟨_, (a 0 0 0x40 16 0x20000).2.1 (by decide) (by decide)⟩,
    ⟨_, ((a 0 0 0x40 8 0x1FFF0).2.2 ⟨by decide, by decide⟩).1 (by decide)⟩,
    ⟨_, ((a 0 8 0x40 16 0x1FFF0).2.2 ⟨by decide, by decide⟩).2.1 (by decide) [] 8 16 [(0x40, 16)] (by decide) (by decide) (by decide)⟩,
    ⟨_, (((a 0 0 0x20000 16 0x1FFF0).2.2 ⟨by decide, by decide⟩).2.2 (by decide) (by decide)).1 [⟨0, 1, 0, 16⟩] ⟨0x20000, 1, 0, 16⟩ [] (by decide) (by decide)
      (by decide)⟩,
    ⟨_, ((((a 32 0 0x40 16 0x1FFF0).2.2 ⟨by decide, by decide⟩).2.2 (by decide) (by decide)).2 (by decide)).1 (by decide)⟩,
    ⟨_, ((((a 31 0 0x1FFE0 16 0x1FFF0).2.2 ⟨by decide, by decide⟩).2.2 (by decide) (by decide)).2 (by decide)).2 (by decide)⟩, rfl, by decide⟩

/-- The plot has task queue 3, mapped at its die, with one record waiting. -/
def plotQ (n : Nat) : Plot := { plotA with queues := [(3, ⟨2, 0, 0, 0, List.replicate n [0, 1, 0, 0, 0, 0, 0, 0], 0, 0, true, 0, 0, false, 0⟩)] }
def stV (n : Nat) (d : List W64) (q : W64) (answer : Bool) (c : Context → Context := id) : State :=
  { stX (c (ctxD d q 0)) with plots := [(0, { Plot.absent with live := true }), (1, plotQ n)], vfEnable := true, iss := { State.reset.iss with answer := answer } }
theorem guard_V (n : Nat) (d : List W64) (q : W64) (b : Bool) : GuardOn (stV n d q b) gd1 := guard_on_D d q 0
theorem q_V (n : Nat) (d : List W64) (q : W64) (b : Bool) : readG (stV n d q b) (stV n d q b).cur 7 = .ok q := readG_quiet _ (ctxD d q 0) _ rfl rfl rfl
theorem oct_V (n : Nat) (a b c q : W64) (b' : Bool) : OctIs (stV n (sd a b c) q b') 1 (sd a b c) := oct_D a b c 0 0 0 0 0 q 0
theorem settled_V (n : Nat) (d : List W64) (q : W64) (b : Bool) (sc : Scope) : ReleaseMet (stV n d q b) sc :=
  ⟨⟨fun _ hl => absurd hl List.not_mem_nil, rfl⟩, fun _ => ⟨fun _ _ hs => absurd hs List.not_mem_nil, rfl, fun _ => by with_unfolding_all rfl, fun _ => rfl⟩⟩

theorem witness_QueueInstructions (h : Obligations.QueueInstructions) :
    (∃ t, exec (.qpush gd1 1 7) (stV 0 (sd 0 1 0) 4 true) = .next t) ∧ (∃ t, exec (.qpush gd1 1 7) (stV 0 (sd 0 0 0) 3 true) = .next t) ∧
    (∃ t, exec (.qpush gd1 1 7) (stV 0 (sd 0 1 0) 3 false) = .next t) ∧ (∃ t, exec (.qpush gd1 1 7) (stV 0 (sd 0 1 0) 3 true) = .next t) ∧
    (∃ t, exec (.qpush gd1 1 7) (stV 32 (sd 0 1 0) 3 true) = .next t) ∧ (∃ t, exec (.qpop gd1 7 7) (stV 0 [] 3 true) = .next t) ∧
    (∃ t, exec (.qpop gd1 7 7) (stV 0 [] 0x80000000 true) = .next t) ∧ (∃ t, exec (.qlen gd1 0 7) (stV 0 [] 0x80000000 true) = .next t) ∧
    (∃ t, exec (.qlen gd1 0 7) (stV 0 [] 0x100000003 true) = .next t) ∧ (∃ w : W32, w.toNat = (0 + (3 : W64).toNat) % 2 ^ 32) ∧
    (∃ t, exec (.cntrd gd1 (.latch 3)) (stV 0 [] 3 true) = .next t) ∧ (∃ t, exec (.notify gd1 7) (stV 0 [] 2 true) = .next t) ∧
    ∃ t, exec (.notify gd1 7) (stV 0 [] 31 true) = .next t := by
  have a (n : Nat) (d : List W64) (q : W64) (b : Bool) := h (stV n d q b) gd1 7 q (guard_V ..) (q_V ..)
  refine ⟨⟨_, ((a 0 (sd 0 1 0) 4 true).1 1 (sd 0 1 0) (oct_V ..)).1 (.inl (by decide))⟩, ⟨_, ((a 0 (sd 0 0 0) 3 true).1 1 (sd 0 0 0) (oct_V ..)).1 (.inr rfl)⟩,
    ⟨_, (((a 0 (sd 0 1 0) 3 false).1 1 (sd 0 1 0) (oct_V ..)).2 (.task 3) (by decide) (by decide)).2.2.1 (settled_V ..) rfl rfl⟩,
    ⟨_, ((((a 0 (sd 0 1 0) 3 true).1 1 (sd 0 1 0) (oct_V ..)).2 (.task 3) (by decide) (by decide)).2.2.2 (settled_V ..) rfl rfl).1 (by decide)⟩,
    ⟨_, ((((a 32 (sd 0 1 0) 3 true).1 1 (sd 0 1 0) (oct_V ..)).2 (.task 3) (by decide) (by decide)).2.2.2 (settled_V ..) rfl rfl).2 (by decide)⟩,
    ⟨_, ((a 0 [] 3 true).2.1 7).1 3 (by decide)⟩, ⟨_, ((a 0 [] 0x80000000 true).2.1 7).2 fun n e => ?_⟩, ⟨_, ((a 0 [] 0x80000000 true).2.2.1 0).1 (.run 0) (by decide)⟩,
    ⟨_, ((a 0 [] 0x100000003 true).2.2.1 0).2 (by decide)⟩, ⟨3, rfl⟩, ⟨_, (a 0 [] 3 true).2.2.2.2.1 (.latch 3) _ rfl⟩,
    ⟨_, (a 0 [] 2 true).2.2.2.2.2.2.1 (by decide)⟩, ⟨_, (a 0 [] 31 true).2.2.2.2.2.2.2 (by decide) (settled_V ..)⟩⟩
  have e1 : some (QName.run 0) = some (.task n) := e
  cases e1

/-- A push whose release is not met: an earlier store of the strand stands in its commit queue. A push in a rerun of an interval. -/
theorem witness_QueueInstructions_waits (h : Obligations.QueueInstructions) :
    (∃ b, exec (.qpush gd1 1 7) (stV 0 (sd 0 1 0) 3 true fun c => { c with cq := [mkStore stA 0 []] }) =
      .next (beginning (stV 0 (sd 0 1 0) 3 true fun c => { c with cq := [mkStore stA 0 []] }) b)) ∧
    ∃ t, exec (.qpush gd1 1 7) (stV 0 (sd 0 1 0) 3 true fun c => { c with ver := some ⟨0x15, 1, 0, 0, false, 0, 0, 0, none, none⟩ }) = .next t := by
  have a (f : Context → Context) (r : ∀ i, readG (stV 0 (sd 0 1 0) 3 true f) (stV 0 (sd 0 1 0) 3 true f).cur i = .ok ((ctxD (sd 0 1 0) 3 0).w.gval i)) :=
    (((h (stV 0 (sd 0 1 0) 3 true f) gd1 7 3 ⟨5, r 1, rfl⟩ (r 7)).1 1 (sd 0 1 0) ⟨rfl, fun i hi => ⟨_, r _, by
      interval_cases i <;> simp [Arch.gval, ctxD, regsD]⟩⟩).2 (.task 3))
  have r1 i := readG_quiet (stV 0 (sd 0 1 0) 3 true fun c => { c with cq := [mkStore stA 0 []] }) { ctxD (sd 0 1 0) 3 0 with cq := [mkStore stA 0 []] } i rfl rfl rfl
  have r2 i := readG_quiet (stV 0 (sd 0 1 0) 3 true fun c => { c with ver := some ⟨0x15, 1, 0, 0, false, 0, 0, 0, none, none⟩ })
    { ctxD (sd 0 1 0) 3 0 with ver := some ⟨0x15, 1, 0, 0, false, 0, 0, 0, none, none⟩ } i rfl rfl rfl
  exact ⟨(a _ r1 (by decide) (by decide)).1 fun m => absurd (m.2 rfl).2.1 (List.cons_ne_nil _ _),
    _, (a _ r2 (by decide) (by decide)).2.1 ⟨⟨fun _ hl => absurd hl List.not_mem_nil, rfl⟩, fun e => absurd e (by decide)⟩ rfl⟩

/-- Channel 7 bound to this module, with two words received and 33 on their way. -/
def chanA (n : Nat) : Channel := ⟨some (0, 0), [⟨0, 1, 0, 1, (0, 0), List.replicate n 7, false, 0, 0⟩], [], [1, 2]⟩
def ctxK (n : Nat) : Context := { ctxA with chan := ctxA.chan.set 7 (chanA n) }

theorem witness_ChannelInstructions :
    (∃ r0 r1, GuardOn stA gd1 ∧ readG stA stA.cur (Fin.ofNat 64 (2 * (31 : EvenReg).val)) = .ok r0 ∧ readG stA stA.cur (Fin.ofNat 64 (2 * (31 : EvenReg).val + 1)) = .ok r1) ∧
    (∃ c1, GuardOn (stC (ctxK 33)) gd1 ∧
      (let s := stC (ctxK 33)
       let ch := (s.ctx s.iss.ctx).chan[7]
       let v : W64 := 0x11F02
       v.toNat % 256 = ch.recv.length ∧ v.toNat / 2 ^ 8 % 256 = 64 - ch.sendWords ∧ v.toNat / 2 ^ 16 % 2 ^ 16 = (if ch.route.isSome then 1 else 0) ∧
       v.toNat / 2 ^ 32 % 256 = (s.landedFor s.iss.ctx 7).length ∧ v.toNat / 2 ^ 40 = min ((ch.send.head?.map SendPacket.refused).getD 0) 255 ∧
       writeDst s s.cur (.g 63) 1 v = .ok c1)) ∧
    (((ctxK 33).chan[7]).route = some (0, 0) ∧ ((ctxK 33).chan[7]).recv.length < 3 ∧ 2 ≤ ((ctxK 33).chan[7]).recv.length) ∧
    (((ctxK 33).chan[0]).route = none) ∧
    (((0 : W64).toNat / 2 ^ 60 = 0) ∧ (List.replicate 31 (0 : W64)) ≠ [] ∧ (List.replicate 31 (0 : W64)).length ≤ 32 ∧
      { stA with pairings := [⟨1, 0, 0, 0⟩] }.routed (ctxK 33).plot (0, 0) = true ∧
      ((ctxK 33).chan[7]).sendWords + (List.replicate 31 (0 : W64)).length ≤ 64 ∧ 64 < ((ctxK 33).chan[7]).sendWords + (List.replicate 32 (0 : W64)).length) := by
  refine ⟨⟨_, _, guard_on, rfl, rfl⟩, ⟨_, ⟨_, rfl, rfl⟩, by decide, by decide, by decide, by decide, by decide, rfl⟩, by decide, rfl, by decide, by decide,
    by decide, ?_, by decide, by decide⟩
  simp [State.routed, routeModule, bits, ctxK, ctxA]

theorem witness_OwnerInstructions :
    (GuardOn (stD (sd 1 2 3) 255 0) gd1 ∧ OctIs (stD (sd 1 2 3) 255 0) 1 (sd 1 2 3) ∧ readG (stD (sd 1 2 3) 255 0) (stD (sd 1 2 3) 255 0).cur 7 = .ok 255 ∧
      (255 : W64).toNat < 256 ∧ (stD (sd 1 2 3) 255 0).keys.find (255 : W64).toNat = none) ∧
    (256 ≤ (256 : W64).toNat ∧ ({ stA with keys := [(0, [])] }.keys.find (0 : W64).toNat).isSome = true) ∧
    (((8 : W64).setWidth 32 : W32).toNat % 16 ≠ 0 ∧ ((0x20000 : W64).setWidth 32 : W32).toNat % 16 = 0 ∧
      stA.spadOk stA.cur.plot stA.iss.core ((0x20000 : W64).setWidth 32 : W32).toNat 16 = false ∧ PadOk stA ((0x1FFF0 : W64).setWidth 32) 16 16) ∧
    (let w : Nat → Nat := fun i => ((sd 0x10000 0x10000 0x1FFF0).getD i 0).toNat
     (w 0 % 65536 = 0 ∧ w 1 % 65536 = 0 ∧ w 1 ≠ 0 ∧ w 0 < 2 ^ 40 ∧ w 1 < 2 ^ 40 ∧ w 0 + w 1 ≤ hbmTop ∧ w 2 < 2 ^ 32 ∧ ∀ i, i < 5 → w (i + 3) = 0) ∧
     (¬ ∃ e ∈ stA.plots, e.2.live = true ∧ ∃ r ∈ e.2.grants, resourceMeets r (w 0) (w 1) = true) ∧
     ∃ r ∈ [Resource.range 0x10000 0x10000], resourceMeets r (w 0) (w 1) = true) ∧
    { stA with jobs := List.replicate 7 ⟨0, 65536, 0, none⟩ }.jobs.length < 8 ∧ 8 ≤ { stA with jobs := List.replicate 8 ⟨0, 65536, 0, none⟩ }.jobs.length := by
  refine ⟨⟨guard_on_D .., oct_sd .., readG_quiet _ (ctxD (sd 1 2 3) 255 0) _ rfl rfl rfl, by decide, rfl⟩, by decide, ⟨by decide, by decide, by decide,
    by decide, by decide⟩, ⟨by decide, by decide, by decide⟩, by decide, by decide⟩

/-! An object at 0x100 of the plot, of no members, with its seal -/

/-- Bytes from an address on. -/
def cellsAt (a : Nat) : List Byte → Memory
  | [] => []
  | b :: bs => (a, b) :: cellsAt (a + 1) bs
def hdrBytes (state : Nat) : List Byte :=
  [0, 1, 1, 0, 0x0D, 0x1B, 0x47, 0xC0] ++ List.replicate 8 0 ++ [0, 0, 0, 0, BitVec.ofNat 8 state, 0, 0, 0] ++ [1, 0, 0, 0, 0xF0, 0, 0, 0] ++ List.replicate 32 0
/-- The 256 bytes of the header: its words, a seal z, and d in word 0 of the directory. -/
def headBytes (k z d : Nat) : List Byte := hdrBytes k ++ toBytes 16 z ++ List.replicate 48 0 ++ toBytes 8 d ++ List.replicate 120 0
/-- Table entries that the walker of plot 1 holds: both stages map their first gigabyte to itself. -/
def readsA : List TableRead :=
  [⟨0, 1, 0, false, 0x80000, 0x81001⟩, ⟨0, 1, 0, false, 0x81000, 0x82001⟩, ⟨0, 1, 0, false, 0x82000, 0x0E⟩, ⟨0, 1, 0, true, 0x90000, 0x91001⟩,
   ⟨0, 1, 0, true, 0x91000, 0x0E⟩]
/-- A state that holds the object with some seal z, so that no lemma about its bytes computes the seal; die 0 shows further bytes. -/
def stZ (k z d : Nat) (more : Memory) (f : Option (Nat × Nat × Bool)) : State :=
  { stX { ctxD [] 0x100 0x4000 with copying := f } with
    mem := cellsAt 0x70100 (headBytes k z d), dies := stA.dies.set 0 { Die.zero with view := more }, reads := readsA
    plots := [(0, { Plot.absent with live := true }), (1, { plotA with root := some 0x80000 })]
    estates := [(1, { Estate.absent with live := true, root := some 0x90000 })] }
def headZ (k z d : Nat) : ObjHeader := ⟨0xC0471B0D00010100, 0, k * 2 ^ 32, 0xF000000001, 0, 0, 0, 0, z, d :: List.replicate 15 0⟩
theorem get_cellsAt (a i : Nat) (l : List Byte) (h : i < l.length) : (cellsAt a l).get (a + i) = l[i] := by
  induction l generalizing a i with
  | nil => cases h
  | cons b bs ih =>
    cases i with
    | zero => simp [cellsAt, Memory.get]
    | succ i =>
      rw [cellsAt, Memory.get, if_neg (by omega), show a + (i + 1) = a + 1 + i by omega, ih _ _ (by simpa using h)]; rfl
theorem read_eq (m : Memory) (a n : Nat) : m.read a n = (List.range n).map fun i => m.get (a + i) := by
  induction n generalizing a with
  | zero => rfl
  | succ n ih =>
    rw [Memory.read, ih, List.range_succ_eq_map, List.map_cons, List.map_map]
    exact congrArg₂ _ rfl (List.map_congr_left fun i _ => by rw [Function.comp, show a + 1 + i = a + i.succ by omega])
theorem ofBytes_app (a b : List Byte) : ofBytes (a ++ b) = ofBytes a + 256 ^ a.length * ofBytes b := by
  induction a with
  | nil => simp [ofBytes]
  | cons x a ih => simp only [List.cons_append, ofBytes, ih, List.length_cons]; ring
theorem ofBytes_lt (a : List Byte) : ofBytes a < 256 ^ a.length := by
  induction a with
  | nil => simp [ofBytes]
  | cons x a ih => simp only [ofBytes, List.length_cons, pow_succ]; have := x.isLt; omega
theorem ofBytes_toBytes (n x : Nat) : ofBytes (toBytes n x) = x % 256 ^ n := by
  induction n generalizing x with
  | zero => simp [toBytes, ofBytes, Nat.mod_one]
  | succ n ih =>
    have h : x % 256 ^ (n + 1) = x % 256 + 256 * (x / 256 % 256 ^ n) := by rw [pow_succ, Nat.mul_comm, Nat.mod_mul]
    rw [toBytes, ofBytes, ih, h, BitVec.toNat_ofNat]
theorem at_mid (a b c : List Byte) : at_ (ofBytes (a ++ b ++ c)) a.length b.length = ofBytes b := by
  have h1 := ofBytes_lt a
  have h2 := ofBytes_lt b
  have e : ∀ n, 2 ^ (8 * n) = 256 ^ n := fun n => by rw [pow_mul]; norm_num
  rw [at_, bits, e, e, List.append_assoc, ofBytes_app, ofBytes_app, Nat.add_mul_div_left _ _ (by positivity), Nat.div_eq_of_lt h1, Nat.zero_add,
    Nat.add_mul_mod_self_left, Nat.mod_eq_of_lt h2]

theorem len_toBytes (n x : Nat) : (toBytes n x).length = n := by
  induction n generalizing x with
  | zero => rfl
  | succ n ih => rw [toBytes, List.length_cons, ih]
theorem len_hdr (k : Nat) : (hdrBytes k).length = 64 := rfl

theorem len_head (k z d : Nat) : (headBytes k z d).length = 256 := by
  simp only [headBytes, List.length_append, len_hdr, len_toBytes, List.length_replicate]
theorem read_Z (k z d : Nat) (m : Memory) (f : Option (Nat × Nat × Bool)) : (stZ k z d m f).homeRead 0x70100 256 = headBytes k z d := by
  show Memory.read (cellsAt 0x70100 (headBytes k z d)) 0x70100 256 = _
  rw [read_eq]
  apply List.ext_getElem
  · rw [List.length_map, List.length_range, len_head]
  · intro i h1 h2
    rw [List.getElem_map, List.getElem_range, get_cellsAt _ _ _ h2]

theorem head_Z (k z d : Nat) (hk : k < 4) (s : z < 256 ^ 16) (hd : d < 256 ^ 8) (m : Memory) (f : Option (Nat × Nat × Bool)) :
    readHeader ((stZ k z d m f).homeRead 0x70100 256) = headZ k z d := by
  have f (a b c : List Byte) (n m v : Nat) (h : headBytes k z d = a ++ b ++ c) (hn : n = a.length) (hm : m = b.length)
      (hv : ofBytes b = v) : at_ (ofBytes (headBytes k z d)) n m = v := by
    rw [h, hn, hm, at_mid, hv]
  have g (i : Nat) (h8 : i + 8 ≤ 120) : at_ (ofBytes (headBytes k z d)) (136 + i) 8 = 0 :=
    f (hdrBytes k ++ toBytes 16 z ++ List.replicate 48 0 ++ toBytes 8 d ++ List.replicate i 0) (List.replicate 8 0) (List.replicate (120 - i - 8) 0) _ _ _
      (by rw [headBytes, List.append_assoc _ (List.replicate i 0), List.append_assoc _ _ (List.replicate (120 - i - 8) 0), List.replicate_append_replicate,
            List.replicate_append_replicate, show i + 8 + (120 - i - 8) = 120 by omega]) (by simp only [List.length_append, len_hdr, len_toBytes, List.length_replicate]) rfl rfl
  rw [readHeader, read_Z]
  have w0 := f [] [0, 1, 1, 0, 0x0D, 0x1B, 0x47, 0xC0] _ 0 8 0xC0471B0D00010100 rfl rfl rfl rfl
  have w1 := f [0, 1, 1, 0, 0x0D, 0x1B, 0x47, 0xC0] (List.replicate 8 0) _ 8 8 0 rfl rfl rfl rfl
  have w2 := f ([0, 1, 1, 0, 0x0D, 0x1B, 0x47, 0xC0] ++ List.replicate 8 0) [0, 0, 0, 0, BitVec.ofNat 8 k, 0, 0, 0] _ 16 8 (k * 2 ^ 32) rfl rfl rfl
    (by interval_cases k <;> rfl)
  have w3 := f ([0, 1, 1, 0, 0x0D, 0x1B, 0x47, 0xC0] ++ List.replicate 8 0 ++ [0, 0, 0, 0, BitVec.ofNat 8 k, 0, 0, 0]) [1, 0, 0, 0, 0xF0, 0, 0, 0] _ 24 8
    0xF000000001 rfl rfl rfl rfl
  have w (n : Nat) (h : n < 4) := f ([0, 1, 1, 0, 0x0D, 0x1B, 0x47, 0xC0] ++ List.replicate 8 0 ++ [0, 0, 0, 0, BitVec.ofNat 8 k, 0, 0, 0] ++
    [1, 0, 0, 0, 0xF0, 0, 0, 0] ++ List.replicate (8 * n) 0) (List.replicate 8 0)
    (List.replicate (24 - 8 * n) 0 ++ toBytes 16 z ++ List.replicate 48 0 ++ toBytes 8 d ++ List.replicate 120 0)
    (32 + 8 * n) 8 0 (by interval_cases n <;> rfl) (by interval_cases n <;> rfl) rfl rfl
  have ws := f (hdrBytes k) (toBytes 16 z) (List.replicate 48 0 ++ toBytes 8 d ++ List.replicate 120 0) 64 16 z (by simp only [headBytes, List.append_assoc])
    rfl rfl (by rw [ofBytes_toBytes]; exact Nat.mod_eq_of_lt s)
  have wd := f (hdrBytes k ++ toBytes 16 z ++ List.replicate 48 0) (toBytes 8 d) (List.replicate 120 0) 128 8 d rfl
    (by simp only [List.length_append, len_hdr, len_toBytes, List.length_replicate]) rfl (by rw [ofBytes_toBytes]; exact Nat.mod_eq_of_lt hd)
  simp only [w0, w1, w2, w3, w 0 (by decide), w 1 (by decide), w 2 (by decide), w 3 (by decide), ws]
  refine congrArg (ObjHeader.mk 0xC0471B0D00010100 0 (k * 2 ^ 32) 0xF000000001 0 0 0 0 z) ?_
  apply List.ext_getElem
  · rfl
  · intro i h1 h2
    rw [List.length_map, List.length_range] at h1
    rw [List.getElem_map, List.getElem_range]
    cases i with
    | zero => exact wd
    | succ i =>
      rw [List.getElem_cons_succ, List.getElem_replicate, show 128 + 8 * (i + 1) = 136 + 8 * i by omega]
      exact g _ (by omega)

/-- The seal that R371 gives the object. -/
@[irreducible] def sealO : Nat := (stD [] 0x100 0x4000).sealAt 1 0 0xF000000001 0x100
/-- The object with that seal, of no members or of one image of 5120 bytes behind the header, its engine table with one entry. -/
def stObj (k d : Nat) (more : Memory) (f : Option (Nat × Nat × Bool)) : State := stZ k sealO d more f
def headObj (k d : Nat) : ObjHeader := headZ k sealO d
abbrev stO (k : Nat) : State := stObj k 0 [] none
abbrev headO (k : Nat) : ObjHeader := headObj k 0
theorem sealO_lt : sealO < 256 ^ 16 := by
  unfold sealO State.sealAt
  generalize hmacSha512 _ _ = l
  have h := ofBytes_lt (l.take 16)
  have e := List.length_take_le 16 l
  exact lt_of_lt_of_le h (Nat.pow_le_pow_right (by decide) e)
theorem headerAt_Obj (k d : Nat) (hk : k < 4) (hd : d < 256 ^ 8) (more : Memory) (f : Option (Nat × Nat × Bool)) :
    (stObj k d more f).headerAt [(0x70100, 256)] = headObj k d := by
  rw [stObj, headObj, ← head_Z k sealO d hk sealO_lt hd more f, State.headerAt, List.flatMap_cons, List.flatMap_nil, List.append_nil]
theorem slice_O (k : Nat) (hk : k < 4) : readHeader (slice ([(0x70100, 256)].flatMap fun p => (stO k).homeRead p.1 p.2) 0 256) = headO k := by
  rw [stO, headO, stObj, headObj, ← head_Z k sealO 0 hk sealO_lt (by decide) [] none, List.flatMap_cons, List.flatMap_nil, List.append_nil, slice, List.drop_zero,
    List.take_of_length_le]
  rw [read_Z, len_head]
theorem sealAt_congr (s t : State) (p o w b : Nat) (h : (s.plot p).gen = (t.plot p).gen) : s.sealAt p o w b = t.sealAt p o w b := by
  delta State.sealAt
  exact h ▸ rfl
theorem gen_Z (k z d : Nat) (more : Memory) (f : Option (Nat × Nat × Bool)) :
    ((stZ k z d more f).plot 1).gen = ((stD [] 0x100 0x4000).plot 1).gen := rfl
theorem seal_Z (k z d : Nat) (more : Memory) (f : Option (Nat × Nat × Bool)) :
    (stZ k z d more f).sealAt 1 0 0xF000000001 0x100 = (stD [] 0x100 0x4000).sealAt 1 0 0xF000000001 0x100 :=
  sealAt_congr (stZ k z d more f) (stD [] 0x100 0x4000) 1 0 0xF000000001 0x100 (gen_Z ..)
theorem sealO_eq : sealO = (stD [] 0x100 0x4000).sealAt 1 0 0xF000000001 0x100 := by delta sealO; exact Eq.refl _
theorem seal_O1 (k : Nat) : (headO k).sealv = (stO k).sealAt 1 0 0xF000000001 0x100 := sealO_eq.trans (seal_Z k sealO 0 [] none).symm
theorem seal_O (k : Nat) : (headO k).sealv = (stO k).sealAt (stO k).cur.plot (headO k).objid (headO k).w3 0x100 := by
  have e1 : ((stO k).cur.plot : Nat) = 1 := rfl
  have e2 : (headO k).objid = 0 := rfl
  have e3 : (headO k).w3 = 0xF000000001 := rfl
  rw [e1, e2, e3]
  exact seal_O1 k
theorem status_O (r : Nat) (hr : r < 4) : objectStatus (stO 1) (headO 1) 0x100 r = 0 ∧ objectStatus (stO 3) (headO 3) 0x100 r = 2 := by
  interval_cases r <;> constructor <;>
    rw [objectStatus, if_neg (by decide), if_neg (by decide), if_neg (not_not.2 (seal_O _)), if_neg (by decide)] <;> decide
theorem images_O : (stO 1).objImages 0 1 0x100 (headO 1) = some [] := rfl
theorem reached_Obj (k d : Nat) (more : Memory) (f : Option (Nat × Nat × Bool)) : ObjectReached (stObj k d more f) 0x100 [(0x70100, 256)] :=
  ⟨by decide, by with_unfolding_all rfl, ⟨fun _ hl => absurd hl List.not_mem_nil, rfl⟩, fun _ => ⟨fun _ _ hs => absurd hs List.not_mem_nil, rfl,
    fun _ => by with_unfolding_all rfl, fun _ => rfl⟩⟩
theorem met_O (k : Nat) (hk : k = 1 ∨ k = 3) : ObjectMet (stO k) 0x100 [(0x70100, 256)] := by
  refine ⟨reached_Obj k 0 [] none, ?_⟩
  rw [headerAt_Obj k 0 (by omega) (by decide)]
  rcases hk with rfl | rfl <;> exact fun h => absurd h.2 (by decide)
theorem q_O (k d : Nat) (m : Memory) (f : Option (Nat × Nat × Bool)) : readG (stObj k d m f) (stObj k d m f).cur 7 = .ok 0x100 :=
  readG_quiet (stObj k d m f) { ctxD [] 0x100 0x4000 with copying := f } _ rfl rfl rfl
theorem p_O (k d : Nat) (m : Memory) (f : Option (Nat × Nat × Bool)) : readG (stObj k d m f) (stObj k d m f).cur 6 = .ok 0x4000 :=
  readG_quiet (stObj k d m f) { ctxD [] 0x100 0x4000 with copying := f } _ rfl rfl rfl
theorem guard_O (k d : Nat) (m : Memory) (f : Option (Nat × Nat × Bool)) : GuardOn (stObj k d m f) gd1 :=
  ⟨5, readG_quiet (stObj k d m f) { ctxD [] 0x100 0x4000 with copying := f } _ rfl rfl rfl, rfl⟩

/-- A misaligned address; CINFO; CRES, CRES.T, CDROP and SUSP of a runnable and of a dropped object; CCOPY of a runnable one to a block after it. -/
theorem witness_ContinuationInstructions (h : Obligations.ContinuationInstructions) :
    (∃ t, exec (.susp gd1 7) (stD [] 0x80 0) = .next t) ∧ (∃ t, exec (.cinfo gd1 1 7) (stO 1) = .next t) ∧ (∃ t, exec (.cres gd1 7) (stO 1) = .next t) ∧
    (∃ t, exec (.cres gd1 7) (stO 3) = .next t) ∧ (∃ t, exec (.cdrop gd1 7) (stO 1) = .next t) ∧ (∃ t, exec (.cdrop gd1 7) (stO 3) = .next t) ∧
    (∃ t, exec (.cresT gd1 0 7) (stO 3) = .next t) ∧ (∃ t, exec (.susp gd1 7) (stO 1) = .next t) ∧ ∃ t, exec (.susp gd1 7) (stO 3) = .next t := by
  have a (k : Nat) := h (stO k) gd1 7 0x100 (guard_O ..) (q_O ..)
  have m (k : Nat) (hk : k = 1 ∨ k = 3) := (a k).2.2.1 [(0x70100, 256)] (met_O k hk)
  have m1 := m 1 (.inl rfl)
  have m3 := m 3 (.inr rfl)
  have e1 : (stO 1).headerAt [(0x70100, 256)] = headO 1 := headerAt_Obj 1 0 (by decide) (by decide) [] none
  have e3 : (stO 3).headerAt [(0x70100, 256)] = headO 3 := headerAt_Obj 3 0 (by decide) (by decide) [] none
  rw [e1] at m1
  rw [e3] at m3
  obtain ⟨s1, _⟩ := status_O 0 (by decide)
  obtain ⟨_, s3⟩ := status_O 0 (by decide)
  obtain ⟨d1, d3⟩ := status_O 2 (by decide)
  have cl : ((stO 1).cresCluster (clusterOf 0) 1 []).isSome = true := by decide +kernel
  refine ⟨⟨_, (h (stD [] 0x80 0) gd1 7 0x80 (guard_on_D ..) (readG_quiet _ (ctxD [] 0x80 0) _ rfl rfl rfl)).1 (by decide) 0 0 _ (List.mem_cons_self ..)⟩,
    ⟨_, (a 1).2.1 (by decide) 1⟩, ⟨_, m1.1 ?a⟩, ⟨_, m3.2.1 ?b⟩, ⟨_, m1.2.2.1 d1⟩, ⟨_, m3.2.2.2.1 (by rw [show (0x100 : W64).toNat = 0x100 from rfl, d3]; decide)⟩,
    (m3.2.2.2.2 0).imp' (fun _ => _) fun _ e => e.1,
    ⟨_, ((a 1).2.2.2.2 [(0x70100, 256)] (by decide) (by decide)).2.1 ?e rfl ?f⟩, ⟨_, ((a 3).2.2.2.2 [(0x70100, 256)] (by decide) (by decide)).2.2 ?g rfl ?i⟩⟩
  case a => exact (if_pos s1).trans (if_pos ⟨[], images_O, cl⟩)
  case b =>
    rw [show ∀ p q : Nat, (if objectStatus (stO 3) (headO 3) (0x100 : W64).toNat 0 = 0 then p else q) = q from fun p q => if_neg (by
      rw [show (0x100 : W64).toNat = 0x100 from rfl, s3]; decide)]
    rw [show (0x100 : W64).toNat = 0x100 from rfl, s3]
    decide
  case e => rw [slice_O 1 (by decide)]; exact fun e => absurd e.2 (by decide)
  case f =>
    rw [slice_O 1 (by decide)]
    exact ⟨by rw [State.objGenuine, show (0x100 : W64).toNat = 0x100 from rfl, ← seal_O, beq_self_eq_true, Bool.and_true]; decide, rfl⟩
  case g => rw [slice_O 3 (by decide)]; exact fun e => absurd e.2 (by decide)
  case i => rw [slice_O 3 (by decide)]; exact fun e => absurd e.2 (by decide)

/-- An image of 5120 bytes at offset 256 of the object, with an engine table of one entry that is not done. -/
def dirA : Nat := 256 * 2 ^ 24 + 80
def imageA : Memory := [(0x20E, 0x20), (0x1200, 0x1E)]
theorem images_A : ((stObj 1 dirA imageA (some (0x100, 0, false))).objImages (stObj 1 dirA imageA (some (0x100, 0, false))).issDie
      (stObj 1 dirA imageA (some (0x100, 0, false))).cur.plot (0x100 : W64).toNat (headObj 1 dirA)).any
    (fun ims => !enginesDone ims && (copyImages [] ims).toBool) = true := by decide +kernel

theorem dest_Obj (k d : Nat) (more : Memory) (f : Option (Nat × Nat × Bool)) :
    (stObj k d more f).trRange (stObj k d more f).issDie (stObj k d more f).cur.plot false true 0x4000 256 = .ok [(0x74000, 256)] := by with_unfolding_all rfl
/-- CCOPY of the runnable object to a block after it, as it begins, as it has begun with the engine table of an image not done, with none left
and before and after the destination's W2. -/
theorem witness_ContinuationInstructions_copy (h : Obligations.ContinuationInstructions) :
    (∃ t, exec (.ccopy gd1 6 7) (stO 1) = .next t) ∧ (∃ t, exec (.ccopy gd1 6 7) (stObj 1 dirA imageA (some (0x100, 0, false))) = .next t) ∧
    (∃ t, exec (.ccopy gd1 6 7) (stObj 1 0 [] (some (0x100, 0, false))) = .next t) ∧
    ∃ t, exec (.ccopy gd1 6 7) (stObj 1 0 [] (some (0x100, 0, true))) = .next t := by
  have a (d : Nat) (hd : d < 256 ^ 8) (more : Memory) (f : Option (Nat × Nat × Bool)) (ims : List ImageIn)
      (e : (stObj 1 d more f).objImages (stObj 1 d more f).issDie (stObj 1 d more f).cur.plot (0x100 : W64).toNat (headObj 1 d) = some ims) (ap : CopyApart (headObj 1 d) 0x100 0x4000) (l : List (Nat × List Byte))
      (cp : copyImages [] ims = .ok l) :=
    (h (stObj 1 d more f) gd1 7 0x100 (guard_O ..) (q_O ..)).2.2.2.1 [(0x70100, 256)] (reached_Obj ..) 6 0x4000 ims [(0x74000, 256)] (p_O ..) (by decide)
      (by rw [headerAt_Obj 1 d (by decide) hd]; exact e) (by rw [headerAt_Obj 1 d (by decide) hd]; exact dest_Obj ..)
      (by rw [headerAt_Obj 1 d (by decide) hd]; exact ap) ⟨l, by rw [headerAt_Obj 1 d (by decide) hd]; exact cp⟩
  have ap0 : CopyApart (headObj 1 0) 0x100 0x4000 := ⟨by decide, fun k hk => by
    obtain rfl : k = 0 := Nat.le_zero.1 hk
    exact .inr (by decide)⟩
  have ap1 : CopyApart (headObj 1 dirA) 0x100 0x4000 := ⟨by decide, fun k hk => by
    obtain rfl : k = 0 := Nat.le_zero.1 hk
    exact .inr (by decide)⟩
  have a0 (f : Option (Nat × Nat × Bool)) := a 0 (by decide) [] f [] rfl ap0 [] rfl
  have c1 := (status_O 1 (by decide)).1
  have w := images_A
  rw [Option.any_eq_true] at w
  obtain ⟨ims, e, k⟩ := w
  rw [Bool.and_eq_true, Bool.not_eq_true'] at k
  obtain ⟨k1, k2⟩ := k
  cases cp : copyImages [] ims with
  | error _ => rw [cp] at k2; cases k2
  | ok l =>
    refine ⟨⟨_, (a0 none).1 rfl ?busy ?status ?old⟩, ⟨_, ((a dirA (by decide) imageA _ ims e ap1 l cp).2 0x100 0 false rfl rfl).1 k1⟩,
      ⟨_, ((a0 (some (0x100, 0, false))).2 0x100 0 false rfl rfl).2.1 rfl rfl⟩, _, ((a0 (some (0x100, 0, true))).2 0x100 0 true rfl rfl).2.2 rfl rfl⟩
    case busy => rw [headerAt_Obj 1 0 (by decide) (by decide)]; exact fun h => absurd h.2 (by decide)
    case status => rw [headerAt_Obj 1 0 (by decide) (by decide)]; exact c1
    case old => exact fun e => absurd e.2 (by decide +kernel)

/-! ### The machine -/

/-- A load of g4 is pending; streams 0 (at its end), 1 (empty) and 2 (an element fetched) are bound; channel 7 holds a word. -/
def loadA (r : GReg) : Load := ⟨0, .status, [(0, r)], none, [], none, 0, 0, [], [], false, .strand, 0, 0, false, 0, none, none⟩
def bindA (wrap : Nat) (buf : List Element) : Binding := ⟨[BitVec.ofNat 64 (2 ^ 57 + 2 ^ 55 + 2 ^ 48 + wrap * 2 ^ 47), 0x400000002, 0, 0, 0, 0, 0, 0], 0, none, buf, []⟩
def ctxF : Context := { ctxK 1 with
  loads := [loadA 4], bind := ((ctxA.bind.set 0 (some (bindA 0 []))).set 1 (some (bindA 1 []))).set 2 (some (bindA 0 [⟨[1, 2, 3, 0x84], none⟩]))
  w := { archA with spos := (archA.spos.set 0 2).set 2 1 } }

theorem witness_OperandForms :
    (FreeG ctxF 63 ∧ (4 : GReg) ≠ 0 ∧ (∃ l ∈ ctxF.loads, ∃ d ∈ l.gd, d.2 = 4) ∧ readG (stC ctxF) ctxF 1 = .ok 5) ∧ ctxF.bind[15] = none ∧
    (ctxF.bind[0] = some (bindA 0 []) ∧ (bindA 0 []).kind = 0 ∧ (bindA 0 []).elem < 4 ∧ (bindA 0 []).wrap = false ∧ (bindA 0 []).total ≤ ctxF.w.spos[0]) ∧
    (ctxF.bind[1] = some (bindA 1 []) ∧ (bindA 1 []).wrap = true ∧ (bindA 1 []).buf = []) ∧
    (ctxF.bind[2] = some (bindA 0 [⟨[1, 2, 3, 0x84], none⟩]) ∧ ctxF.w.spos[2] < (bindA 0 [⟨[1, 2, 3, 0x84], none⟩]).total ∧ [1, 2, 3, (0x84 : Byte)].length = 2 ^ (bindA 0 [⟨[1, 2, 3, 0x84], none⟩]).elem) ∧
    ((ctxF.chan[7]).route = some (0, 0) ∧ (ctxF.chan[7]).recv = 1 :: [2]) ∧ (stC ctxF).iss.slot < 8 ∧
    ∃ c1 c2, pushChannel (stC ctxF) ctxF 7 [0] = .ok c1 ∧
      pushStream (stC ctxF) { ctxF with bind := ctxF.bind.set 3 (some ⟨[BitVec.ofNat 64 (2 ^ 60 + 3 * 2 ^ 56 + 2 ^ 48), 1, 0, 0, 0, 0, 0, 0], 0, none, [], []⟩) } 3 false (lowBytes 7 8) = .ok c2 := by
  refine ⟨⟨.inr ⟨?_, ?_, rfl⟩, by decide, ⟨_, List.mem_cons_self .., _, List.mem_cons_self .., rfl⟩, rfl⟩, rfl, by decide, by decide, by decide, ⟨rfl, rfl⟩,
    by decide, ?_⟩
  · simp [ctxF, loadA]
  · simp [ctxF, ctxK, ctxA, Context.empty]
  · exact ⟨_, _, rfl, rfl⟩

def flyA (ws : List Wr) (cov : Bool := true) : Fly := ⟨1, 7, 0x40, cov, false, ws⟩
def flyB : Fly := ⟨2, 1, 0x41, false, false, [.g 9 1]⟩

theorem witness_LandingsWriteTheirDestinations :
    (∀ ws : List Wr, OneDue { ctxA with fly := [flyB] ++ [flyA ws] ++ [flyB] } [flyB] [flyB] (flyA ws)) ∧ (flyA [.g 0 7, .latch 15 7]).ws = [.g 0 7, .latch 15 7] ∧
    (flyA [.flags 63]).slot = (7 : Fin 8).val ∧ (0x15F : CsrNo).toNat = 0x100 + (95 : Fin 96).val ∧ (0x037 : CsrNo).toNat = 0x030 + (7 : Fin 8).val :=
  ⟨fun _ => ⟨rfl, rfl, by intro o ho; simp at ho; rw [ho]; decide⟩, rfl, rfl, by decide, by decide⟩

theorem witness_CommitAndRollback :
    (639 < 640 ∧ (mkStore stA 0xBFFFF [7]).space = .spad ∧ { mkStore stA 0xBFFFF [7] with ents := [] }.ents = [] ∧ 0xBFFFF + [(7 : Byte)].length ≤ spadSize ∧
      Memory.wf stA.mem) ∧ ((mkStore stA 0xBFFFF [7]).fe = none) ∧ (0xBFFF0 % 16 = 0 ∧ 0xBFFF0 + 16 * 1 ≤ spadSize ∧ 0xBFFFF < spadSize) ∧
    { mkStore stA 0 [] with space := .hbm }.space = .hbm ∧ loadA 4 ∈ ctxF.loads ∧ { loadA 4 with covered := true }.covered = true := by
  refine ⟨by decide, rfl, by decide, rfl, List.mem_cons_self .., rfl⟩

/-- The owner plot's strand, with its log at 0x10000 for 2 records; the plot's strand, without a log and with a trap kernel. -/
def stOwn : State :=
  { stC { ctxA with plot := 0 } with ownerLog := ⟨0x10001, 0, 1, 0⟩, plots := [(0, { Plot.absent with live := true, policy := { Policy.atCreate with trapkslot := 7 } })] }
def stPlot : State :=
  { stC ctxA with plots := [(1, { plotA with policy := { Policy.atCreate with trapkslot := 7, ctxmax := 1 } })] }

theorem witness_TakingATrap :
    ((0x13 : Nat) < 0x14 ∧ (⟨0x13, 0, 0, none⟩ : Cause).at? = none ∧ (7 : Nat) < 8 ∧ stA.group (stA.ctx 0).group = some groupA ∧ groupA.members = [0] ∧
      groupA.stop = none ∧ (stA.ctx 0).shadowErr = false ∧ (stA.ctx 0).copying = none) ∧ ((stA.core (coreOfCtx 0)).running.map Fin.val = some (0 % 8)) ∧ ((stPlot.log (plotLog (stPlot.ctx 0).plot)).cfg.toNat % 32 = 0) ∧
    ((stOwn.ctx 0).plot = 0 ∧ stOwn.ownerLog.cfg.toNat % 32 ≠ 0 ∧ (stOwn.ownerLog.prod - stOwn.ownerLog.cons).toNat < 2 ^ (stOwn.ownerLog.cfg.toNat % 32) ∧ stOwn.enc = [] ∧
      Memory.wf stOwn.mem ∧ stOwn.ownerLog.cfg.toNat / 256 * 256 + 64 * (stOwn.ownerLog.prod.toNat % 2 ^ (stOwn.ownerLog.cfg.toNat % 32)) + 64 ≤ hbmTop) ∧
    ((stA.plot (stA.ctx 0).plot).policy.trapkslot = 0xFFFF) ∧
    (stPlot.plot (stPlot.ctx 0).plot).policy.trapkslot ≠ 0xFFFF ∧ (stPlot.plot (stPlot.ctx 0).plot).policy.trapkslot ≠ (stPlot.ctx 0).kslot :=
  ⟨⟨by decide, rfl, by decide, rfl, rfl, rfl, rfl, rfl⟩, rfl, by decide, by decide, rfl, by decide, by decide⟩

theorem witness_SlotsTouchTheirOwnContextOnly : (Instr.notify gd1 1).slotClass ≠ none := by decide

/-- The strand at a bundle that adds g1 and g2 to g63, as a literal in its kernel's code. -/
def bunA : Bundle := { Bundle.idle with scA := .add gd1 (.g 63) (.g 1) (.g 2), pool := 0 }
def rawA : Nat := encodeBundle bunA
def codeA : List W16 := 0xFFFF :: (List.range 24).map fun i => BitVec.ofNat 16 (rawA / 65536 ^ (23 - i))
def stB : State :=
  { stA with plots := [(0, { Plot.absent with live := true }), (1, { plotA with kernels := [(0, ⟨codeA, [], [], 0⟩)] })]
             cores := [(0, { Core.zero with running := some 0, share := { Share.zero with pos := 1 } })], due := [0, 5] }

theorem sound_A : Bundle.Sound bunA := by
  intro k i c h h2
  simp only [slotsOf, List.mem_cons, Prod.mk.injEq, List.mem_nil_iff, or_false] at h
  casesm* _ ∨ _
  all_goals
    obtain ⟨hk, hi⟩ := h
    subst hk hi
    cases h2
    exact ⟨rfl, by decide⟩

theorem witness_AStepRunsTheDecodedInstruction :
    (stB.micro = [] ∧ { stB with sched := [Instr.purseDecay] }.sched = Instr.purseDecay :: []) ∧ (Instr.xnop).slotClass ≠ none ∧
    (stB.sched = [] ∧ stB.due = 0 :: [5] ∧ 0 < 640 ∧ (stB.core 0).share.pos ≠ 0 ∧ stB.issuer 0 = some 0 ∧ stB.issueWaits 0 = false ∧ (stB.ctx 0).raised = none ∧ (stB.ctx 0).st = .running) ∧
    (Bundle.Sound bunA ∧ (stB.ctx 0).shadowErr = false ∧ (stB.ctx 0).failure = none ∧ stB.fetch (stB.ctx 0) = .ok (.bundle (encodeBundle bunA) true, none) ∧
      bunA.hdr.ckpt = false ∧ suppressed (stB.ctx 0) bunA.hdr = false ∧
      ∃ c2, SlotsRun (stB.beginIssue 0 0 false (stB.ctx 0) (.bundle (encodeBundle bunA) true)) { stB.ctx 0 with br := .none } (slotsOf bunA) c2 ∧ c2.br ≠ .exit) := by
  refine ⟨⟨rfl, rfl⟩, by decide, ⟨rfl, rfl, by decide, by decide, rfl, rfl, rfl, rfl⟩, sound_A, rfl, rfl, ?_, rfl, by decide, ?_⟩
  · rfl
  · exact ⟨_, .more rfl (.more rfl (.more rfl (.more rfl (.more rfl (.more rfl (.more rfl (.more rfl (.done _)))))))), fun e => nomatch e⟩

theorem witness_DecodingUndoesEncoding :
    (Instr.madc gd1 62 63 0 15 63 true).slotClass = some .scalar ∧ (Instr.madc gd1 62 63 0 15 63 true).wellFormed = true ∧ Bundle.Sound bunA :=
  ⟨rfl, by decide, sound_A⟩

/-! ### A core's cycle, memory and strands -/

/-- Running, at the first unit of its kernel: an idle run of one bundle. -/
def stI : State := { stB with plots := [(1, { plotA with kernels := [(0, ⟨[0xFFFE, 0], [], [], 0⟩)] })], due := [] }
/-- Several contexts of core 0, and none on it. -/
def stL (l : List (Nat × Context)) : State := { stA with ctxs := l, cores := [] }
def ctxR (at_ : Nat) : Context := { ctxA with st := .ready, readyAt := at_ }
/-- Context 0 waits for a stream, whose limit it has reached. -/
def ctxW : Context := { ctxA with st := .frozen .stream, parkOn := some (.stream 0), frozenFor := 65536 }

theorem quiet_C (s : State) (c : Context) (h1 : s.ctxs = [(0, c)]) (h2 : c.failure = none) (h3 : c.trapped = none)
    (h4 : (s.group c.group).bind Group.stop = none) (h5 : (s.group 0).bind Group.stop = none) : Quiet s := by
  intro z
  have e : s.ctx z = if z = 0 then c else Context.empty := by
    rw [State.ctx, h1]
    by_cases e : z = 0
    · subst e; rfl
    · rw [if_neg e]; simp [Tab.get, Tab.find, e]
  rw [e]
  by_cases e : z = 0
  · rw [if_pos e]; exact ⟨h2, h3, h4⟩
  · rw [if_neg e]; exact ⟨rfl, rfl, h5⟩

theorem witness_CoreCycleEvents :
    (stI.micro = [] ∧ stI.issuer (0 : CoreId).val = some 0 ∧ stI.issueWaits (0 : CoreId).val = false ∧ (stI.ctx 0).raised = none ∧ (stI.ctx 0).shadowErr = false ∧ (stI.ctx 0).failure = none ∧
      stI.fetch (stI.ctx 0) = .ok (.idle, none) ∧ (stI.ctx 0).w.levels = []) ∧
    ({ stA with micro := [.land 0, .yield 0 true] }.micro = .land (0 : CoreId).val :: [.yield 0 true] ∧ ∃ rel, Micro.yield (0 : CoreId).val rel ∈ [Micro.yield 0 true]) ∧
    ((∀ why, ctxA.st ≠ .frozen why) ∧ ctxW.st = .frozen .stream ∧ Reason.stream ≠ .checkpoint) ∧
    (let s : State := { stC { ctxA with buf := [mkStore stA 0xBFFFF [7]], br := .exit } with micro := [.commit 0 63] };
      s.micro = .commit (0 : CoreId).val 63 :: [] ∧ s.issuer 0 = some 0 ∧ (s.ctx 0).ver = none ∧ (s.ctx 0).post = [] ∧ (s.group (s.ctx 0).group).bind Group.stop = none ∧
      (s.ctx 0).br = .exit) ∧
    (ctxA.br ≠ .exit ∧ ctxA.buf = [] ∧ ∀ b, some b ∈ ctxA.bind.toList → b.kind ≠ 4) ∧
    ((stL [(0, ctxR 3), (1, ctxR 3)]).choice 0 = some 0 ∧ (stL [(0, ctxR 3), (1, ctxR 3)]).choice 639 = none ∧
      coreOfCtx 1 = 0 ∧ ((stL [(0, ctxR 3), (1, ctxR 3)]).ctx 1).candidate = true) ∧
    (let s : State := { stA with micro := [.yield 0 true] };
      s.micro = .yield (0 : CoreId).val true :: [] ∧ (s.core 0).running = some 0 ∧ Quiet s ∧ (s.ctx 0).st = .running ∧
      ({ s with micro := [] } : State).releaseWanted 0 0 = false ∧ (stC { ctxA with st := .barrier }).cur.st = .barrier) ∧
    ((stL []).micro = [] ∧ ((stL [(0, ctxR 3)]).core (0 : CoreId).val).running = none) ∧
    ((stC ctxW).issuer (0 : CoreId).val = some 0 ∧ (stC ctxW).cur.st = .frozen .stream ∧ (stC ctxW).cur.parkOn = some (.stream 0) ∧
      (stC ctxW).spinReg.toNat % 2 ^ 32 ≤ (stC ctxW).cur.frozenFor ∧ (stC ctxW).cur.ver = none ∧ (stC ctxW).cur.shadowErr = false ∧ (∀ q, ParkOn.stream 0 ≠ .queue q) ∧
      ((stC ctxW).group (stC ctxW).cur.group).bind Group.stop = none) ∧
    (stA.core (0 : CoreId).val).share.pos = 0 ∧ (65535 < 65536 ∧ (stA.core (639 : CoreId).val).share.share.get (gangKey 255 65535) 0 ≤
      (stA.core (639 : CoreId).val).share.charged.get (gangKey 255 65535) 0) := by
  refine ⟨⟨rfl, rfl, rfl, rfl, rfl, rfl, ?_, rfl⟩, ⟨rfl, _, List.mem_cons_self ..⟩, ⟨by simp [ctxA], rfl, by decide⟩, ⟨rfl, rfl, rfl, rfl, rfl, rfl⟩,
    ⟨by decide, rfl, ?_⟩, ?_, ⟨rfl, rfl, quiet_C _ ctxA rfl rfl rfl rfl rfl, rfl, ?_, rfl⟩, ⟨rfl, rfl⟩,
    ⟨rfl, rfl, rfl, ?_, rfl, rfl, by simp, rfl⟩, rfl, by decide, ?_⟩
  · rfl
  · intro b hb; simp [ctxA, Context.empty] at hb
  · refine ⟨?_, ?_, rfl, rfl⟩ <;> decide
  · decide
  · decide
  · decide

/-- A load of g4 with its one byte taken; a store of a line's last byte; an atomic of a doubleword; a die with a write and an update. -/
def loadM : Load := ⟨3, .mem true true, [(0, 4)], none, [(0, 4)], none, 0x10, 1, [(0x70010, 1)], [some 0x80], false, .strand, 0, 0, true, 0, none, none⟩
def storeM : Store := { mkStore stA 0 [7] with space := .hbm, addr := 0x1007F, dev := [(0x7007F, 1)] }
def atomM : Store := { storeM with addr := 0x10010, bytes := [], dev := [(0x70010, 0)], at? := some ⟨.add, true, 1, 0, 3⟩ }
def stM : State :=
  { stX { ctxA with loads := [loadM], cq := [storeM, atomM] } with
    dies := stA.dies.set 0 { Die.zero with out := [⟨1, [1, 0, 0, 0], 0x70000, [5]⟩], updates := [⟨1, [0, 1, 0, 0], 4, 0x60000, [9]⟩],
                                            own := [⟨0x60000, 1, 5⟩] } }

theorem witness_MemoryEvents :
    ((stM.ctx (0 : CtxId).val).loads[0]? = some loadM ∧ loadM.own.length = 1 ∧ stM.ordered 0 (stM.ctx 0) loadM = false ∧
      loadM.shGd = [(0, 4)] ∧ ∃ bs, stM.globalBytes 0 (stM.ctx 0) loadM = some bs ∧ bs.length = loadM.size) ∧
    ((stM.ctx 0).cq[0]? = some storeM ∧ stM.mayPerform 0 (stM.ctx 0) 0 storeM = true ∧ 0x7007F + storeM.bytes.length ≤ hbmTop ∧ stM.enc = [] ∧
      storeM.at? = none ∧ storeM.lanes = [] ∧ storeM.dev = [(0x7007F, storeM.bytes.length)] ∧ 1 ≤ storeM.bytes.length ∧ 0x7007F % 128 + storeM.bytes.length ≤ 128 ∧ Memory.wf (stM.die (dieOf (coreOfCtx 0))).view) ∧
    ((stM.ctx 0).cq[1]? = some atomM ∧ stM.mayPerform 0 (stM.ctx 0) 1 atomM = true ∧ 0x70010 + atomM.bytes.length ≤ hbmTop ∧ (stA.die 0).unnumbered 0x70010 = false ∧
      Memory.wf stM.mem) ∧
    ((stM.die 0).out[0]? = some ⟨1, [1, 0, 0, 0], 0x70000, [5]⟩ ∧ ∀ e ∈ (stM.die 0).out.take 0, e.addr % 2 ^ 48 / 128 ≠ 0x70000 % 2 ^ 48 / 128) ∧
    ((stM.die 0).updates[0]? = some ⟨1, [0, 1, 0, 0], 4, 0x60000, [9]⟩ ∧ 1 < (stM.die 0).clock.length ∧ [0, 1, 0, 0].getD 1 0 = (stM.die 0).clock.getD 1 0 + 1 ∧
      (∀ e, e < 4 → e ≠ 1 → [0, 1, 0, 0].getD e 0 ≤ (stM.die 0).clock.getD e 0) ∧ (stM.die 0).unnumbered 0x60000 = false ∧ Memory.wf (stM.die 0).view ∧
      ∃ w ∈ (stM.die 0).own, w.addr ≤ 0x60000 + 0 ∧ 0x60000 + 0 < w.addr + w.len ∧ 4 < w.number) ∧ 2 ^ 40 - 1 < 2 ^ 40 ∧
    ((stC ctxF).cur.bind[1] = some (bindA 1 []) ∧ (bindA 1 []).kind = 0 ∧ (bindA 1 []).few = false ∧ (bindA 1 []).part = [] ∧ (stC ctxF).ue = [] ∧
      (bindA 1 []).buf.length < 4 ∧ (bindA 1 []).buf.length < (bindA 1 []).total ∧ (bindA 1 []).wrap = true) ∧
    ((stA.die (3 : DieId).val).refreshNs < 64000 ∧ ({ stA with dies := stA.dies.set 3 { Die.zero with refreshNs := 127000 } }.die (3 : DieId).val).refreshNs = 64000 + 1000 * 63) ∧
    ((0xFFFFFFFFFF % 2 ^ 40 / 8 * 8 ∉ stA.ue ∧ 0x70015 % 2 ^ 40 / 8 * 8 ∈ stU.ue ∧ stU.patCount = 0 ∧ { stU with patCount := 0xFFFF }.patCount ≠ 0)) ∧
    (stA.ownerMsix.masked 0 = true ∧ { stA with ownerMsix := { stA.ownerMsix with table := [(0, 0, 0)] } }.ownerMsix.masked 0 = false) := by
  refine ⟨⟨rfl, rfl, by decide, rfl, _, rfl, rfl⟩, ⟨rfl, by decide, by decide, rfl, rfl, rfl, rfl, by decide, by decide, by decide⟩,
    ⟨rfl, by decide, by decide, by decide, by decide⟩, ⟨rfl, by simp⟩, ⟨rfl, by decide, by decide, by decide, by decide, by decide, by decide⟩, by decide,
    ⟨rfl, by decide, by decide, rfl, rfl, by decide, by decide, by decide⟩, by decide, ⟨by decide, by decide, rfl, by decide⟩, by decide, ?_⟩
  decide

/-- Plot 1 with a kernel; a run queue of a strand's record, a broken record, and the records of a group of two. -/
def recW (gsize grp member z : Nat) : RunRec := ⟨[BitVec.ofNat 64 (gsize * 2 ^ 12 + z), BitVec.ofNat 64 (5 * 2 ^ 48 + grp * 2 ^ 32 + member * 2 ^ 20), 0, 0, 0, 0, 0, 9], 0⟩
def stR (q : List RunRec) : State :=
  { stL [] with plots := [(0, { Plot.absent with live := true }), (1, { plotA with kernels := [(0, Kernel.empty)], grants := [.core 0, .core 1], policy := { Policy.atCreate with ctxmax := 2 } })]
                vfEnable := true, runq := [(runKey 0 1, q)] }
def ctxG (gid : Nat) (st : CtxState) : Context := { ctxA with st := st, group := gid }
def ctxE (code : Nat) (v : Option Verification) : Context := { ctxA with raised := some ⟨code, 2, 0, some (0x40, 7)⟩, ver := v }
def verA (b : Bool) : Verification := ⟨0x16, 2, 0x40, 7, b, 0, 0, 0, none, none⟩

def stRetry : State :=
  { stC { ctxA with st := .parked (.queue 3) } with plots := [(1, { plotA with queues := [(3, ⟨2, 0, 0, 64, [], 0, 0, true, 0, 0, true, 0⟩)] })] }

theorem witness_StrandEvents :
    ((stC { ctxA with st := .parked (.granule 0x10 false) }).cur.st = .parked (.granule 0x10 false) ∧ stA.isFull 0 0x10 = false) ∧
    (let c : Context := { ctxK 33 with st := .parked (.channel 7 2 31) }
     c.st = .parked (.channel 7 2 31) ∧ 2 ≤ (c.chan[7]).recv.length ∧ (c.chan[7]).sendWords + 31 ≤ 64) ∧
    (∃ q, (stRetry.ctx (0 : CtxId).val).st = .parked (.queue 3) ∧ stRetry.queueName (stRetry.ctx 0).plot 3 = some (.task 3) ∧ stRetry.queue (stRetry.ctx 0).plot 3 = some q ∧
      q.failing = true ∧ q.retryAt ≤ stRetry.tick) ∧
    (∃ it r, (stR [recW 0 0 0 1, recW 0 0 0 0]).itemAt 0 1 0 = some (it, r) ∧ r.gsize = 0 ∧ it.bad = true ∧
      ((stR [recW 0 0 0 1, recW 0 0 0 0]).plot (1 : PlotNo)).log.cfg.toNat % 32 = 0 ∧ (1 : PlotNo) ≠ 0 ∧ it.count = 1) ∧
    (∃ it r, (stR [recW 0 0 0 1, recW 0 0 0 0]).itemAt 0 1 1 = some (it, r) ∧ r.gsize = 0 ∧ it.bad = false ∧ (stR [recW 0 0 0 1, recW 0 0 0 0]).isNext 0 1 1 = true ∧
      ((stR [recW 0 0 0 1, recW 0 0 0 0]).coresFor 0 1 r.kslot).find? (fun e => e.1 == (1 : CoreId).val) = some ((1 : CoreId).val, 8)) ∧
    (∃ it r, (stR [recW 1 3 0 0, recW 1 3 1 0]).itemAt 0 1 0 = some (it, r) ∧ r.gsize ≠ 0 ∧ it.bad = false ∧ (stR [recW 1 3 0 0, recW 1 3 1 0]).isNext 0 1 0 = true) ∧
    (let s := stC (ctxG 1 .loading)
     s.group (s.ctx (0 : CtxId).val).group = some groupA ∧ (0 : CtxId).val ∈ groupA.members ∧ ∀ y ∈ groupA.members, (s.ctx y).st = .loading) ∧
    ({ ctxG 1 .draining with cq := [storeM] }.cq ≠ [] ∧ (ctxG 1 .draining).st = .draining ∧ (ctxG 1 .draining).fly = [] ∧ (ctxG 1 .draining).cq = [] ∧ ∀ l ∈ (ctxG 1 .draining).loads, l.isReply = true) ∧
    (let k : Context := { ctxG 1 .ready with releasing := true }
     k.releasing = true ∧ k.st = .ready ∧ k.fly = [] ∧ ∀ l ∈ k.loads, l.isReply = true) ∧
    ((ctxE 0x16 none).raised = some ⟨0x16, 2, 0, some (0x40, 7)⟩ ∧ (ctxE 0x16 none).ver = none ∧ (ctxE 0x16 none).copying = none ∧ (ctxE 0x16 none).shadowErr = false ∧
      { ctxE 0x16 none with shadowErr := true }.shadowErr = true ∧
      ∀ y, coreOfCtx y = coreOfCtx (0 : CtxId).val → ((stC (ctxE 0x16 none)).ctx y).ver = none) ∧
    ((verA false).runB = false ∧ ((verA false).code, (verA false).check, (verA false).faddr, (verA false).slot) = (0x16, 2, 0x40, 7)) ∧
    ((verA true).runB = true ∧ ((verA false).code, (verA false).check, (verA false).faddr, (verA false).slot) ≠ (0x17, 2, 0x40, 7)) := by
  refine ⟨⟨rfl, by decide⟩, ⟨rfl, by decide, by decide⟩, ⟨_, rfl, by decide, rfl, rfl, by decide⟩, ⟨_, _, rfl, by decide, by decide, by decide, by decide, by decide⟩,
    ⟨_, _, rfl, by decide, by decide, by decide, by decide⟩, ⟨_, _, rfl, by decide, by decide, by decide⟩, ⟨rfl, by decide, by decide⟩, ⟨List.cons_ne_nil _ _, rfl, rfl, rfl, by decide⟩,
    ⟨rfl, rfl, rfl, by decide⟩, ⟨rfl, rfl, rfl, rfl, rfl, ?_⟩, ⟨rfl, rfl⟩, rfl, by decide⟩
  intro y _
  by_cases e : y = 0
  · subst e; rfl
  · simp [State.ctx, stC, Tab.get, Tab.find, e, Context.empty]

/-! ### Engines, queues and launches, stops -/

/-- An engine operation of context 0 of plot 1, with handle 1 of the plot at HBM page 7, open to both, and handle 2 to none. -/
def engB (op : Nat) (d : List W64) (pos : Nat) (qcw : W64 := 0) (own : EngineOwner := .context 0) : EngineOp :=
  ⟨1, op, own, (0, 0), 1, 0, 0, d, 0x1FFF0, 0, 0xF0, qcw, pos, 0, 0, [], none, false, false, false, 0, 0, [], [], []⟩
def hdl (r w : Bool) : Handle := ⟨false, 0x70000, 0x10000, r, w, 0⟩
def stN (e : EngineOp) (full : List Nat := []) : State :=
  { stA with engines := [e], full := full, plots := [(0, { Plot.absent with live := true }), (1, { plotA with handles := [(1, hdl true true), (2, hdl false false)] })] }
/-- A copy of two rows of 528 bytes from 0 to 0x1000; one from the handle that may not be read. -/
def dCopy (w0 : W64) : List W64 := [w0, 0x1000, 0x0001000000000210, 0x0000040000000400, 0, 0, 0, 0]
/-- Planes of one INT8 row of 5 elements from 0 to 0x1C0 (KIND 1, 4 planes asked). -/
def dPlane (w0 : W64) : List W64 := [w0, 0x1C0, 0x1401000000000005, 16, 0, 0, 0, 0]
/-- A queue of 4 elements of 16 bytes at 0x200: the loader and the storer of 2 items from and to handle 1. -/
def dFeed (role : W64) : List W64 := [role * 2 ^ 60 + 0x40, 2 ^ 62 + 2 ^ 40, 0x200000001, 16, 0, 0, 0, 0]
def qcwA : W64 := 0x400000200
/-- 0x210 bytes from handle 1 into a die's weight store at a. -/
def dWeight (a : W64) : List W64 := [2 ^ 62 + 2 ^ 40, a, 0x210, 0, 0, 0, 0, 0]

theorem quiet_B (e : EngineOp) (f : List Nat) (h : e.core = 0) : QuietCore (stN e f) e := by
  refine ⟨?_, rfl, ?_, by rw [h]; decide, by show Memory.wf []; decide⟩
  · rw [h]; exact (by decide : stA.coreTiles 0 = [])
  · rw [h]; rfl

theorem witness_EngineEvents_copies :
    (let e : EngineOp := { engB 0x1E (dCopy 0) 0 with fork := (0, 1) }; let s : State := { stN e with ctxs := [(0, { ctxA with cq := [storeM] })] }
     s.engine 1 = some e ∧ s.forked e = false) ∧
    (let e := engB 0x1E (dCopy 0) 512; let s := stN e
     s.engine 1 = some e ∧ e.op = 0x1E ∧ e.finished = false ∧ s.forked e = true ∧ e.soft = [] ∧ endSpace (e.w 0) = 0 ∧ endSpace (e.w 1) = 0 ∧ QuietCore s e ∧ 0 < e.w 2 % 2 ^ 32 ∧
       min 512 (e.w 2 % 2 ^ 32 - e.pos % (e.w 2 % 2 ^ 32)) = 16 ∧ s.spadOk e.plot e.core 512 16 = true ∧ s.spadOk e.plot e.core (0x1000 + 512) 16 = true) ∧
    (let e := engB 0x1E (dCopy (2 ^ 62 + 2 ^ 41)) 0; (stN e).endRead e (e.w 0) 0 512 = .error (3, stN e) ∧ (stN e).engine 1 = some e) ∧
    (let e := engB 0x40 (dWeight 0xFE00) 512; let s := stN e
     s.engine 1 = some e ∧ e.op = 0x40 ∧ e.finished = false ∧ s.forked e = true ∧ e.w 3 % 8 < 4 ∧ Memory.wf s.mem ∧ s.wsOk e.plot 0 (0xFE00 + 512) 16 = false) ∧
    (let e := engB 0x40 (dWeight 0xFC00) 512; let s := stN e
     s.wsOk e.plot 0 (0xFC00 + 512) 16 = true ∧ (s.endRead e (e.w 0) e.pos 16).map Prod.fst = .ok (List.replicate 16 0)) := by
  refine ⟨⟨rfl, by decide⟩, ⟨rfl, rfl, rfl, by decide, rfl, rfl, rfl, quiet_B _ _ rfl, by decide, by decide, by decide, by decide⟩, ⟨by decide +kernel, rfl⟩,
    ⟨rfl, rfl, by decide, by decide, by decide, by decide, by decide⟩, by decide, by decide +kernel⟩

theorem witness_EngineEvents_planes :
    (let e := engB 0x22 (dPlane 0) 0; (stN e).engine 1 = some e ∧ e.op = 0x22 ∧ e.finished = false ∧ (stN e).forked e = true ∧ e.qcw = 0 ∧ e.fmt ≠ .nq4) ∧
    (let e := engB 0x22 (dPlane 0) 4 8; e.finished = false ∧ e.qcw ≠ 0 ∧ e.pos < e.total ∧ ((stN e).buildSlice e).toOption.any (fun p => (p.2.engine 1).isSome) = true) ∧
    (let e := engB 0x22 (dPlane (2 ^ 62 + 2 ^ 41)) 0 8; e.pos < e.total ∧ (stN e).buildSlice e = .error (3, stN e) ∧ (stN e).engine 1 = some e) ∧
    (let e := engB 0x22 (dPlane 0) 10 8; e.finished = false ∧ e.qcw ≠ 0 ∧ e.pos = e.total ∧ endSpace (e.w 1) = 0 ∧ QuietCore (stN e) e ∧
       (stN e).spadOk e.plot e.core (endOff (e.w 1)) 64 = true ∧ e.kcnt < 2 ^ 32 ∧ 4 ≤ e.qcw.toNat ∧ e.qcw.toNat ≤ 16) ∧
    ((List.replicate 64 (⟨true, 255, false, false, none⟩ : PlaneVal)).length = 64) :=
  ⟨⟨rfl, rfl, by decide, by decide, rfl, by decide⟩, ⟨by decide, by decide, by decide, by decide +kernel⟩, ⟨by decide, by decide +kernel, rfl⟩,
    ⟨by decide, by decide, by decide, by decide, quiet_B _ _ rfl, by decide, by decide, by decide, by decide⟩, by decide⟩

theorem witness_EngineEvents_feeds :
    (let e := engB 0x23 (dFeed 0) 1 qcwA; let s := stN e [spadBase 0 + 0x240]
     s.feeding 1 0 = some e ∧ e.itemAddrs = [0x210] ∧ s.allFull e.core 0x210 e.elemSize = false ∧
       s.endRead e (e.w 1) e.itemOff e.elemSize = .ok (List.replicate 16 0, s) ∧ QuietCore s e ∧ s.spadOk e.plot e.core 0x210 e.elemSize = true) ∧
    (let e := engB 0x23 (dFeed 0) 1 qcwA; let s := stN e [spadBase 0 + 0x210]; s.feeding 1 0 = some e ∧ ∃ a ∈ e.itemAddrs, s.allFull e.core a e.elemSize = true) ∧
    (let e := engB 0x23 (dFeed 1) 1 qcwA; let s := stN e [spadBase 0 + 0x210]
     s.feeding 1 1 = some e ∧ e.itemAddrs = [0x210] ∧ s.allFull e.core 0x210 e.elemSize = true ∧ QuietCore s e ∧ s.spadOk e.plot e.core 0x210 e.elemSize = true ∧
       (e.w 7).testBit 63 = false ∧ s.enc = [] ∧ s.engineAddr e.plot 0x70010 = some 0x70010 ∧ 0x210 % 16 = 0 ∧
       s.handleAt e.plot e.gen.toNat (endHandle (e.w 1)) (endOff (e.w 1) + e.itemOff) e.elemSize false true = .ok (.dev 0x70010) ∧
       0x70010 + e.elemSize ≤ hbmTop ∧ 0x70010 % 128 + e.elemSize ≤ 128 ∧ ∀ d, Memory.wf (s.die d).view ∧ (s.die d).out = []) := by
  refine ⟨⟨by decide +kernel, by decide +kernel, by decide +kernel, by decide +kernel, quiet_B _ _ rfl, by decide +kernel⟩, ⟨by decide +kernel, 0x210, by decide +kernel, by decide +kernel⟩,
    ⟨by decide +kernel, by decide +kernel, by decide +kernel, quiet_B _ _ rfl, by decide +kernel, by decide +kernel, rfl, by decide +kernel, by decide +kernel, by decide +kernel, by decide +kernel, by decide +kernel, ?_⟩⟩
  intro d
  rcases Nat.lt_or_ge d 4 with h | h
  · interval_cases d <;> decide
  · have e : d = d - 4 + 4 := by omega
    rw [e]; simp [stN, State.die, stA, State.reset, Vector.getD]; decide

theorem witness_EngineEvents_ends :
    (let e := engB 0x1E (dCopy 0) 0x420; e.finished = true ∧ (∀ l n, e.owner ≠ .node l n) ∧ e.saved = false ∧ e.op ≠ 0x1F ∧ QuietCore (stN e) e ∧
      (stN e).spadOk e.plot e.core e.cpl 16 = true ∧ e.cpl % 16 = 0 ∧ e.failure = none ∧ (e.w 7).testBit 63 = false) ∧
    (let e : EngineOp := { engB 0x1E (dCopy 0) 0 with cause := some (3, 0) }
     e.finished = true ∧ e.failure = some (3, 0) ∧ 0 < 0xFFFFFFFF ∧ e.plot ≠ 0 ∧ ((stN e).plot e.plot).log.cfg.toNat % 32 = 0) :=
  ⟨⟨by decide, by simp [engB], rfl, by decide, quiet_B _ _ rfl, by decide, by decide, by decide, by decide⟩, by decide, rfl, by decide, by decide, by decide⟩

/-- Context 0 waits for the answer to the push of bundle 0. -/
def stPush : State := { stB with ctxs := [(0, { stB.ctx 0 with st := .frozen .checkpoint, parkOn := some (.queue 3) })], due := [] }
def quA (mapped : Bool) (slot : List (List W64)) (head tail : Nat) (failing : Bool := false) : Queue := ⟨2, 0, 1, 64, slot, head, tail, mapped, 0, 0, failing, 0⟩
def stK (q : Queue) (c : Context := ctxA) (h : Nat := 1) : State :=
  { stC c with vfEnable := true, plots := [(0, { Plot.absent with live := true }), (1, { plotA with handles := [(h, hdl true true)], queues := [(3, q)] })] }
def popA : Load := ⟨5, .qpop 3, [(0, 4)], none, [], none, 0, 0, [], [], false, .strand, 0, 0, false, 0, none, none⟩
/-- A graph of a copy node and a kernel node with an edge to the second, its launch, and its gang. -/
def nodeA (kind : Nat) : List W64 := [BitVec.ofNat 64 (kind * 2 ^ 56), 0x0001000000000000, 0, 0, 0, 0, 0, 0]
def graphA : Graph := ⟨0x10000, 0x20000, 0, [nodeA 2, nodeA 1], [(false, 0, 1)]⟩
def launchA (plot : PlotNo) (ns : List NodeState) : Launch := ⟨plot, 1, 0, true, ns, none⟩
def stH (ns : List NodeState) (es : List EngineOp := []) : State :=
  { stX ctxA with plots := [(0, { Plot.absent with live := true }), (1, { plotA with graphs := [(1, graphA)], policy := { Policy.atCreate with written := 15 } })],
                  launches := [(0, launchA 1 ns)], engines := es }
/-- The owner plot, whose tables at 0x80000 map the first gigabyte to itself, with the same graph's launch. -/
def tabA : Memory := [(0x80000, 1), (0x80001, 0x10), (0x80002, 8), (0x81000, 1), (0x81001, 0x20), (0x81002, 8), (0x82000, 0x0E)]
def stOz (ns : List NodeState) : State :=
  { stA with plots := [(0, { Plot.absent with live := true, root := some 0x80000, grants := [.core 0], graphs := [(1, graphA)] })]
             launches := [(0, launchA 0 ns)], dies := stA.dies.set 0 { Die.zero with view := tabA } }
def stGang (g : Gang) (t : Nat) : State := { stA with gangs := [(gangKey 1 5, g)], tick := t }

theorem some_of_any {α : Type} {o : Option α} {p : α → Bool} (h : o.any p = true) : ∃ a, o = some a ∧ p a = true := by
  cases o with
  | none => cases h
  | some a => exact ⟨a, rfl, h⟩

theorem witness_QueueAndLaunchEvents_queues :
    (stPush.micro = [] ∧ stPush.issuer (coreOfCtx (0 : CtxId).val) = some (0 : CtxId).val ∧ (stPush.ctx 0).pushing = true ∧ (stPush.ctx 0).raised = none ∧
      (stPush.ctx 0).shadowErr = false ∧ (stPush.ctx 0).failure = none ∧ stPush.fetch (stPush.ctx 0) = .ok (.bundle rawA true, none) ∧ (stPush.ctx 0).ver = none ∧
      (((({ stPush with due := stPush.due.filter (· != 0) } : State).charge 0 0).beginIssue 0 0 true (stPush.ctx 0) (.bundle rawA true)).issueBundle 0 (stPush.ctx 0) (.bundle rawA true) none).toOption.any (fun c => c.br != .exit) = true) ∧
    (let q := quA true (List.replicate 31 []) 4 4; (stK q).queueName ((stK q).ctx 0).plot 3 = some (.task 3) ∧ (stK q).queue ((stK q).ctx 0).plot 3 = some q ∧
      q.mapped = true ∧ q.tail ≤ q.head ∧ q.slot.length < 32) ∧
    (let s := stK (quA true [[7]] 4 4) { ctxA with loads := [popA] }; (s.ctx (0 : CtxId).val).popping = some (popA, 3) ∧ s.fnHeld (s.ctx 0).plot = false ∧ { s with vfEnable := false }.fnHeld (s.ctx 0).plot = true ∧ ∃ q r, s.queue (s.ctx 0).plot 3 = some q ∧ q.slot = r :: []) ∧
    ((quA true [] 4 4).slot = [] ∧ (quA true [] 4 4).tail ≤ (quA true [] 4 4).head) ∧
    (let q := quA true (List.replicate 31 []) 4 5; let s := stK q; s.queue (1 : PlotNo) 3 = some q ∧ s.fnHeld (1 : PlotNo) = false ∧ q.mapped = true ∧ q.head < q.tail ∧ q.slot.length < 32 ∧
      q.failing = false ∧ s.heathAt (1 : PlotNo) q q.head true false = .ok 0x70100 ∧ s.ueHit 0x70100 64 = false ∧
      (stK q ctxA 2).heathAt (1 : PlotNo) q q.head true false = .error 1) ∧
    (let q := quA false [] 4 5; let s := stK q; s.tick % 4000 = 0 ∧ (s.mappedOf 0).length < 1024 ∧ s.bestWaiting 0 = some (1, 3, q) ∧ (s.mapQueue 1 3 q).bestWaiting 0 = none ∧
      s.tick < 2 ^ 64) := by
  refine ⟨⟨rfl, rfl, rfl, rfl, rfl, rfl, rfl, rfl, by decide +kernel⟩, ⟨by decide, rfl, rfl, by decide, by decide⟩, ⟨rfl, rfl, rfl, _, _, rfl, rfl⟩, ⟨rfl, by decide⟩,
    ⟨rfl, rfl, rfl, by decide, by decide, rfl, by rfl, by decide, by rfl⟩, ⟨by decide, by decide, by decide, by decide, by decide⟩⟩

theorem witness_QueueAndLaunchEvents_gangEnd :
    (let s := stGang ⟨0, none, none⟩ 0; s.gangs.find (gangKey 1 5) = some ⟨0, none, none⟩ ∧ (∀ e ∈ s.ctxs, e.2.st = .free ∨ e.2.plot ≠ 1 ∨ gangOf e.2.taskid ≠ 5) ∧
      (∀ e ∈ s.runq, e.1 % 256 = (1 : PlotNo).val → ∀ r ∈ e.2, r.gang ≠ 5) ∧ ∀ e ∈ s.restore, ∀ y ∈ e.2, y.plot ≠ 1 ∨ y.gang.toNat ≠ 5) :=
  ⟨by decide, by decide, by decide, by decide⟩

theorem witness_QueueAndLaunchEvents_gangFree :
    (let s := stGang ⟨0, none, some 7⟩ 400007; s.gangs.find (gangKey 1 5) = some ⟨0, none, some 7⟩ ∧ 7 + 400000 ≤ s.tick) :=
  ⟨by decide, by decide⟩

theorem witness_QueueAndLaunchEvents_launch :
    (let s := stH []; (s.plot (1 : PlotNo)).live = true ∧ (s.plot (1 : PlotNo)).graphs.find ((0x100000001 : W64).toNat / 2 ^ 32) = some graphA ∧
      ¬ ((0x100000001 : W64).toNat / 2 % 2 ^ 15 ≠ 0 ∨ graphA.aselmax < (0x100000001 : W64).toNat / 2 ^ 16 % 2 ^ 16 ∨ (s.plot (1 : PlotNo)).policy.written ≠ 15) ∧
      (0x100000002 : W64).toNat / 2 % 2 ^ 15 ≠ 0 ∧ graphA.aselmax < (0x100010000 : W64).toNat / 2 ^ 16 % 2 ^ 16 ∧ (s.plot (1 : PlotNo)).log.cfg.toNat % 32 = 0) :=
  ⟨by decide, rfl, by decide, by decide, by decide, by decide⟩

theorem witness_QueueAndLaunchEvents_copyNode :
    (∃ x, (stH [.waiting, .waiting]).launches.find 0 = some x ∧ graphA.nodes[0]? = some (nodeA 2) ∧ x.nodes[0]? = some .waiting ∧ x.cause = none ∧
      (∀ e ∈ graphA.edges, e.2.2 = 0 → x.nodes[e.2.1]? = some .done ∨ (e.1 = true ∧ x.nodes[e.2.1]? = some .started)) ∧ ((nodeA 2).getD 0 0).toNat / 2 ^ 56 = 2) :=
  ⟨launchA 1 [.waiting, .waiting], by decide +kernel, by decide +kernel, rfl, rfl, by decide +kernel, by decide +kernel⟩

theorem witness_QueueAndLaunchEvents_kernelNode :
    (∃ x, (stOz [.done, .waiting]).launches.find 0 = some x ∧ graphA.nodes[1]? = some (nodeA 1) ∧ x.nodes[1]? = some .waiting ∧ x.cause = none ∧
      (∀ e ∈ graphA.edges, e.2.2 = 1 → x.nodes[e.2.1]? = some .done ∨ (e.1 = true ∧ x.nodes[e.2.1]? = some .started)) ∧ ((nodeA 1).getD 0 0).toNat / 2 ^ 56 = 1) :=
  ⟨launchA 0 [.done, .waiting], by decide, by decide, rfl, rfl, by decide, by decide⟩

theorem witness_QueueAndLaunchEvents_kernelGroups :
    ((stOz [.done, .waiting]).newGang 0 = some 1 ∧ ∃ bs, (stOz [.done, .waiting]).plotRead 0 0 (graphA.argbase + 64 * (0 * graphA.nodes.length + 1)) 64 = some bs ∧
      ((stOz [.done, .waiting]).placeGroups 0 (nodeA 1) (bytesWords 8 bs) 1 (nodeWord (nodeA 1) 2) (bits (nodeWord (nodeA 1) 1) 48 16) 0).isSome = true) :=
  ⟨by decide +kernel, some_of_any (by decide +kernel)⟩

theorem witness_QueueAndLaunchEvents_nodeEnds :
    (∃ x e, (stH [.started, .waiting] [{ engB 0x1E [] 0 0 (.node 0 0) with noted := true }]).launches.find 0 = some x ∧ x.nodes[0]? = some .started ∧
      (stH [.started, .waiting] [{ engB 0x1E [] 0 0 (.node 0 0) with noted := true }]).engines.find? (fun o => o.owner == .node 0 0) = some e ∧ e.noted = true ∧ e.failure = none ∧ ¬ (∀ i y, x.nodes[i]? = some y → i = 0 ∨ y = .done ∨ (x.cause ≠ none ∧ y = .waiting))) :=
  by
  refine ⟨launchA 1 [.started, .waiting], { engB 0x1E [] 0 0 (.node 0 0) with noted := true }, by decide +kernel, rfl, by decide +kernel, rfl, rfl, ?_⟩
  intro h
  rcases h 1 .waiting rfl with h | h | h
  · cases h
  · cases h
  · exact h.1 rfl

theorem witness_QueueAndLaunchEvents_launchEnds :
    stA.allPerformed = true ∧ (stA.setCtx 0 { ctxA with cq := [storeM], st := .free }).allPerformed = false ∧
    (∀ (i : Nat) (y : NodeState), [NodeState.started, .done][i]? = some y → i = 0 ∨ y = .done ∨ ((none : Option Nat) ≠ none ∧ y = .waiting)) :=
  by
  refine ⟨by decide, by decide, fun i y h => ?_⟩
  rcases i with _ | _ | i
  · exact .inl rfl
  · exact .inr (.inl (by simpa using h.symm))
  · simp at h


/-- The kernels of plot 1, core 0 of which has all its contexts taken, with a record that waits; the slice of group 1 has passed. -/
def stSl (q : List RunRec) : State :=
  { stR q with ctxs := (0, ctxA) :: (List.range 7).map fun i => (i + 1, { ctxA with group := 2, st := .ready }), tick := 4000
               plots := [(1, { plotA with kernels := [(0, Kernel.empty)], grants := [.core 0], policy := { Policy.atCreate with ctxmax := 9 } })]
               groups := [(1, { groupA with deadline := 4000 }), (2, { groupA with members := [1, 2, 3, 4, 5, 6, 7], live := List.replicate 7 true })] }
def stopA (k : StopKind) : Stop := ⟨k, 0x20000, [], 0, true, 0, false, []⟩
/-- Context 0 stopped for a save, with nothing in flight. -/
def stSv : State := { stC { ctxA with st := .stopped } with groups := [(1, { groupA with stop := some (stopA .preempt) })] }
/-- An object of one strand at 0x20000 of the owner plot: state 1, gang 5, an image of n·64 bytes at 256, whose T0 section, if they reach it,
holds two elements. -/
def objA (n : Byte) : Memory :=
  [(0x20014, 1), (0x20024, 5), (0x20080, n), (0x20084, 1), (0x20106, 5), (0x20108, 0x40), (0x20109, 0x10), (0x2010E, 1), (0x21100, 1), (0x21104, 1)]
def savedA (place : List Nat) : Saved := ⟨0x20000, 0, 5, 1, 0, 0, none, 0, 1, [], place⟩
def kernA (t0 : Bool) : Kernel := ⟨[], [], [⟨0, t0, false, false, []⟩], 0⟩
def stSav (t0 : Bool) (place : List Nat) : State :=
  { stA with plots := [(0, { Plot.absent with live := true, root := some 0x80000, grants := [.core 0], kernels := [(0, kernA t0)], policy := { Policy.atCreate with ctxmax := 1 } })], ctxs := [], groups := []
             cores := [], mem := objA (if t0 then 65 else 1)
             dies := stA.dies.set 0 { Die.zero with view := objA (if t0 then 65 else 1) ++ tabA }, restore := [(0, [savedA place])] }
def heldA (p : PlotNo) : Held := ⟨p, 0x20000, 0, List.replicate 8 0⟩
def stHeld (op p : Nat) : State :=
  { stSav false [] with estates := [(1, { Estate.absent with live := true, frelobj := 0x20000, frelcmds := [(0x20000, BitVec.ofNat 64 (op * 2 ^ 56 + p))], held := [heldA (Fin.ofNat 256 p)] })] }

theorem witness_StopAndRestoreEvents_stops :
    (let g : Group := { groupA with deadline := 4000 }; let s := stSl []
     s.group 1 = some g ∧ g.checked = false ∧ g.stop = none ∧ g.deadline ≤ s.tick ∧ s.liveMembers 1 g ≠ [] ∧
       (∀ w ∈ s.works g.cluster, w.level < s.groupEff 1 g ∨ s.placeable g.cluster w = true)) ∧
    (let g : Group := { groupA with deadline := 4000 }; let s := stSl [recW 0 0 0 0]
     (s.works g.cluster).filter (fun w => decide (s.groupEff 1 g ≤ w.level) && !s.placeable g.cluster w) = [⟨0, 0, false, 1, 0, 1⟩] ∧ s.expired g.cluster = [1] ∧
       (s.without [1]).placeable g.cluster ⟨0, 0, false, 1, 0, 1⟩ = true ∧ ∀ x ∈ g.members, (s.ctx x).shadowErr = false) ∧
    ((stopA .preempt).atCheckpoint = true ∧ (stopA .preempt).asked + 8000 ≤ 8000 ∧ (groupA.members.filter fun x => decide (x < 5120)).Nodup) ∧
    (let g : Group := { groupA with stop := some (stopA .preempt) }; let ms := stSv.liveMembers 1 g
     stSv.group 1 = some g ∧ ms ≠ [] ∧ (∀ m ∈ ms, stSv.memberSettled m.2 = true ∧ stSv.memberLost m.2 = false) ∧
       (stopA .preempt).kind = .preempt ∧ (stopA .preempt).begun = false ∧ ∃ s2 l, stSv.captureAll (stopA .preempt).failed ms = .done s2 l ∧ s2.restore = stSv.restore) := by
  refine ⟨⟨by decide, rfl, rfl, by decide, by decide, by decide⟩, ⟨by decide, by decide, by decide, by decide⟩, ⟨rfl, by decide, by decide⟩,
    ⟨rfl, by decide, by decide, rfl, rfl, _, _, rfl, rfl⟩⟩

/-- The images of an object pass the check of their tiles. -/
def imagesPass (s : State) (e : ObjHeader × List ImageIn) : Bool :=
  (checkImages (((s.plot 0).kernels.find e.1.kslot).elim [] Kernel.live) e.2).toBool

theorem witness_StopAndRestoreEvents_restores :
    (let s := stSav false []; (s.nextWork (0 : ClusterId).val).map Work.saved = some true ∧ (s.restoreList 0)[0]? = some (savedA []) ∧
      ∃ e, s.savedImages 0 (savedA []) = some e ∧ (s.placeIn 0 (savedA []).plot e.2 == some [0]) = true) ∧
    (let s := stSav false [0]; (s.restoreList 0)[0]? = some (savedA [0]) ∧ (savedA [0]).place ≠ [] ∧ (savedA [0]).place.Nodup ∧ (∀ y ∈ (savedA [0]).place, s.coreUsable 0 (coreOfCtx y) = true) ∧
      (∃ y ∈ (savedA [8]).place, s.coreUsable 0 (coreOfCtx y) = false) ∧ ∃ e,
      s.savedImages 0 (savedA [0]) = some e ∧ (enginesDone e.2 && imagesPass s e && e.2.length == (savedA [0]).place.length) = true) ∧
    (let s := stSav true [0]; ∃ e, s.savedImages 0 (savedA [0]) = some e ∧ (enginesDone e.2 && !imagesPass s e) = true) :=
  ⟨⟨by decide +kernel, rfl, some_of_any (by decide +kernel)⟩, ⟨rfl, by decide, by decide, by decide, by decide, some_of_any (by decide +kernel)⟩, some_of_any (by decide +kernel)⟩

theorem witness_StopAndRestoreEvents_held :
    (let s := stHeld 1 0; (s.estate 1).frelcmds = [(0x20000, 0x0100000000000000)] ∧ (s.estate 1).held = [] ++ [heldA 0] ++ [] ∧ (heldA 0).obj = (0x20000 : W64).toNat ∧
      s.heldWritten (heldA 0) = true ∧ ∃ hd, s.objHeader 0 (heldA 0).plot (heldA 0).obj = some hd ∧ (!hd.busy && hd.state == 1 &&
        (s.objImages 0 (heldA 0).plot (heldA 0).obj hd).any fun ims => s.cresCluster 0 (heldA 0).plot ims == some 0) = true) ∧
    (∀ h ∈ (stHeld 1 5).estate 2 |>.held, h.obj ≠ 0) ∧
    (let s := stHeld 2 1; (s.estate 1).frelcmds = [(0x20000, 0x0200000000000001)] ∧ (heldA 1).plot ≠ 0 ∧ (s.plot (heldA 1).plot).log.cfg.toNat % 32 = 0 ∧
      (s.plot (heldA 1).plot).policy.trapkslot = 0xFFFF) :=
  ⟨⟨rfl, rfl, rfl, by decide, some_of_any (by decide +kernel)⟩, by decide, ⟨rfl, by decide, by decide, by decide⟩⟩

/-! ### The fabric and the management commands -/

/-- A packet within the module from context 0 to context 0, channel 7 to channel 6. -/
def pktA (k : PacketKind) (ws : List W64) (gen : BitVec 16 := 0) : Packet :=
  ⟨k, 0, Config.moduleNumber, 1, gen, 0, 0, 7, Config.moduleNumber, 0, 6, 0, 0, ws⟩
def sndA (m : Nat) (fly : Bool) (refused : Nat) : SendPacket := ⟨0, 1, 0, 1, (BitVec.ofNat 64 (m * 2 ^ 48), 1), [5], fly, refused, 0⟩
def chFab (c6 c7 : Channel) : Context := { ctxA with chan := (ctxA.chan.set 6 c6).set 7 c7 }
def stFab (c6 c7 : Channel) (fabric : List Packet := []) : State := { stC (chFab c6 c7) with fabric := fabric, vfEnable := true }
def chSend (h : SendPacket) : Channel := ⟨none, [h], [], []⟩
def chRecv (n : Nat) : Channel := ⟨some (0, 1), [], [], List.replicate n 9⟩
/-- A die's agent with an operation on handle 1 (open to both) or 2 (to none), at an offset of a segment of core 0 or of HBM. -/
def stAg (spad : Bool) (p : Packet) : State :=
  { stA with dies := stA.dies.set 0 { Die.zero with agent := [p] }
             plots := [(1, { plotA with handles := [(1, { hdl true true with addr := if spad then spadBase 0 else 0x70000 }), (2, hdl true false)] })] }
def opW (op h : Nat) : W64 := BitVec.ofNat 64 (op * 2 ^ 60 + 2 ^ 48 + h * 2 ^ 22)

theorem some_module : ∃ m : Fin 256, m ≠ Config.moduleNumber :=
  if h : Config.moduleNumber = 0 then ⟨1, by rw [h]; decide⟩ else ⟨0, fun e => h e.symm⟩
theorem send_routes : ∀ m : Fin 256, routeBad (sndA m.val false 0).route = false ∧ (sndA m.val false 0).route.1.toNat / 2 ^ 48 % 256 = m.val := by decide +kernel

/-- The same context with a packet to send to a module with which its plot is paired. -/
def stPair (m : Fin 256) (fly : Bool) (refused : Nat) : State := { stFab (chRecv 0) (chSend (sndA m.val fly refused)) with pairings := [⟨1, m, 0, 0⟩] }
theorem routed_A (m : Fin 256) : (stPair m false 0).routed (sndA m.val false 0).plot (sndA m.val false 0).route = true := by
  have e : routeModule (sndA m.val false 0).route = m.val := (send_routes m).2
  have a : (sndA m.val false 0).plot = 1 := rfl
  have b : (stPair m false 0).pairings = [⟨1, m, 0, 0⟩] := rfl
  rw [State.routed, e, a, b]
  simp
theorem witness_FabricEvents_sending (m : Fin 256) :
    (∃ h rest, ((stPair m false 0).ctx (0 : CtxId).val).chan[(7 : KReg)].send = h :: rest ∧ h.inFlight = false ∧ h.refused = 0 ∧
      h.notBefore ≤ (stPair m false 0).tick ∧ (stPair m false 0).sendBlocked (0 : CtxId).val 7 h = false ∧ routeBad h.route = false ∧
      (stPair m false 0).routed h.plot h.route = true) ∧
    (sndA m.val false 255).refused ≠ 0 ∧ (sndA Config.moduleNumber.val false 0).route.1.toNat / 2 ^ 48 % 256 = Config.moduleNumber.val ∧
    (∃ k : Fin 256, (sndA k.val false 0).route.1.toNat / 2 ^ 48 % 256 ≠ Config.moduleNumber.val ∧ (stPair k false 0).onFabric = true) ∧
    ({ stPair m false 0 with onFabric := false } : State).onFabric = false := by
  refine ⟨⟨sndA m.val false 0, [], rfl, rfl, rfl, Nat.zero_le _, by with_unfolding_all rfl, (send_routes m).1, routed_A m⟩, by simp [sndA], (send_routes _).2, ?_, rfl⟩
  obtain ⟨k, hk⟩ := some_module
  exact ⟨k, by rw [(send_routes k).2]; exact fun e => hk (Fin.ext e), rfl⟩

/-- The eight places of context 0's landing buffer taken. -/
def landFull : List Landed := [⟨0, 0, 1, 0, 6, 1, 0, 2⟩, ⟨0, 0, 1, 0, 6, 2, 1, 2⟩, ⟨0, 0, 1, 0, 6, 3, 2, 2⟩, ⟨0, 0, 1, 0, 6, 4, 3, 2⟩, ⟨0, 0, 1, 0, 6, 5, 4, 2⟩,
  ⟨0, 0, 1, 0, 6, 6, 5, 2⟩, ⟨0, 0, 1, 0, 6, 7, 6, 2⟩, ⟨0, 0, 1, 0, 6, 8, 7, 2⟩]

theorem witness_FabricEvents_arrivals :
    (let p := pktA .message (List.replicate 32 1); let s := stFab (chRecv 32) Channel.zero [p]
     p.kind = .message ∧ s.fabric = [] ++ [p] ++ [] ∧ s.refusedReplies = [] ∧ p.srcModule.val = Config.moduleNumber.val ∧ p.tgtModule.val = Config.moduleNumber.val ∧
       OwnNames s p ∧ s.fnHeld p.srcPlot = false ∧
       (s.ctx p.tgt.val).st ≠ .free ∧ (s.ctx p.tgt.val).st ≠ .draining ∧ (s.ctx p.tgt.val).st ≠ .loading ∧ (s.ctx p.tgt.val).plot = p.srcPlot ∧
       gangOf (s.ctx p.tgt.val).taskid = p.gang.toNat ∧ ((s.ctx p.tgt.val).chan[p.tgtChan]).route.isSome = true ∧
       (∀ l ∈ s.landed, ¬ (l.ctx = p.tgt.val ∧ l.plot = p.srcPlot ∧ l.gang = p.gang ∧ l.chan = p.tgtChan)) ∧
       ((s.ctx p.tgt.val).chan[p.tgtChan]).recv.length + p.words.length ≤ 64) ∧
    (let p := pktA .message [5]; let s : State := { stFab (chRecv 0) Channel.zero [p] with landed := landFull }
     OwnNames s p ∧ s.delivers p p.srcPlot = false ∧ ∀ i, i < 8 → ∃ l ∈ s.landed, l.ctx = p.tgt.val ∧ l.place = i) ∧
    (pktA .message [] 1).srcGen ≠ (stA.plot (pktA .message [] 1).srcPlot).gen ∧
    (let p := pktA .refused []; let s := stFab (chRecv 0) (chSend (sndA 0 true 0)) [p]
     s.fabric = [] ++ [p] ++ [] ∧ ((s.ctx p.src.val).chan[p.srcChan]).send = sndA 0 true 0 :: [] ∧ (sndA 0 true 0).inFlight = true) ∧
    (pktA .accepted []).kind = .accepted ∧
    (∃ pre l post, (({ stFab (chRecv 62) Channel.zero with landed := [⟨0, 0, 1, 0, 6, 1, 0, 2⟩] } : State).landedOf 0 (chFab (chRecv 62) Channel.zero)) = pre ++ [l] ++ post ∧
      pre = [] ∧ l.chan = 6 ∧ (chRecv 62).recv.length + l.words ≤ 64 ∧ 64 < (chRecv 63).recv.length + l.words) := by
  refine ⟨⟨rfl, rfl, rfl, rfl, rfl, ⟨rfl, rfl, rfl, rfl⟩, rfl, by decide, by decide, by decide, rfl, by decide, rfl, (fun _ h => nomatch h), by decide⟩,
    ⟨⟨rfl, rfl, rfl, rfl⟩, by decide, by decide⟩, by decide, ⟨rfl, rfl, rfl⟩, rfl, ⟨[], _, [], rfl, rfl, rfl, by decide, by decide⟩⟩

theorem witness_FabricEvents_operations :
    (let p := pktA .remote [opW 0 1, 0xFF0, 7, 8]; let s := stAg true p
     (s.die (0 : DieId).val).agent = p :: [] ∧ OwnNames s p ∧ p.words.head? = some (opW 0 1) ∧ p.words.getD 1 0 = BitVec.ofNat 64 0xFF0 ∧ 0xFF0 % 8 = 0 ∧
       remoteLen (opW 0 1) = some p.words.length ∧ (s.plot p.srcPlot).handles.find ((opW 0 1).toNat / 2 ^ 22 % 2 ^ 22) = some { hdl true true with addr := spadBase 0 } ∧
       (hdl true true).gen = (s.plot p.srcPlot).gen ∧ (hdl true true).host = false ∧ (hdl true true).write = true ∧ spadBase 0 ≤ spadBase 0 + 0xFF0 ∧
       8 * ((opW 0 1).toNat / 2 ^ 48 % 32 + 1) = 16 ∧ 0xFF0 + 16 ≤ (hdl true true).len ∧ (opW 0 1).toNat / 2 ^ 60 < 2 ∧ spadBase 0 + 0xFF0 < 2 ^ 40 ∧
       regionOf (spadBase 0 + 0xFF0) ≠ .none ∧ s.coreTiles ((spadBase 0 + 0xFF0 - spadBase 0) / 2 ^ 20) = [] ∧ Memory.wf s.mem ∧ p.words.length = 16 / 8 + 2) ∧
    (let p := pktA .remote [opW 2 1, 0xFFF0]; remoteLen (opW 2 1) = some p.words.length ∧ (opW 2 1).toNat / 2 ^ 60 = 2 ∧ 0x70000 + 0xFFF0 + 16 ≤ hbmTop ∧
       (hdl true true).read = true ∧ (stAg false p).ue = [] ∧ (stAg false p).engineAddr p.srcPlot (0x70000 + 0xFFF0) = some (0x70000 + 0xFFF0) ∧ (stAg false p).enc = [] ∧ 0xFFF0 + 16 ≤ (hdl true true).len) ∧
    (let p := pktA .remote [opW 1 2, 0, 7, 8]; let s := stAg false p
     (s.plot p.srcPlot).handles.find ((opW 1 2).toNat / 2 ^ 22 % 2 ^ 22) = some (hdl true false) ∧ (hdl true false).write = false ∧ NoLog s p.srcPlot ∧
       remoteLen (opW 1 2) = some p.words.length) ∧
    (let s := stFab Channel.zero Channel.zero [pktA .ack []]; s.fabric = [] ++ [pktA .ack []] ++ [] ∧ (pktA .ack []).num = 0 ∧ (pktA .ack []).src = (0 : CtxId)) ∧
    (let s := stFab Channel.zero Channel.zero [pktA (.failed 4 8) []]; s.fabric = [] ++ [pktA (.failed 4 8) []] ++ [] ∧ (pktA (.failed 4 8) []).num < 1 ∧ (s.ctx 0).firstSent ≤ (pktA (.failed 4 8) []).num ∧ (s.ctx (0 : CtxId).val).st = .running ∧
      (s.ctx 0).failure = none) ∧ (ctxR 0).st = .ready ∧ (∀ e ∈ stA.ctxs, e.2.loads = []) ∧ (stA.tick % 4 = 0 ∧ { stA with devns := 1 }.purseNs ≠ { stA with devns := 1 }.devns) := by
  refine ⟨⟨rfl, ⟨rfl, rfl, rfl, rfl⟩, rfl, rfl, by decide, by decide, by decide, rfl, rfl, rfl, Nat.le_add_right .., by decide, by decide, by decide, by decide,
      by decide, ?_, ?_, rfl⟩, ⟨by decide, by decide, by decide, rfl, rfl, by decide, rfl, by decide⟩, ⟨by decide, rfl, ⟨by decide, by decide⟩, by decide⟩,
    ⟨rfl, rfl, rfl⟩, ⟨rfl, by decide, by decide, rfl, rfl⟩, rfl, by decide, by decide⟩
  · exact (by decide : stA.coreTiles ((spadBase 0 + 0xFF0 - spadBase 0) / 2 ^ 20) = [])
  · exact (by decide : Memory.wf stA.mem)

/-- A state with the owner plot's tables, estate 1 with plots 1 to 8, estate 2, and a command on the owner's, the estate's or plot 1's page. -/
def bytesAt (a : Nat) (l : List Byte) : Memory := (l.zipIdx.map fun e => (a + e.2, e.1)).filter fun c => c.2 != 0
def memM : Memory :=
  bytesAt 0x10000 [0, 0, 0, 0, 0x31, 0x4D, 0x49, 0x4B, 0, 0, 0, 0, 2, 0, 0, 0] ++ bytesAt 0x10018 [64] ++ bytesAt 0x10040 [0xFE, 0xFF] ++
  bytesAt 0x11000 [0, 0, 0, 0, 0x31, 0x4D, 0x49, 0x4B, 0, 0, 0, 0, 2, 0, 0, 0] ++ bytesAt 0x11018 [64] ++ bytesAt 0x11040 [0, 0x10] ++
  bytesAt 0x12000 [0, 0, 1, 0, 0x31, 0x41, 0x52, 0x47] ++ bytesAt 0x12047 [2] ++ bytesAt 0x1204D [1, 0, 0x40] ++ bytesAt 0x12055 [1, 0, 0x40] ++ bytesAt 0x12058 [16] ++
  bytesAt 0x13000 [0, 0, 1, 0, 0x31, 0x41, 0x52, 0x47] ++ bytesAt 0x13044 [1, 0, 0, 1] ++ tabA
def stMg : State :=
  { stA with plots := [(0, { Plot.absent with live := true, root := some 0x80000, handles := [(1, hdl true true)], kernels := [(0, Kernel.empty)], graphs := [(1, graphA)],
                                               grants := [.core 7], policy := { Policy.atCreate with qcount := 1, written := 15, imgmax := 2 ^ 24 } }),
                       (1, { plotA with handles := [(0, hdl true true)] })]
             estates := [(1, { Estate.absent with live := true, firstVf := 1, vfs := 8, grants := [.core 1, .segment 13] }), (2, { Estate.absent with live := true, firstVf := 9, vfs := 1 })]
             dies := stA.dies.set 0 { Die.zero with view := memM }, groups := [], ctxs := [], cores := [] }
def cmdAt (p : Page) (op a0 a1 a2 a3 : Nat) : State :=
  { stMg.setPage p { MgmtPage.zero with mcmd := BitVec.ofNat 64 (op * 2 ^ 56), busy := true, rights := 31
                                        marg := #v[BitVec.ofNat 64 a0, BitVec.ofNat 64 a1, BitVec.ofNat 64 a2, BitVec.ofNat 64 a3] } with cmds := [p] }

theorem witness_ManagementCommands_asked :
    Asked (cmdAt .owner 0x01 (0x010A00 + 3) 0 0 0) .owner 0x01 0x010A03 0 0 0 ∧ Asked (cmdAt (.estate 1) 0x03 (0x50100 + 8) 0 0 0) (.estate 1) 0x03 0x50108 0 0 0 ∧
    Asked (cmdAt (.plot 1) 0x15 (2 ^ 64 - 1) 1 2 3) (.plot 1) 0x15 (2 ^ 64 - 1) 1 2 3 := by
  refine ⟨⟨rfl, rfl, by decide, by decide⟩, ⟨rfl, rfl, by decide, by decide⟩, rfl, rfl, by decide, by decide⟩

/-- ESTATE_CREATE of estate 3 at function 10; one number taken; the last function; one past it. ESTATE_DESTROY of estates 17, 3, 1 and 2. -/
theorem witness_ManagementCommands_estates :
    (let s := cmdAt .owner 0x01 0x010A03 0 0 0
     ¬ (3 = 0 ∨ 16 < 3 ∨ 1 = 0 ∨ 0x0A = 0 ∨ 256 < 0x0A + 1) ∧ ¬ ((s.estate 3).live = true ∨ ∃ i, i < 1 ∧ (s.holder (0x0A + i)).isSome = true)) ∧
    (¬ (16 = 0 ∨ 16 < 16 ∨ 1 = 0 ∨ 255 = 0 ∨ 256 < 255 + 1) ∧ 256 < 255 + 2 ∧ 16 < 17) ∧ (∃ i, i < 2 ∧ ((cmdAt .owner 0x01 0x020803 0 0 0).holder (8 + i)).isSome = true) ∧
    (let s := cmdAt .owner 0x02 1 0 0 0; (s.estate 3).live = false ∧ (s.estate 1).live = true ∧ (∃ e ∈ s.plots, e.2.live = true ∧ e.2.estate = 1) ∧
      (s.estate 2).live = true ∧ ∀ e ∈ s.plots, ¬ (e.2.live = true ∧ e.2.estate = 2)) := by
  refine ⟨⟨by decide, ?_⟩, by decide, ⟨0, by decide, by decide⟩, by decide, by decide, by decide, by decide, by decide⟩
  rintro (h | ⟨i, hi, h⟩)
  · exact absurd h (by decide)
  · interval_cases i; exact absurd h (by decide)

/-- PLOT_CREATE of 8, 9 and 1 by estate 1, and of one destroyed 2 ms ago; PLOT_DESTROY. -/
theorem witness_ManagementCommands_plots :
    (let s := cmdAt (.estate 1) 0x03 8 0 0 0; s.granted (.estate 1) 0 = true ∧ s.holder 8 = some (1 : Fin 17).val ∧ (s.plot 8).live = false ∧ (s.plot 8).destroyed = none ∧
      s.holder 9 ≠ some (1 : Fin 17).val ∧ (s.plot 1).live = true ∧ (1 : Nat) ≠ 0) ∧ 0 + 8000000 ≤ 8000000 ∧ 7999999 < 0 + 8000000 ∧
    (let s := cmdAt (.estate 1) 0x04 1 0 0 0; s.granted (.estate 1) 1 = true ∧ (s.plot 8).live = false ∧ (s.plot 1).live = true ∧ s.holdsPlot (.estate 1) 1 = true ∧
      (cmdAt (.estate 2) 0x04 1 0 0 0).holdsPlot (.estate 2) 1 = false) ∧ (stMg.plot 1).prot = false ∧ { stMg.plot 1 with prot := true }.prot = true := by
  refine ⟨by decide, by decide, by decide, by decide, by decide, rfl⟩

/-- POLICY: a plot's own field within and beyond its limit, the owner's on the owner plot, a read from above and from below. -/
theorem witness_ManagementCommands_policy :
    (let s := cmdAt (.plot 1) 0x05 1 1 47 0; fieldHolder (1 % 128) = some 0 ∧ s.granted (.plot 1) 2 = true ∧ (s.plot 1).live = true ∧ s.holdsPlot (.plot 1) 1 = true ∧
      pageRank (.plot 1) = 0 ∧ ((s.plot 1).policy.put (fun _ => false) (s.pinnedRange 1) 1 47).isSome = true ∧ (s.plot 1).policy.put (fun _ => false) (s.pinnedRange 1) 1 48 = none) ∧
    (fieldHolder (0x8E % 128) = some 2 ∧ 128 ≤ 0x8E ∧ 0x8E < 256 ∧ pageRank (.estate 1) < 2 ∧ 2 ≤ pageRank .owner ∧ (0x0C ≠ 0x0C ∨ 65535 < 65536)) := by
  refine ⟨by decide, by decide, by decide, by decide, by decide, by decide⟩

/-- GRANT of core 2 to estate 1, of core 1 again, of the owner plot's core 7; of segment 13 by the estate to plot 1; UNGRANT of core 1 and of core 2;
ROOT; INVAL; HANDLE and UNHANDLE; RIGHTS; PREEMPT. -/
theorem witness_ManagementCommands_resources :
    (let s := cmdAt .owner 0x06 1 2 0 0; (s.estate 1).live = true ∧ (∀ e ∈ s.estates, e.2.live = true → Resource.core 2 ∉ e.2.grants) ∧ Resource.core 2 ∉ (s.plot 0).grants ∧
      (∀ q ∈ s.quarantine, q.res ≠ .core 2) ∧ Resource.core 7 ∈ (s.plot 0).grants ∧ (s.estate 3).live = false ∧ Resource.core 2 ∉ (s.estate 1).grants ∧
      Resource.core 1 ∈ (s.estate 1).grants ∧ (∀ e ∈ s.plots, e.2.live = true → e.2.estate = 1 → Resource.core 1 ∉ e.2.grants)) ∧
    (let s := cmdAt (.estate 1) 0x06 0x101 13 0 0; s.granted (.estate 1) 3 = true ∧ s.holdsPlot (.estate 1) (0x101 % 256) = true ∧ 0x101 / 256 % 16 = 1 ∧ 13 < 7680 ∧
      Resource.segment 13 ∈ (s.estate (1 : Fin 17).val).grants ∧ (∀ q ∈ s.quarantine, q.res ≠ .segment 13) ∧
      ∀ x ∈ s.plots, x.2.live = true → x.2.estate = (1 : Fin 17).val → Resource.segment 13 ∉ x.2.grants) ∧
    (0xFFFFFFFFF800 % 2048 = 0 ∧ 0xFFFFFFFFF800 < 2 ^ 48 ∧ hbmTop - 4096 + 4096 ≤ hbmTop ∧ (hbmTop - 4096) % 4096 = 0 ∧ 1 % 2048 ≠ 0) ∧
    (let s := cmdAt .owner 0x0A 1 0x7F000 0x1000 3; (s.plot 1).live = true ∧ (s.plot 8).live = false ∧ 0x7F000 + 0x1000 ≤ hbmTop ∧ (s.plot 1).handles.length < 2 ^ 22 - 1 ∧
      (s.plot 1).handles.find 1 = none ∧ (s.plot 1).handles.find 0 ≠ none) ∧
    (let s := cmdAt .owner 0x0D 1 0 0 0; (∀ e ∈ s.groups, e.2.plot.val ≠ 1) ∧ (∀ e ∈ s.restore, ∀ x ∈ e.2, x.plot.val ≠ 1) ∧ (∀ e ∈ s.runq, e.1 % 256 = 1 → e.2 = []) ∧
      (∃ e ∈ ({ s with runq := [(runKey 0 1, [recW 0 0 0 0])] } : State).runq, e.1 % 256 = 1 ∧ e.2 ≠ []) ∧ s.holdsPlot .owner 1 = true ∧ (s.estate 16).live = false) := by
  refine ⟨by decide, by decide, by decide, by decide, by decide⟩

theorem witness_ManagementCommands_pair :
    (cmdAt .owner 0x0E 1 0 2 0).pairings = [] ∧ ((∀ h ∈ (cmdAt .owner 0x0E 1 0 2 0).pairings, ¬ (h.plot.val = 1 ∧ h.module.val = 0)) ∧
    (cmdAt .owner 0x0E 1 0 2 0).pairings.length < 1024) ∧ (∃ m : Fin 256, m.val ≠ Config.moduleNumber.val) ∧
    ∃ h ∈ { stMg with pairings := [⟨1, 0, 0, 0⟩] }.pairings, h.plot.val = 1 ∧ h.module.val = 0 := by
  refine ⟨rfl, ⟨(fun _ h => nomatch h), by decide⟩, ?_, _, List.mem_cons_self .., rfl, rfl⟩
  obtain ⟨m, hm⟩ := some_module
  exact ⟨m, fun e => hm (Fin.ext e)⟩

/-- QCREATE, ATTEST, TIMESET on the owner plot's page; KREG of an idle run and of an illegal word, into a named slot and into any; KUNREG; GREG of a
copy from a handle to itself and of a kernel node without its kernel; GUNREG. -/
theorem witness_ManagementCommands_plotCommands :
    (let s := cmdAt .owner 0x0F 47 7 0x3FFFFF 64; PageOf .owner 0 ∧ (s.plot (0 : PlotNo)).live = true ∧ 47 ≤ (s.plot 0).policy.bandhi ∧ (s.plot 0).policy.bandlo ≤ 47 ∧
      (s.plot 0).queues.length < (s.plot 0).policy.qcount ∧ (s.plot 1).policy.qcount ≤ (s.plot 1).queues.length ∧ PageOf (.plot 1) 1) ∧
    (let s := cmdAt .owner 0x10 0 0x20000 0 0; ((∃ nonce, s.levelRead .owner 0 64 = some nonce ∧ (nonce.length == 64) = true)) ∧
      s.levelRead (.plot 1) 0 64 = none) ∧
    (let s := cmdAt .owner 0x12 0x10000 4095 0 0; (s.plot (0 : PlotNo)).kernels.find 4095 = none ∧ (s.plot (0 : PlotNo)).kernels.find 0 ≠ none ∧
      (∃ img, s.readKernel 0 0x10000 = some img ∧ (checkKernel img true (2 ^ 24)).toBool = true) ∧
      (∃ img, s.readKernel 0 0x11000 = some img ∧ (!(checkKernel img true (2 ^ 24)).toBool) = true) ∧ s.readKernel (1 : PlotNo) 0x10000 = none ∧
      (s.plot (0 : PlotNo)).kernels.length < 4096 ∧ s.kslotUsed 0 0 = true ∧ s.kslotUsed 1 0 = false) ∧
    (let s := cmdAt .owner 0x14 0x12000 0 0 0; (∃ g, s.readGraph 0 0x12000 = some g ∧ (s.graphErr 0 g).isNone = true) ∧ (∃ g, s.readGraph 0 0x13000 = some g ∧ (s.graphErr 0 g).isSome = true) ∧
      s.readGraph (1 : PlotNo) 0x12000 = none ∧ (s.plot (0 : PlotNo)).graphs.find 1 ≠ none ∧ (∀ e ∈ s.launches, ¬ (e.2.plot = 0 ∧ e.2.graph = 1)) ∧
      (s.plot (0 : PlotNo)).graphs.find 2 = none ∧ ∃ e ∈ (stOz []).launches, e.2.plot = 0 ∧ e.2.graph = 1) := by
  refine ⟨⟨.inr ⟨rfl, rfl⟩, by decide, by decide, by decide, by decide, by decide, .inl rfl⟩, ⟨some_of_any (by decide +kernel), by decide +kernel⟩,
    ⟨by decide, by decide, some_of_any (by decide +kernel), some_of_any (by decide +kernel), by decide, by decide, by decide, by decide⟩,
    some_of_any (by decide +kernel), some_of_any (by decide +kernel), by decide, by decide, by decide, by decide, ?_⟩
  exact ⟨_, List.mem_cons_self .., rfl, rfl⟩

/-! ### Registers and starts -/

/-- A function's table with vector 0 unmasked and vectors 31 and 1 pending. -/
def stMx : State := { stMg with plots := [(1, { plotA with msix := ⟨[(0, 0x1000, 7)], 0x80000002, 0⟩ })], vfEnable := true }
def jobA (start len pos : Nat) : GleanJob := ⟨start, len, pos, none⟩
def stJ (j : GleanJob) : State := { stA with jobs := [j], ownerMsix := { stA.ownerMsix with table := [(1, 0, 0)] } }

theorem witness_RegisterEvents :
    ({ stA with ownerPage := { MgmtPage.zero with busy := true } }.ownerPage.busy = true ∧ stA.ownerPage.busy = false) ∧
    ((3 : W64).toNat % 4 = 3 ∧ (1 : W64).toNat % 4 = 1 ∧ (2 : W64).toNat % 4 = 2 ∧ (255 : PlotNo) ≠ 0 ∧ 0x204 % 8 ≠ 0 ∧ 0x202 % 4 ≠ 0) ∧
    (2 ^ 36 - 4 < 2 ^ 36 ∧ (2 ^ 36 - 4) % 4 = 0 ∧ hbmTop < 15 * 2 ^ 36 + (2 ^ 36 - 4) + 4 ∧ (0 : BitVec 4).toNat * 2 ^ 36 + (2 ^ 36 - 4) + 4 ≤ hbmTop ∧ stA.enc = [] ∧
      Memory.wf stA.mem ∧ hbmTop = hbmTop / 2 ^ 36 * 2 ^ 36 + hbmTop % 2 ^ 36) ∧
    (31 < (if (1 : PlotNo) = 0 then 9 else 32) ∧ stMx.vfEnable = true ∧ (stMx.msix (1 : PlotNo)).pending.getLsbD 31 = true ∧ (stMx.msix (1 : PlotNo)).pending.getLsbD 30 = false ∧
      8 < (if (0 : PlotNo) = 0 then 9 else 32)) ∧
    ((∀ e ∈ stMx.groups, e.2.plot = 0) ∧ (∀ e ∈ stMx.restore, ∀ x ∈ e.2, x.plot = 0) ∧ (∀ e ∈ stMx.runq, e.1 % 256 ≠ 0 → e.2 = []) ∧
      (stA.plots.map Prod.fst).Nodup ∧ (groupA.members.filter fun x => decide (x < 5120)).Nodup ∧ (∀ x ∈ groupA.members, (stA.ctx x).shadowErr = false ∧
        (stA.ctx x).ver = none ∧ (stA.ctx x).handed = false ∧ (stA.ctx x).st ≠ .free ∧ (stA.ctx x).st ≠ .draining) ∧
      (∀ e ∈ stA.ctxs, e.2.shadowErr = false) ∧ (∀ e ∈ stMx.restore, ∀ x ∈ e.2, x.plot ≠ 1) ∧ (∀ e ∈ stMx.runq, e.1 % 256 = 1 → e.2 = []) ∧ stA.groups = [(1, groupA)] ∧ groupA.plot ≠ 0 ∧ (stA.plot groupA.plot).live = true ∧ stA.liveMembers 1 groupA ≠ [] ∧ groupA.stop = none ∧
      stA.vfEnable = false ∧ { stA with vfEnable := true }.vfEnable = true ∧ (∃ q, (stK (quA false [] 4 5)).queue 1 3 = some q) ∧ ∀ e ∈ stMx.groups, e.2.plot ≠ 1) := by
  and_intros
  all_goals first | decide | rfl | exact ⟨_, rfl⟩

theorem views_zero (s : State) (h : s.dies = stA.dies) (d : Nat) : (s.die d) = Die.zero := by
  rcases Nat.lt_or_ge d 4 with h4 | h4
  · interval_cases d <;> (rw [State.die, h]; rfl)
  · rw [State.die, h]; simp [stA, State.reset, Vector.getD, Nat.not_lt.2 h4]

theorem witness_StartAndBackgroundEvents :
    (let j := jobA 0x10000 0x20000 0x10000; (stJ j).jobs = j :: [] ∧ j.pos + min 65536 (j.start + j.len - j.pos) < j.start + j.len) ∧
    (let j := jobA 0x10000 0x18000 0x20000; j.start + j.len ≤ j.pos + min 65536 (j.start + j.len - j.pos) ∧ j.cpl = none ∧ (stJ j).ownerMsix.masked 1 = false) ∧ stA.jobs = [] ∧
    ({ stA with wfail := 3 }.wfail = 3 ∧ stA.wfail ≠ 3 ∧ stA.restore = [] ∧ (∀ e ∈ stA.groups, e.2.stop = none) ∧
      (∀ e ∈ stA.ctxs, e.2.copying = none) ∧ stA.unsettled = [] ∧ stA.keys = [] ∧ ∀ d, (stA.die d).out = []) := by
  refine ⟨⟨rfl, by decide⟩, ⟨by decide, rfl, by decide⟩, rfl, rfl, by decide, rfl, by decide, by decide, rfl, rfl, fun d => ?_⟩
  rw [views_zero stA rfl d]; rfl

/-! ### One instruction, one step; each result worked out from the rule named -/

/-- R93: the sum is modulo 2^64; -3 and 5. -/
theorem test_add_wraps : (flown (exec (.add gd1 (.g 9) (.g 4) (.g 1)) stA)).head? = some (.g 9 4) := by decide
theorem test_sub : (flown (exec (.sub gd1 (.g 9) (.g 1) (.g 2)) stA)).head? = some (.g 9 8) := by decide
/-- R93: clamped below at -2^63; an unsigned difference stops at 0. -/
theorem test_adds_clamps : (flown (exec (.adds gd1 (.g 9) (.g 5) (.g 2)) stA)).head? = some (.g 9 0x8000000000000000) := by decide
theorem test_subus_floor : (flown (exec (.subus gd1 (.g 9) (.g 1) (.g 4)) stA)).head? = some (.g 9 0) := by decide
/-- R93: the high half of (-1)·5 = -5 is -1, and of (2^64 - 1)·5 = 5·2^64 - 5 is 4. -/
theorem test_mulh : (flown (exec (.mulh gd1 (.g 9) (.g 4) (.g 1)) stA)).head? = some (.g 9 0xFFFFFFFFFFFFFFFF) := by decide
theorem test_mulhu : (flown (exec (.mulhu gd1 (.g 9) (.g 4) (.g 1)) stA)).head? = some (.g 9 4) := by decide
/-- R93, R94: the quotient goes toward zero, the remainder takes the dividend's sign, and the corners are those of the table. -/
theorem test_div_toward_zero : (flown (exec (.div gd1 (.g 9) (.g 2) (.g 1)) stA)).head? = some (.g 9 0) := by decide
theorem test_rem_sign : (flown (exec (.rem gd1 (.g 9) (.g 2) (.g 1)) stA)).head? = some (.g 9 0xFFFFFFFFFFFFFFFD) := by decide
theorem test_divu_by_zero : (flown (exec (.divu gd1 (.g 9) (.g 1) (.g 0)) stA)).head? = some (.g 9 0xFFFFFFFFFFFFFFFF) := by decide
theorem test_rem_by_zero : (flown (exec (.rem gd1 (.g 9) (.g 1) (.g 0)) stA)).head? = some (.g 9 5) := by decide
theorem test_div_overflow : (flown (exec (.div gd1 (.g 9) (.g 5) (.g 4)) stA)).head? = some (.g 9 0x8000000000000000) := by decide
/-- R93: the count is y mod 64, here 5 and 61. -/
theorem test_shl : (flown (exec (.shl gd1 (.g 9) (.g 1) (.g 1)) stA)).head? = some (.g 9 160) := by decide
theorem test_shl_mod : (flown (exec (.shl gd1 (.g 9) (.g 1) (.g 2)) stA)).head? = some (.g 9 0xA000000000000000) := by decide
theorem test_clz_zero : (flown (exec (.clz gd1 (.g 9) (.g 0)) stA)).head? = some (.g 9 64) := by decide
/-- R93: bits 2 to 0 of 5 are 101, which is -3. -/
theorem test_sext : (flown (exec (.sext gd1 (.g 9) (.g 1) 2) stA)).head? = some (.g 9 0xFFFFFFFFFFFFFFFD) := by decide
/-- R93, R24: a compare writes one bit. -/
theorem test_cmplt : (flown (exec (.cmplt gd1 9 7 (.g 2) (.g 1)) stA)).head? = some (.gbit 9 7 true) := by decide
theorem test_cmpltu : (flown (exec (.cmpltu gd1 9 7 (.g 2) (.g 1)) stA)).head? = some (.gbit 9 7 false) := by decide
/-- R101: 1.0 + 1.0 is 2.0. -/
theorem test_fadd : (flown (exec (.fadd gd1 (.g 9) (.g 3) (.g 3) .rne) stA)).head? = some (.g 9 0x40000000) := by decide
/-- R30: a guard that fails leaves the machine as it is, but for nothing in flight. -/
theorem test_guard_off : flown (exec (.add ⟨1, 0, false⟩ (.g 9) (.g 4) (.g 1)) stA) = [] := by decide

end Sys2Proof.Tests
end

section
namespace Sys2Proof.Machine

/-! ### Numbers and words: the model's bit helpers on values of a fixed width (R130, R131) -/

theorem ofNat_wrap (n : Nat) (z : Int) : BitVec.ofNat n (wrap n z) = BitVec.ofInt n z := by
  have hz : 0 ≤ z % (2 ^ n : Nat) := Int.emod_nonneg _ (by positivity)
  apply BitVec.eq_of_toNat_eq
  rw [BitVec.toNat_ofNat, BitVec.toNat_ofInt, wrap, Nat.mod_eq_of_lt]
  have := Int.emod_lt_of_pos z (b := (2 ^ n : Nat)) (by positivity)
  omega

theorem toS_toNat {n : Nat} (hn : 0 < n) (v : BitVec n) : toS n v.toNat = v.toInt := by
  obtain ⟨k, rfl⟩ := Nat.exists_eq_succ_of_ne_zero hn.ne'
  have hv := v.isLt
  rw [toS, Nat.mod_eq_of_lt hv, BitVec.toInt_eq_toNat_cond, Nat.succ_sub_one]
  have hp : 2 ^ (k + 1) = 2 * 2 ^ k := Nat.pow_succ'
  split_ifs <;> omega

theorem toS_mod (n v : Nat) : toS n (v % 2 ^ n) = toS n v := by simp [toS]

theorem clampInt_eq_max_min {x lo hi : Int} (h : lo ≤ hi) : clampInt x lo hi = max lo (min hi x) := by
  unfold clampInt
  split_ifs <;> omega

/-! ### Counts of bits -/

theorem mod_two_pow_succ_eq (v k : Nat) : v % 2 ^ (k + 1) = v % 2 ^ k + 2 ^ k * (v.testBit k).toNat := by
  rw [Nat.mod_pow_succ, Nat.toNat_testBit]

theorem clz_succ_of_set {v k : Nat} (h : v.testBit k = true) : clz (k + 1) v = 0 := by
  have hm : v % 2 ^ (k + 1) = v % 2 ^ k + 2 ^ k := by simp [mod_two_pow_succ_eq, h]
  have hpos : 0 < 2 ^ k := Nat.two_pow_pos k
  have hlt : v % 2 ^ (k + 1) < 2 ^ (k + 1) := Nat.mod_lt _ (Nat.two_pow_pos _)
  have hlog : (v % 2 ^ (k + 1)).log2 = k := (Nat.log2_eq_iff (by omega)).2 ⟨by omega, hlt⟩
  rw [clz, if_neg (by omega), hlog]
  omega

theorem clz_succ_of_clear {v k : Nat} (h : v.testBit k = false) : clz (k + 1) v = 1 + clz k v := by
  have hm : v % 2 ^ (k + 1) = v % 2 ^ k := by simp [mod_two_pow_succ_eq, h]
  rw [clz, clz, hm]
  split_ifs with h0
  · exact Nat.add_comm k 1
  · have hlog : (v % 2 ^ k).log2 < k := (Nat.log2_lt h0).2 (Nat.mod_lt _ (Nat.two_pow_pos k))
    omega

theorem popc_eq_length_filter (k v : Nat) : popc k v = ((List.range k).filter fun i => v.testBit i).length := by
  induction k generalizing v with
  | zero => rfl
  | succ k ih =>
    rw [popc, ih, List.range_succ_eq_map, List.filter_cons, List.filter_map, Nat.testBit_zero]
    simp only [Function.comp_def, Nat.testBit_succ]
    rcases Nat.mod_two_eq_zero_or_one v with h | h <;> simp [h, Nat.add_comm]

/-! ### Reversed bits (R108) -/

theorem revBits_lt (k v : Nat) : revBits k v < 2 ^ k := by
  induction k generalizing v with
  | zero => simp [revBits]
  | succ k ih =>
    have := ih (v / 2)
    have hb : v % 2 * 2 ^ k ≤ 1 * 2 ^ k := Nat.mul_le_mul_right _ (by omega)
    rw [revBits, Nat.pow_succ]
    omega

end Sys2Proof.Machine

namespace Sys2Proof.Stated
open Sys2Proof.Machine

theorem mirrored_eq_revBits (k v : Nat) : mirrored k v = revBits k v := by
  induction k generalizing v with
  | zero => rfl
  | succ k ih =>
    rw [revBits, ← ih, mirrored, mirrored, List.range_succ_eq_map]
    simp only [List.map_cons, List.map_map, List.sum_cons, Function.comp_def, Nat.testBit_zero, Nat.testBit_succ]
    rcases Nat.mod_two_eq_zero_or_one v with h | h <;> simp [h, Nat.sub_sub, Nat.add_comm 1]

/-- The zeros counted bit by bit from the top are the model's leading zeros. -/
theorem zerosAbove_eq_clz (x : W64) (k : Nat) : zerosAbove x k = clz k x.toNat := by
  induction k with
  | zero => simp [zerosAbove, clz, Nat.mod_one]
  | succ k ih =>
    rw [zerosAbove, ih]
    cases h : x.getLsbD k
    · exact (clz_succ_of_clear h).symm
    · exact (clz_succ_of_set h).symm

theorem zerosBelow_eq_ctz (x : W64) (i k : Nat) : zerosBelow x i k = ctz k (x.toNat / 2 ^ i) := by
  induction k generalizing i with
  | zero => rfl
  | succ k ih =>
    have hb : x.getLsbD i = decide (x.toNat / 2 ^ i % 2 = 1) := Nat.testBit_eq_decide_div_mod_eq
    rw [zerosBelow, ctz, ih, hb, Nat.div_div_eq_div_mul, ← Nat.pow_succ]
    simp only [decide_eq_true_eq]

end Sys2Proof.Stated

namespace Sys2Proof.Machine
open Sys2Proof.Stated

/-! ### The results of R93 and R94 as the rules word them -/

theorem clamp64_eq_clamp63 (x : Int) : clamp64 x = clamp63 x :=
  congrArg (BitVec.ofInt 64) (clampInt_eq_max_min (by decide))

theorem aluAdds_eq : aluAdds = fun x y => clamp63 (x.toInt + y.toInt) := by
  funext x y
  exact clamp64_eq_clamp63 _

theorem aluSubs_eq : aluSubs = fun x y => clamp63 (x.toInt - y.toInt) := by
  funext x y
  exact clamp64_eq_clamp63 _

theorem aluAddus_eq : aluAddus = fun x y => if 2 ^ 64 ≤ x.toNat + y.toNat then BitVec.allOnes 64 else x + y := by
  funext x y
  unfold aluAddus
  split_ifs with h
  · rw [Nat.min_eq_right (by omega)]
    rfl
  · rw [Nat.min_eq_left (by omega), BitVec.ofNat_add, BitVec.ofNat_toNat, BitVec.ofNat_toNat, BitVec.setWidth_eq, BitVec.setWidth_eq]

theorem aluSubus_eq : aluSubus = fun x y => if x.toNat < y.toNat then 0 else x - y := by
  funext x y
  unfold aluSubus
  split_ifs with h
  · rw [Nat.sub_eq_zero_of_le h.le]
    rfl
  · bv_omega

theorem aluMulh_eq : aluMulh = fun x y => BitVec.ofInt 64 (Int.fdiv (x.toInt * y.toInt) (2 ^ 64)) := by
  funext x y
  rw [aluMulh, Int.fdiv_eq_ediv_of_nonneg _ (by norm_num)]

theorem aluDivu_eq : aluDivu = fun x y => if y = 0 then BitVec.allOnes 64 else x / y := by
  funext x y
  rw [aluDivu, BitVec.udiv_def]

theorem aluRem_eq : aluRem = fun x y => if y = 0 then x else BitVec.ofInt 64 (x.toInt - y.toInt * Int.tdiv x.toInt y.toInt) := by
  funext x y
  rw [aluRem, Int.tmod_def]

theorem aluRemu_eq : aluRemu = fun x y => if y = 0 then x else x % y := by
  funext x y
  rw [aluRemu, BitVec.umod_def]

/-- The bits that a rotation moves past the top are those it brings in below (R93). -/
theorem rotl_eq_or {v c : Nat} (hv : v < 2 ^ 64) (hc : c < 64) : rotl 64 v c = v <<< c % 2 ^ 64 ||| v >>> (64 - c) := by
  have hsplit : 2 ^ 64 = 2 ^ (64 - c) * 2 ^ c := by rw [← Nat.pow_add, Nat.sub_add_cancel hc.le]
  have hin : v / 2 ^ (64 - c) < 2 ^ c := Nat.div_lt_of_lt_mul (hsplit ▸ hv)
  have hkeep : v * 2 ^ c % 2 ^ 64 = v % 2 ^ (64 - c) * 2 ^ c := by rw [hsplit, Nat.mul_mod_mul_right]
  have hfit : v % 2 ^ (64 - c) * 2 ^ c + v / 2 ^ (64 - c) < 2 ^ 64 := by
    have hle := Nat.mul_le_mul_right (2 ^ c) (Nat.mod_lt v (Nat.two_pow_pos (64 - c)))
    rw [Nat.succ_mul] at hle
    omega
  rw [rotl, Nat.mod_eq_of_lt hc, Nat.shiftLeft_eq, Nat.shiftRight_eq_div_pow, ← Nat.mod_add_mod, hkeep, Nat.mod_eq_of_lt hfit,
    ← Nat.shiftLeft_eq, Nat.shiftLeft_add_eq_or_of_lt hin]

theorem rotl_eq_rotateLeft (x : W64) {c : Nat} (hc : c < 64) : BitVec.ofNat 64 (rotl 64 x.toNat c) = x.rotateLeft c := by
  rw [rotl_eq_or x.isLt hc]
  apply BitVec.eq_of_toNat_eq
  rw [BitVec.toNat_rotateLeft, Nat.mod_eq_of_lt hc, ← rotl_eq_or x.isLt hc, BitVec.toNat_ofNat, rotl, Nat.mod_mod]

theorem aluRol_eq : aluRol = fun x y => x.rotateLeft (y.toNat % 64) := by
  funext x y
  exact rotl_eq_rotateLeft x (Nat.mod_lt _ (by decide))

theorem aluBext_eq (f : BitNo) : aluBext f = fun x y : W64 =>
    (x >>> f.val) &&& BitVec.ofNat 64 (2 ^ min (y.toNat % 64 + 1) (64 - f.val) - 1) := by
  funext x y
  have hw : 2 ^ fieldWidth f y ≤ 2 ^ 64 := Nat.pow_le_pow_right (by decide) ((Nat.min_le_right _ _).trans (Nat.sub_le _ _))
  have hm : (BitVec.ofNat 64 (2 ^ fieldWidth f y - 1)).toNat = 2 ^ fieldWidth f y - 1 := Nat.mod_eq_of_lt (by omega)
  have hx : (x >>> f.val).toNat = x.toNat / 2 ^ f.val := by rw [BitVec.toNat_ushiftRight, Nat.shiftRight_eq_div_pow]
  apply BitVec.eq_of_toNat_eq
  rw [BitVec.toNat_and, ← fieldWidth, hm, hx, Nat.and_two_pow_sub_one_eq_mod, aluBext, bits, BitVec.toNat_ofNat, Nat.mod_eq_of_lt]
  exact (Nat.mod_lt _ (Nat.two_pow_pos _)).trans_le hw

theorem aluSext_eq (f : BitNo) : aluSext f = fun x => (x.setWidth (f.val + 1)).signExtend 64 := by
  funext x
  rw [aluSext, sext, ofNat_wrap, ← toS_mod, ← BitVec.toNat_setWidth, toS_toNat (Nat.succ_pos _)]
  rfl

theorem aluZext_eq (f : BitNo) : aluZext f = fun x => (x.setWidth (f.val + 1)).setWidth 64 := by
  funext x
  rw [aluZext, ← BitVec.toNat_setWidth, BitVec.ofNat_toNat]

theorem clz_result_eq : (fun x : W64 => BitVec.ofNat 64 (clz 64 x.toNat)) = fun x => BitVec.ofNat 64 (zerosAbove x 64) := by
  funext x
  rw [zerosAbove_eq_clz]

theorem ctz_result_eq : (fun x : W64 => BitVec.ofNat 64 (ctz 64 x.toNat)) = fun x => BitVec.ofNat 64 (zerosBelow x 0 64) := by
  funext x
  rw [zerosBelow_eq_ctz, Nat.pow_zero, Nat.div_one]

theorem popc_result_eq : (fun x : W64 => BitVec.ofNat 64 (popc 64 x.toNat)) =
    fun x => BitVec.ofNat 64 ((List.range 64).filter fun i => x.getLsbD i).length := by
  funext x
  rw [popc_eq_length_filter]
  rfl

end Sys2Proof.Machine
end

section
namespace Sys2Proof.Stated
open Sys2Proof.Machine

/-! ### A slot of each shape runs to its result (R92) -/

theorem guarded_of_guardOn {s : State} {g : Guard} (h : GuardOn s g) (act : Except Halt Context) : guarded s s.cur g act = act := by
  obtain ⟨v, hv, hb⟩ := h
  exact guarded_on hv hb

theorem runSlot_scalar2 {s : State} {g : Guard} {d : Dst} {a b : Src} {lat : Nat} {f : W64 → W64 → W64} {c1 c2 c3 : Context} {x y : W64}
    (hg : GuardOn s g) (ha : readSrc s s.cur a = .ok (c1, x)) (hb : readSrc s c1 b = .ok (c2, y))
    (hd : writeDst s c2 d lat (f x y) = .ok c3) : runSlot (scalar2 g d a b lat f) s = .next (s.setCtx s.iss.ctx c3) := by
  apply runSlot_ok
  rw [scalar2, guarded_of_guardOn hg, ha]
  simp only [bind, Except.bind, hb, hd]

theorem runSlot_scalar1 {s : State} {g : Guard} {d : Dst} {a : Src} {lat : Nat} {f : W64 → W64} {c1 c2 : Context} {x : W64}
    (hg : GuardOn s g) (ha : readSrc s s.cur a = .ok (c1, x)) (hd : writeDst s c1 d lat (f x) = .ok c2) :
    runSlot (scalar1 g d a lat f) s = .next (s.setCtx s.iss.ctx c2) := by
  apply runSlot_ok
  rw [scalar1, guarded_of_guardOn hg, ha]
  exact hd

theorem runSlot_scalar2_congr {g : Guard} {d : Dst} {a b : Src} {lat : Nat} {f f' : W64 → W64 → W64} (h : f = f') (s : State) :
    runSlot (scalar2 g d a b lat f) s = runSlot (scalar2 g d a b lat f') s := by rw [h]

theorem runSlot_scalar1_congr {g : Guard} {d : Dst} {a : Src} {lat : Nat} {f f' : W64 → W64} (h : f = f') (s : State) :
    runSlot (scalar1 g d a lat f) s = runSlot (scalar1 g d a lat f') s := by rw [h]

/-- Each instruction of R93's table with two sources is the shared shape with the table's result; the cases stand in the order of
`scalarTwo`. -/
theorem exec_of_scalarTwo {i : Instr} {g : Guard} {d : Dst} {a b : Src} {lat : Nat} {f : W64 → W64 → W64}
    (h : scalarTwo i = some (g, d, a, b, lat, f)) (s : State) : exec i s = runSlot (scalar2 g d a b lat f) s := by
  unfold scalarTwo at h
  split at h <;> cases h
  · rfl
  · rfl
  · exact runSlot_scalar2_congr aluAdds_eq s
  · exact runSlot_scalar2_congr aluSubs_eq s
  · exact runSlot_scalar2_congr aluAddus_eq s
  · exact runSlot_scalar2_congr aluSubus_eq s
  · rfl
  · exact runSlot_scalar2_congr aluMulh_eq s
  · rfl
  · rfl
  · exact runSlot_scalar2_congr aluDivu_eq s
  · exact runSlot_scalar2_congr aluRem_eq s
  · exact runSlot_scalar2_congr aluRemu_eq s
  · rfl
  · rfl
  · rfl
  · rfl
  · rfl
  · rfl
  · rfl
  · rfl
  · exact runSlot_scalar2_congr aluRol_eq s
  · exact runSlot_scalar2_congr (aluBext_eq _) s
  · rfl
  · rfl
  · rfl
  · rfl

/-- Each instruction with one source is the shared shape with the table's result; the cases stand in the order of `scalarOne`. -/
theorem exec_of_scalarOne {i : Instr} {g : Guard} {d : Dst} {a : Src} {lat : Nat} {f : W64 → W64}
    (h : scalarOne i = some (g, d, a, lat, f)) (s : State) : exec i s = runSlot (scalar1 g d a lat f) s := by
  unfold scalarOne at h
  split at h <;> cases h
  · exact runSlot_scalar1_congr clz_result_eq s
  · exact runSlot_scalar1_congr ctz_result_eq s
  · exact runSlot_scalar1_congr popc_result_eq s
  · exact runSlot_scalar1_congr (aluSext_eq _) s
  · exact runSlot_scalar1_congr (aluZext_eq _) s
  · rfl

theorem exec_movi {s : State} {g : Guard} {d : Dst} {imm : Imm21} {c : Context} (hg : GuardOn s g)
    (hd : writeDst s s.cur d 1 (imm.signExtend 64) = .ok c) : exec (.movi g d imm) s = .next (s.setCtx s.iss.ctx c) := by
  have hslot : slotMovi g d imm s s.cur = .ok c := by rw [slotMovi, guarded_of_guardOn hg, hd]
  exact runSlot_ok hslot

end Sys2Proof.Stated

open Sys2Proof Sys2Proof.Machine Sys2Proof.Stated

/-- Settles O1: each instruction runs its shape with the result of R93 and R94, and the shape writes that result to its destination. -/
theorem scalarIntegerResults : Obligations.ScalarIntegerResults := by
  refine ⟨?_, ?_, ?_⟩
  · intro i g d a b lat f hi s c1 c2 c3 x y hg ha hb hd
    rw [exec_of_scalarTwo hi]
    exact runSlot_scalar2 hg ha hb hd
  · intro i g d a lat f hi s c1 c2 x hg ha hd
    rw [exec_of_scalarOne hi]
    exact runSlot_scalar1 hg ha hd
  · intro s g d imm c hg hd
    exact exec_movi hg hd

end

section
namespace Sys2Proof.Machine
open Sys2Proof.Stated

/-! ### The access address and the update of each operand form (R91) -/

section
variable {s : State} {c : Context} {a : AReg} {x : W32}

theorem addrOf_off (ha : readA s c a = .ok x) (n : BitVec 8) : addrOf s c a (.off n) = .ok (x + n.signExtend 32, none) := by
  rw [addrOf, ha]

theorem addrOf_post (ha : readA s c a = .ok x) (n : BitVec 8) : addrOf s c a (.post n) = .ok (x, some (x + n.signExtend 32)) := by
  rw [addrOf, ha]

theorem addrOf_postM (ha : readA s c a = .ok x) {m : MReg} {v : W64} (hm : readM s c m = .ok v) :
    addrOf s c a (.postM m) = .ok (x, some (updAddr x v)) := by
  simp only [addrOf, ha, hm]

theorem addrOf_preM (ha : readA s c a = .ok x) {m : MReg} {v : W64} (hm : readM s c m = .ok v) :
    addrOf s c a (.preM m) = .ok (updAddr x v, some (updAddr x v)) := by
  simp only [addrOf, ha, hm]

end

/-! ### The fields of a modifier (R107) -/

theorem toNat_append_eq_add {m n : Nat} (x : BitVec m) (y : BitVec n) : (x ++ y).toNat = x.toNat * 2 ^ n + y.toNat := by
  rw [BitVec.toNat_append, ← Nat.shiftLeft_add_eq_or_of_lt y.isLt, Nat.shiftLeft_eq]

section
variable (mode : BitVec 2) (hi : BitVec 30) (r : BitVec 24) (k : BitVec 6) (inc : W32) (cinc : BitVec 16) (cb : BitVec 28) (cl : BitVec 18)

theorem toNat_linear : (mode ++ hi ++ inc : W64).toNat = mode.toNat * 2 ^ 62 + hi.toNat * 2 ^ 32 + inc.toNat := by
  rw [toNat_append_eq_add, toNat_append_eq_add]
  omega

theorem toNat_window : (mode ++ r ++ k ++ inc : W64).toNat = mode.toNat * 2 ^ 62 + r.toNat * 2 ^ 38 + k.toNat * 2 ^ 32 + inc.toNat := by
  rw [toNat_append_eq_add, toNat_append_eq_add, toNat_append_eq_add]
  omega

theorem toNat_circular :
    (mode ++ cinc ++ cb ++ cl : W64).toNat = mode.toNat * 2 ^ 62 + cinc.toNat * 2 ^ 46 + cb.toNat * 2 ^ 18 + cl.toNat := by
  rw [toNat_append_eq_add, toNat_append_eq_add, toNat_append_eq_add]
  omega

theorem linear_mode : bits (mode ++ hi ++ inc : W64).toNat 62 2 = mode.toNat := by
  rw [toNat_linear, bits]
  omega

theorem linear_inc : bits (mode ++ hi ++ inc : W64).toNat 0 32 = inc.toNat := by
  rw [toNat_linear, bits]
  omega

theorem window_mode : bits (mode ++ r ++ k ++ inc : W64).toNat 62 2 = mode.toNat := by
  rw [toNat_window, bits]
  omega

theorem window_k : bits (mode ++ r ++ k ++ inc : W64).toNat 32 6 = k.toNat := by
  rw [toNat_window, bits]
  omega

theorem window_inc : bits (mode ++ r ++ k ++ inc : W64).toNat 0 32 = inc.toNat := by
  rw [toNat_window, bits]
  omega

theorem circular_mode : bits (mode ++ cinc ++ cb ++ cl : W64).toNat 62 2 = mode.toNat := by
  rw [toNat_circular, bits]
  omega

theorem circular_cinc : bits (mode ++ cinc ++ cb ++ cl : W64).toNat 46 16 = cinc.toNat := by
  rw [toNat_circular, bits]
  omega

theorem circular_base : bits (mode ++ cinc ++ cb ++ cl : W64).toNat 18 28 = cb.toNat := by
  rw [toNat_circular, bits]
  omega

theorem circular_len : bits (mode ++ cinc ++ cb ++ cl : W64).toNat 0 18 = cl.toNat := by
  rw [toNat_circular, bits]
  omega

/-! ### What MSET stores (R107) -/

theorem modStore_linear : modStore (0#2 ++ hi ++ inc) = 0#32 ++ inc := by
  have hmask : (0xFFFFFFFF#64 : W64) = 0#32 ++ BitVec.allOnes 32 := by decide
  have hhi : (0#2 ++ hi) &&& 0#32 = 0#32 := BitVec.and_zero
  rw [modStore, linear_mode]
  change (0#2 ++ hi) ++ inc &&& 0xFFFFFFFF#64 = 0#32 ++ inc
  rw [hmask, BitVec.and_append, hhi, BitVec.and_allOnes]

/-- The mask of a window mode keeps the mode, K and INC, and clears the reserved bits between. -/
theorem window_and_mask :
    (mode ++ r ++ k ++ inc : W64) &&& (mode ++ 0#24 ++ BitVec.allOnes 6 ++ BitVec.allOnes 32 : W64) = mode ++ 0#24 ++ k ++ inc := by
  rw [BitVec.and_append, BitVec.and_append, BitVec.and_append, BitVec.and_self, BitVec.and_zero, BitVec.and_allOnes, BitVec.and_allOnes]

theorem modStore_modulo : modStore (1#2 ++ r ++ k ++ inc) = 1#2 ++ 0#24 ++ k ++ inc := by
  rw [modStore, window_mode]
  exact window_and_mask 1#2 r k inc

theorem modStore_bitReversed : modStore (2#2 ++ r ++ k ++ inc) = 2#2 ++ 0#24 ++ k ++ inc := by
  rw [modStore, window_mode]
  exact window_and_mask 2#2 r k inc

theorem modStore_circular : modStore (3#2 ++ cinc ++ cb ++ cl) = 3#2 ++ cinc ++ cb ++ cl := by
  rw [modStore, circular_mode]
  rfl

end

/-! ### The four updates (R108) -/

theorem ofInt_toNat_add_toInt {n : Nat} (a : W32) (v : BitVec n) : BitVec.ofInt 32 ((a.toNat : Int) + v.toInt) = a + v.signExtend 32 := by
  rw [BitVec.ofInt_add, BitVec.ofInt_natCast, BitVec.ofNat_toNat, BitVec.setWidth_eq]
  rfl

/-- An address moved inside its window of 2^k bytes is the window's start and the new offset. -/
theorem toNat_in_window (a : W32) {k y : Nat} (hk : k ≤ 32) (hy : y < 2 ^ k) :
    (BitVec.ofNat 32 (a.toNat - a.toNat % 2 ^ k + y)).toNat = a.toNat - a.toNat % 2 ^ k + y := by
  have hsplit : 2 ^ 32 = 2 ^ k * 2 ^ (32 - k) := by rw [← Nat.pow_add, Nat.add_sub_cancel' hk]
  have hstart : a.toNat - a.toNat % 2 ^ k = 2 ^ k * (a.toNat / 2 ^ k) := by
    have := Nat.div_add_mod a.toNat (2 ^ k)
    omega
  have hq : a.toNat / 2 ^ k + 1 ≤ 2 ^ (32 - k) := Nat.div_lt_of_lt_mul (hsplit ▸ a.isLt)
  have hfit := Nat.mul_le_mul_left (2 ^ k) hq
  rw [BitVec.toNat_ofNat, Nat.mod_eq_of_lt]
  rw [hstart]
  rw [Nat.mul_succ] at hfit
  omega

theorem wrap_lt (k : Nat) (z : Int) : wrap k z < 2 ^ k := by
  have := Int.emod_lt_of_pos z (b := (2 ^ k : Nat)) (by positivity)
  have := Int.emod_nonneg z (b := (2 ^ k : Nat)) (by positivity)
  rw [wrap]
  omega

section
variable {m : W64} (a : W32) {inc : W32} {k : BitVec 6} {cinc : BitVec 16} {cb : BitVec 28} {cl : BitVec 18}

theorem updAddr_linear (hm : bits m.toNat 62 2 = 0) (hi : bits m.toNat 0 32 = inc.toNat) : updAddr a m = a + inc := by
  simp only [updAddr, hm, hi, toS_toNat, Nat.ofNat_pos, ofNat_wrap, ofInt_toNat_add_toInt, BitVec.signExtend_eq]

theorem updAddr_modulo (hm : bits m.toNat 62 2 = 1) (hk : bits m.toNat 32 6 = k.toNat) (hi : bits m.toNat 0 32 = inc.toNat) :
    (updAddr a m).toNat = a.toNat - a.toNat % 2 ^ min k.toNat 32 + wrap (min k.toNat 32) (a.toNat + inc.toInt) := by
  simp only [updAddr, hm, hk, hi, toS_toNat, Nat.ofNat_pos]
  exact toNat_in_window a (Nat.min_le_right _ _) (wrap_lt _ _)

theorem updAddr_bitReversed (hm : bits m.toNat 62 2 = 2) (hk : bits m.toNat 32 6 = k.toNat) (hi : bits m.toNat 0 32 = inc.toNat) :
    let kk := min k.toNat 32
    (updAddr a m).toNat = a.toNat - a.toNat % 2 ^ kk +
      revBits kk ((revBits kk (a.toNat % 2 ^ kk) + revBits kk (wrap kk inc.toInt)) % 2 ^ kk) := by
  simp only [updAddr, hm, hk, hi, toS_toNat, Nat.ofNat_pos]
  exact toNat_in_window a (Nat.min_le_right _ _) (revBits_lt _ _)

theorem updAddr_circular_empty (hm : bits m.toNat 62 2 = 3) (hi : bits m.toNat 46 16 = cinc.toNat) (hl : bits m.toNat 0 18 = 0) :
    updAddr a m = a + cinc.signExtend 32 := by
  simp only [updAddr, hm, hi, hl, toS_toNat, Nat.ofNat_pos, ofNat_wrap, ofInt_toNat_add_toInt, Nat.zero_mul, if_pos]

theorem updAddr_circular (hm : bits m.toNat 62 2 = 3) (hi : bits m.toNat 46 16 = cinc.toNat) (hb : bits m.toNat 18 28 = cb.toNat)
    (hl : bits m.toNat 0 18 = cl.toNat) (hne : cl ≠ 0) :
    updAddr a m = BitVec.ofInt 32 (16 * (cb.toNat : Int) + ((a.toNat : Int) - 16 * (cb.toNat : Int) + cinc.toInt) % (16 * (cl.toNat : Int))) := by
  have hlen : cl.toNat * 16 ≠ 0 := by
    have : cl.toNat ≠ 0 := fun h => hne (BitVec.eq_of_toNat_eq h)
    omega
  have hoff : 0 ≤ ((a.toNat : Int) - 16 * (cb.toNat : Int) + cinc.toInt) % (16 * (cl.toNat : Int)) := Int.emod_nonneg _ (by omega)
  simp only [updAddr, hm, hi, hb, hl, toS_toNat, Nat.ofNat_pos, if_neg hlen]
  rw [← BitVec.ofInt_natCast]
  congr 1
  push_cast
  rw [Int.mul_comm (cb.toNat : Int), Int.mul_comm (cl.toNat : Int), Int.toNat_of_nonneg hoff]

end

end Sys2Proof.Machine

open Sys2Proof Sys2Proof.Machine Sys2Proof.Stated

/-- Settles O6: each operand form and each mode's update by its own lemma, at the fields that the modifier's layout gives. -/
theorem addressFormsAndUpdates : Obligations.AddressFormsAndUpdates := by
  refine ⟨?_, ?_⟩
  · intro s c a x ha
    exact ⟨fun n => ⟨addrOf_off ha n, addrOf_post ha n⟩, fun m v hm => ⟨addrOf_postM ha hm, addrOf_preM ha hm⟩⟩
  · intro a inc k cinc cb cl
    refine ⟨?_, ?_, ?_, ?_, ?_, ?_⟩
    · exact updAddr_linear a (linear_mode 0 0 inc) (linear_inc 0 0 inc)
    · exact updAddr_modulo a (window_mode 1 0 k inc) (window_k 1 0 k inc) (window_inc 1 0 k inc)
    · simp only [mirrored_eq_revBits]
      exact updAddr_bitReversed a (window_mode 2 0 k inc) (window_k 2 0 k inc) (window_inc 2 0 k inc)
    · rintro rfl
      exact updAddr_circular_empty a (circular_mode 3 cinc cb 0) (circular_cinc 3 cinc cb 0) (circular_len 3 cinc cb 0)
    · exact updAddr_circular a (circular_mode 3 cinc cb cl) (circular_cinc 3 cinc cb cl) (circular_base 3 cinc cb cl)
        (circular_len 3 cinc cb cl)
    · intro hi r
      exact ⟨modStore_linear hi inc, modStore_modulo r k inc, modStore_bitReversed r k inc, modStore_circular cinc cb cl⟩

end

section
namespace Sys2Proof.Machine
open Sys2Proof.Stated

/-! ### The cleared set (R202) -/

theorem vector_getD_replicate {α : Type} (n i : Nat) (x : α) : (Vector.replicate n x).getD i x = x := by
  rw [Vector.getD, Vector.toArray_replicate, Array.getD_eq_getD_getElem?, Array.getElem?_replicate]
  split <;> rfl

@[simp] theorem arrayCell_zero (i j : Nat) : ArrayCell .zero i j = 0 := by
  simp only [ArrayCell, ArraySet.zero, vector_getD_replicate]
  rfl

@[simp] theorem ArraySet.zero_dcol (j : Fin 129) : ArraySet.zero.dcol[j] = 0 := Vector.getElem_replicate j.isLt

/-! ### The operations on the sets (R199, R202) -/

/-- The context after MSWAP: the sets exchanged, the drained sums of the new draining set cleared. -/
def Context.swapSets (c : Context) : Context :=
  { c with w := { c.w with work := c.w.drain, drain := { c.w.work with dmask := 0, dcol := .replicate 129 0 } } }

theorem exec_mclr_work (s : State) :
    exec (.mclr false) s = .next (s.setCtx s.iss.ctx { s.cur with w := { s.cur.w with work := .zero } }) :=
  runSlot_ok (f := slotMclr false) rfl

theorem exec_mclr_drain (s : State) :
    exec (.mclr true) s = .next (s.setCtx s.iss.ctx { s.cur with w := { s.cur.w with drain := .zero } }) :=
  runSlot_ok (f := slotMclr true) rfl

theorem exec_mswap (s : State) : exec .mswap s = .next (s.setCtx s.iss.ctx s.cur.swapSets) :=
  runSlot_ok (f := slotMswap) rfl

theorem Context.swapSets_dcol (c : Context) (j : Fin 129) : c.swapSets.w.drain.dcol[j] = 0 := Vector.getElem_replicate j.isLt

theorem slotMcfg_castLE (pa pb : Fin 4) (h : 4 ≤ 16) (s : State) (c : Context) :
    slotMcfg (pa.castLE h) (pb.castLE h) s c = .ok { c with w := { c.w with pa := pa, pb := pb } } := by
  simp only [slotMcfg, Fin.val_castLE, Fin.ofNat_val_eq_self]

theorem exec_mcfg (pa pb : Fin 4) (h : 4 ≤ 16) (s : State) :
    exec (.mcfg (pa.castLE h) (pb.castLE h)) s = .next (s.setCtx s.iss.ctx { s.cur with w := { s.cur.w with pa := pa, pb := pb } }) :=
  runSlot_ok (slotMcfg_castLE pa pb h s s.cur)

/-! ### The no-operations of the six slots (R60) -/

theorem exec_nop {i : Instr} (hi : i ∈ [Instr.bnop, .snop, .anop, .vnop, .mnop, .xnop]) (s : State) :
    exec i s = .next (s.setCtx s.iss.ctx s.cur) := by
  have hslot : exec i s = settle s (.ok s.cur) := by
    simp only [List.mem_cons, List.not_mem_nil, or_false] at hi
    obtain rfl | rfl | rfl | rfl | rfl | rfl := hi <;> rfl
  exact hslot.trans (settle_ok s s.cur)

end Sys2Proof.Machine

open Sys2Proof Sys2Proof.Machine Sys2Proof.Stated

/-- Settles O20: each operation completes with the context its own lemma gives, and the cleared fields read 0. -/
theorem arraySetOperations : Obligations.ArraySetOperations := by
  intro s
  refine ⟨⟨exec_mclr_work s, exec_mclr_drain s, arrayCell_zero, rfl, ArraySet.zero_dcol⟩, ?_, ?_, ?_⟩
  · exact ⟨s.cur.swapSets, exec_mswap s, rfl, rfl, rfl, rfl, s.cur.swapSets_dcol⟩
  · exact fun pa pb => exec_mcfg pa pb (by decide) s
  · exact fun i hi => exec_nop hi s

end
